-- ==== Sys2Proof/Word.lean ====
section
/-! DEFINITION. The plain words every file uses: bytes, byte strings, and two's complement reading. -/

namespace Sys2Proof

/-- One byte, as the formats of the spec count them. -/
abbrev Byte := BitVec 8

/-- A byte string, first byte first. -/
abbrev Bytes := List Byte

/-- The number `n` modulo `2^w`. -/
def wrap (w n : Nat) : Nat := n % 2 ^ w

/-- The two's complement reading of the low `w` bits of `n`. -/
def toSigned (w n : Nat) : Int :=
  let m := n % 2 ^ w
  if m < 2 ^ (w - 1) then (m : Int) else (m : Int) - (2 ^ w : Nat)

/-- The two's complement bits, as a number, of `v` in `w` bits. -/
def ofSigned (w : Nat) (v : Int) : Nat := (v % (2 ^ w : Nat)).toNat

end Sys2Proof
end

