-- ==== Sys2Proof/Syntax.lean ====
section
/-! DEFINITION. The commands of the block: one constructor for each row of the spec's table of operations and events,
in the table's order. The first operand `t` is the instant of the event, in ns of device time (DESIGN CHOICE, log 1). A unit is named
by a `Fin` of its count (Table 1-1); what comes from outside the block (frames, datagrams, samples, measurements) is an
operand of its own (DESIGN CHOICE, log 14). -/

namespace Sys2Proof

/-- Sample planes of a picture: width, height, bit depth, rows of Y, Cb and Cr (4:2:0). -/
structure Planes where
  w : Nat
  h : Nat
  depth : Nat
  y : List (List Nat)
  cb : List (List Nat)
  cr : List (List Nat)
deriving DecidableEq, Repr

/-- The UDP part of a packet: ports, payload, whether the UDP length exceeds the IP payload (R116), whether its
checksum fails (R110). -/
structure UdpPart where
  sport : Nat
  dport : Nat
  payload : Bytes
  tooLong : Bool
  csumBad : Bool
deriving DecidableEq, Repr

/-- The IP part of a frame: version 6 or 4, protocol, addresses as literal text (DESIGN CHOICE, log 19), whether it is a fragment, its UDP
part when it is UDP. -/
structure IpPart where
  v6 : Bool
  proto : Nat
  src : Bytes
  dst : Bytes
  fragment : Bool
  udp : Option UdpPart
deriving DecidableEq, Repr

/-- An Ethernet frame as it arrives: length with FCS, FCS good, the 802.1Q tags (PCP, VLAN), destination MAC,
Ethertype, IP part, the bytes after the Ethertype, or after the IP header when it is IP without UDP. -/
structure EthFrame where
  len : Nat
  fcsOk : Bool
  tags : List (Nat × Nat)
  dst : Nat
  etherType : Nat
  ip : Option IpPart
  data : Bytes
deriving DecidableEq, Repr

/-- Kinds of picture that matter to start points and taint (R144, R160). -/
inductive PicKind where
  | idr | bla | cra | recovery | rasl | intra | other
deriving DecidableEq, Repr

/-- A parameter set as the controller parsed it (Tables 5-1 and 5-2): `profile` 0 Main or Constrained Baseline, 1 Main
10 or (H.264) Main, 2 High, 9 any other; `level` times 10; `tools` a feature Table 5-1 excludes; crop and output size;
`dpb` the decoded picture buffer need; `codedBound` the byte bound of the signalled level and tier. -/
structure ParamSet where
  h265 : Bool
  profile : Nat
  level : Nat
  highTier : Bool
  progressive : Bool
  chroma : Nat
  depth : Nat
  tools : Bool
  width : Nat
  height : Nat
  outW : Nat
  outH : Nat
  dpb : Nat
  reorder : Nat
  codedBound : Nat
  transfer : Nat
  primaries : Nat
  matrix : Nat
  fullRange : Bool
deriving DecidableEq, Repr

/-- What the controller reads from the slice headers and SEI of one picture: its kind, its picture order count, the
recovery count, the counts of the pictures it refers to, those it keeps (short and long term), whether it is itself a
reference, its slices and coded bytes, how many pictures go before it in output order that have not been output. -/
structure PicHeader where
  kind : PicKind
  poc : Int
  recoveryCnt : Int
  refs : List Int
  keepShort : List Int
  keepLong : List Int
  isRef : Bool
  slices : Nat
  codedBytes : Nat
  ahead : Nat
deriving DecidableEq, Repr

/-- What parsing an access unit found (R141, Table 5-7). -/
inductive Parsed where
  | picture (ps : Option ParamSet) (hdr : PicHeader)
  | headersOnly (ps : Option ParamSet)
  | syntaxError
deriving DecidableEq, Repr

/-- What a compare register of R135 is for. -/
inductive CompareTarget where
  | trigger (i : Fin 16)
  | launch (ring : Fin 64)
  | grid (g : Fin 8)
deriving DecidableEq, Repr

/-- A reply of an RTSP server (R125): what a DESCRIBE offers (clock rate, RTP over TCP only, SAVP, RTSP 1.0 only,
sprop-max-don-diff, the IEEE 1588 grandmaster its RFC 7273 signalling names), SETUP with a multicast group when the
server names one, PLAY with the session timeout in s, an error, a lost connection. -/
inductive RtspReply where
  | described (clockRate : Nat) (interleavedOnly savp rtsps v1Only : Bool) (donDiff : Nat) (gm : Option Nat)
  | setUp (group : Option Bytes)
  | playing (timeout : Nat)
  | failed
  | lost
deriving DecidableEq, Repr

/-- What a sink reports in READING (R229): the 257 bytes of head[h].sink_caps, and what they say: the rate codes of
Table 8-3 it supports, its maximum lane count, down-spread and VSC SDP colorimetry support; its EDID blocks. -/
structure SinkCaps where
  dpcd : Bytes
  rates : List Nat
  lanes : Nat
  spread : Bool
  vsc : Bool
  edid : Bytes
deriving DecidableEq, Repr

/-- One row of a relay frame as the engine codes it at the quantiser of R256: its coded, its held and its flat slice. -/
structure CodedRow where
  coded : Bytes
  skip : Bytes
  flat : Bytes
deriving DecidableEq, Repr

/-- A touch scan as it arrives from the AFE die (R268, R290): transfer and channels good, the pins implicated in a
fault, the listen integral of each sense electrode, the measurement of each node by drive electrode. -/
structure ScanData where
  good : Bool
  badPins : List Nat
  listen : List Int
  nodes : List (List Int)
deriving DecidableEq, Repr

/-- The refresh-rate field of MR4 (R310, R312). -/
inductive Mr4 where
  | nominal | twice | four | hot
deriving DecidableEq, Repr

/-- What a read of a burst by the scrub engine found (R318, R320). -/
inductive Found where
  | good | corrected | uncorrectable
deriving DecidableEq, Repr

/-- A USDO request of CANopen FD (R345): reads and writes, expedited or in segments. -/
inductive UsdoReq where
  | read (index sub : Nat)
  | readSegment
  | write (index sub : Nat) (data : Bytes)
  | writeStart (index sub total : Nat)
  | writeSegment (data : Bytes)
deriving DecidableEq, Repr

/-- Kinds of access (R370). -/
inductive Access where
  | read | write | fetch
deriving DecidableEq, Repr

/-- A path an Anchor protocol message came on (R388). -/
inductive AnchorMsg where
  | qdp (port : Fin 4) (addr : Bytes) (dgram : Bytes)
  | can (port : Fin 2) (id : Nat) (data : Bytes)
deriving DecidableEq, Repr

/-- The training outcome of a channel (R308, R313, R314): density in Gb, ranks, the activate limit its mode registers
declare, pass of step 7, margins of the attempt (read eye width in 1/1000 UI, read eye height in mV, write eye width, write
eye height, CA eye width). -/
structure ChanTrain where
  density : Nat
  ranks : Nat
  raaLimit : Nat
  pass : Bool
  readW : Nat
  readH : Nat
  writeW : Nat
  writeH : Nat
  caW : Nat
deriving DecidableEq, Repr

/-- The commands. -/
inductive Instr where
  | refin100Lost (t : Nat)
  | scanoutUnderflow (t : Nat) (h : Fin 32) (line x0 x1 : Nat)
  | layerCutOff (t : Nat) (layer : Fin 512)
  | streamLossTimeout (t : Nat) (s : Fin 128)
  | headFrameStart (t : Nat) (h : Fin 32)
  | headActiveEnd (t : Nat) (h : Fin 32)
  | sealWindowPassed (t : Nat) (h : Fin 32)
  | witnessSigned (t : Nat) (ok : Bool)
  | witnessAckTimeout (t : Nat) (seq : Nat)
  | pitchStart (t : Nat) (fence : Bool)
  | commitValidationDone (t : Nat) (g : Fin 8)
  | commitDue (t : Nat) (g : Fin 8)
  | commitApply (t : Nat) (g : Fin 8)
  | compareFire (t : Nat) (target : CompareTarget)
  | frameReceived (t : Nat) (p : Fin 4) (f : EthFrame)
  | blockLockLossTimeout (t : Nat) (p : Fin 4)
  | blockLockReturn (t : Nat) (p : Fin 4)
  | frameTransmitStart (t : Nat) (p : Fin 4)
  | launchLateWindowExpiry (t : Nat) (ring : Fin 64)
  | frameTransmitDone (t : Nat) (p : Fin 4)
  | auRelease (t : Nat) (s : Fin 128)
  | ssrcIdleTimeout (t : Nat) (s : Fin 128)
  | rtcpSrReceived (t : Nat) (s : Fin 128) (ssrc ntpSec ntpFrac rtp : Nat) (gm : Option Nat)
  | rtcpRrTimer (t : Nat) (s : Fin 128)
  | rtspResponse (t : Nat) (s : Fin 128) (r : RtspReply)
  | rtspRetryTimer (t : Nat) (s : Fin 128)
  | rtspKeepaliveTimer (t : Nat) (s : Fin 128)
  | multicastQueryReceived (t : Nat) (p : Fin 4)
  | multicastReportTimer (t : Nat) (p : Fin 4)
  | ptpSyncReceived (t : Nat) (p : Fin 4) (gm : Nat) (offset : Int) (servo : Nat)
  | ptpAnnounceReceived (t : Nat) (p : Fin 4) (gm priority1 priority2 : Nat) (utc : Int)
  | ptpPdelayReceived (t : Nat) (p : Fin 4) (request : Bool)
  | ptpSyncTimeout (t : Nat)
  | holdoverLimitExceeded (t : Nat)
  | gmSyncTimer (t : Nat)
  | gmAnnounceTimer (t : Nat)
  | auParsed (t : Nat) (s : Fin 128) (p : Parsed)
  | decodeComplete (t : Nat) (e : Fin 9) (planes : Planes) (sliceError refUnreadable : Bool)
  | decEngineSelfCheckFail (t : Nat) (e : Fin 9)
  | startWaitExpiry (t : Nat) (s : Fin 128)
  | firIntervalExpiry (t : Nat) (s : Fin 128)
  | pipeSelfCheckFail (t : Nat) (k : Fin 18) (bank : Option (Fin 17))
  | slotPost (t : Nat) (slot : Fin 256) (buf : Fin 4) (dataTime : Nat)
  | writebackFrameComplete (t : Nat) (h : Fin 32)
  | bivouacBuildStart (t : Nat) (k : Fin 18)
  | bivouacBuildComplete (t : Nat) (k : Fin 18) (blocks : Nat) (bank : Fin 68)
  | bivouacReadError (t : Nat) (bank : Fin 68) (h : Fin 32) (line0 line1 : Nat) (retryOk : Bool)
  | hpdLowTimeout (t : Nat) (h : Fin 32)
  | hpdHighStable (t : Nat) (h : Fin 32)
  | irqHpd (t : Nat) (h : Fin 32) (lowUs : Nat) (locked : List Nat)
  | linkStatusPoll (t : Nat) (h : Fin 32) (locked symbolErrors : List Nat)
  | readingComplete (t : Nat) (h : Fin 32) (caps : SinkCaps)
  | trainingPhaseDone (t : Nat) (h : Fin 32) (locked : List Nat) (drive : List Nat)
  | trainingAttemptTimeout (t : Nat) (h : Fin 32)
  | linkRetryTimer (t : Nat) (h : Fin 32)
  | linkRestoreTimer (t : Nat) (h : Fin 32)
  | laneCalibrationTimer (t : Nat) (lane : Fin 72) (fom1 fom2 eye : Nat)
  | laneCorrectionApply (t : Nat) (lane : Fin 72)
  | ropeStepComplete (t : Nat) (locked : List (Nat × Nat)) (partnerMax : Nat)
  | ropeStepTimeout (t : Nat)
  | ropeBringupRetryTimer (t : Nat)
  | ropeLaneMarkerReceived (t : Nat) (lane : Fin 4) (block : Bytes) (skewUi : Nat)
  | ropeLaneLoss (t : Nat) (lane : Fin 4)
  | ropeLaneRetryTimeout (t : Nat) (lane : Fin 4)
  | ropeFlitReceived (t : Nat) (flit : Bytes)
  | ropeReplayTimeout (t : Nat)
  | ropeAckTimer (t : Nat)
  | ropeIdleTimeout (t : Nat)
  | ropeIdleExit (t : Nat)
  | encodeInputCutOff (t : Nat) (c : Fin 32)
  | encodeFrameComplete (t : Nat) (e : Fin 5) (params : List Bytes) (rows : List CodedRow) (estPrev estQuality : Nat)
  | rtcpFirReceived (t : Nat) (c : Fin 32)
  | rtcpPliReceived (t : Nat) (c : Fin 32)
  | refreshIntervalTimer (t : Nat) (c : Fin 32)
  | relaySrTimer (t : Nat) (c : Fin 32)
  | encEngineSelfCheckFail (t : Nat) (e : Fin 5)
  | verticalScanStart (t : Nat) (n : Fin 4)
  | horizontalScanStart (t : Nat) (n : Fin 4)
  | scanComplete (t : Nat) (n : Fin 4) (scan : ScanData)
  | holdComplete (t : Nat) (n : Fin 4) (region : Fin 256)
  | contactExpiry (t : Nat) (n : Fin 4) (contact : Fin 10)
  | baselineTimeout (t : Nat) (n : Fin 4)
  | pdetPresent (t : Nat) (n : Fin 4)
  | pdetAbsent (t : Nat) (n : Fin 4)
  | electrodeTestComplete (t : Nat) (n : Fin 4) (capFf : List (Nat × Nat))
  | memCommandSlot (t : Nat) (ch : Fin 16)
  | trefiExpiry (t : Nat) (ch : Fin 16) (rank : Fin 2)
  | rhWindowStart (t : Nat) (ch : Fin 16)
  | imbalanceWindowEnd (t : Nat) (ch : Fin 16)
  | mr4Poll (t : Nat) (ch : Fin 16) (field : Mr4)
  | wckOscillatorRead (t : Nat) (ch : Fin 16) (rank : Fin 2) (driftPs : Int)
  | memUncorrectableRead (t : Nat) (addr : Nat)
  | memRereadDone (t : Nat) (addr : Nat) (ok : Bool)
  | spareRowCopyDone (t : Nat) (ch : Fin 16) (rank : Fin 2) (bank : Fin 16) (row : Nat) (poison : List Nat)
  | scrubPass (t : Nat) (addr : Nat) (found : Found)
  | qdpHello (t : Nat) (p : Fin 4) (src : Bytes) (sport : Nat) (dgram : Bytes)
  | qdpChallenge (t : Nat) (p : Fin 4) (src : Bytes) (sport : Nat) (dgram : Bytes)
  | qdpProve (t : Nat) (p : Fin 4) (src : Bytes) (sport : Nat) (dgram : Bytes)
  | qdpAccept (t : Nat) (p : Fin 4) (src : Bytes) (sport : Nat) (dgram : Bytes)
  | qdpClose (t : Nat) (p : Fin 4) (src : Bytes) (sport : Nat) (dgram : Bytes)
  | qdpKeepalive (t : Nat) (p : Fin 4) (src : Bytes) (sport : Nat) (dgram : Bytes)
  | qdpRead (t : Nat) (p : Fin 4) (src : Bytes) (sport : Nat) (dgram : Bytes)
  | qdpWrite (t : Nat) (p : Fin 4) (src : Bytes) (sport : Nat) (dgram : Bytes)
  | qdpSegment (t : Nat) (p : Fin 4) (src : Bytes) (sport : Nat) (dgram : Bytes)
  | qdpSegmentAck (t : Nat) (p : Fin 4) (src : Bytes) (sport : Nat) (dgram : Bytes)
  | qdpSubscribe (t : Nat) (p : Fin 4) (src : Bytes) (sport : Nat) (dgram : Bytes)
  | qdpAck (t : Nat) (p : Fin 4) (src : Bytes) (sport : Nat) (dgram : Bytes)
  | qdpIdleTimeout (t : Nat) (session : Nat)
  | qdpSegmentTimeout (t : Nat) (session : Nat)
  | qdpPeerRetry (t : Nat) (peer : Fin 2)
  | qdpLockoutExpiry (t : Nat) (addr : Bytes)
  | canNmtCommand (t : Nat) (p : Fin 2) (command node : Nat)
  | canUsdoRequest (t : Nat) (p : Fin 2) (node : Nat) (req : UsdoReq)
  | canUsdoTimeout (t : Nat) (p : Fin 2)
  | canRpdo (t : Nat) (p : Fin 2) (n : Fin 8) (data : Bytes)
  | canTpdoTimer (t : Nat) (p : Fin 2) (n : Fin 8)
  | canHeartbeatTimer (t : Nat)
  | canHeartbeatMissed (t : Nat) (p : Fin 2) (consumer : Fin 4)
  | canClassicalFrame (t : Nat) (p : Fin 2)
  | canErrorState (t : Nat) (p : Fin 2) (busOff : Bool)
  | canBusOffRecovery (t : Nat) (p : Fin 2)
  | coreSelfCheckFail (t : Nat) (c : Fin 13)
  | coreWatchdogExpiry (t : Nat) (c : Fin 13)
  | coreRunPeriod (t : Nat) (c : Fin 14)
  | secCoreSelfCheckFail (t : Nat)
  | mbxPost (t : Nat) (m : Fin 32) (d : Fin 2) (master : Fin 55) (len : Nat)
  | mbxWithdraw (t : Nat) (m : Fin 32) (d : Fin 2) (master : Fin 55)
  | mbxTake (t : Nat) (m : Fin 32) (d : Fin 2) (master : Fin 55)
  | mbxAckIn (t : Nat) (m : Fin 32) (d : Fin 2) (master : Fin 55) (seq reply : Nat)
  | mbxResultClear (t : Nat) (m : Fin 32) (d : Fin 2) (master : Fin 55)
  | mbxAckTimeout (t : Nat) (m : Fin 32) (d : Fin 2)
  | registerWrite (t : Nat) (master : Fin 55) (addr width value : Nat)
  | masterAccess (t : Nat) (master : Fin 55) (kind : Access) (scanout : Bool) (addr len : Nat) (data : Bytes) (found : Found)
  | protDrainEnd (t : Nat) (n : Fin 55)
  | cvuCtrlWrite (t : Nat) (u : Fin 8) (master : Fin 55) (value : Nat)
  | cvuDataWrite (t : Nat) (u : Fin 8) (master : Fin 55) (regWidth width value : Nat)
  | cvuFinish (t : Nat) (u : Fin 8) (master : Fin 55)
  | anchorBeat (t : Nat) (m : AnchorMsg)
  | anchorState (t : Nat) (m : AnchorMsg)
  | anchorRequest (t : Nat) (m : AnchorMsg)
  | anchorGrant (t : Nat) (m : AnchorMsg)
  | anchorRelease (t : Nat) (m : AnchorMsg)
  | anchorHealth (t : Nat) (m : AnchorMsg)
  | beatTimer (t : Nat)
  | stateTimer (t : Nat)
  | anchorContactTimeout (t : Nat)
  | memberAbsentTimeout (t : Nat) (m : Fin 2)
  | requestWindowExpiry (t : Nat)
  | leadPrePitch (t : Nat) (fence : Bool)
  | twinFenceRise (t : Nat)
  | recordClose (t : Nat)
  | recordReceived (t : Nat) (data : Bytes)
  | heartbeatSend (t : Nat)
  | heartbeatReceived (t : Nat) (data : Bytes)
  | twinIdentityReceived (t : Nat) (data : Bytes)
  | snapshotReceived (t : Nat) (parts : List Bytes)
  | bistComplete (t : Nat) (kind inst : Nat) (pass : Bool)
  | bistRotationTimer (t : Nat)
  | powerOn (t : Nat)
  | nresetAssert (t : Nat)
  | nresetRelease (t : Nat)
  | rootPllLock (t : Nat) (pairingOk flashOk : Bool)
  | memoryTrainingDone (t : Nat) (chans : List ChanTrain) (ppr : List Nat)
  | startupWipeDone (t : Nat) (ok : Bool) (us : Nat) (selfTestFailed : List (Nat × Nat))
  | imagesVerified (t : Nat) (flashOk : Bool)
  | firmwareInitDone (t : Nat)
  | railFault (t : Nat) (rail : Fin 9)
  | clockFault (t : Nat)
  | deviceWatchdogExpiry (t : Nat)
  | standbyWipeDone (t : Nat)
  | standbyReached (t : Nat)
  | wakePin (t : Nat)
  | wakeAlarm (t : Nat)
  | tamperMeshCheck (t : Nat) (mesh : Fin 2) (ok : Bool)
  | thermalCrossing (t : Nat) (temp : Int)
  | throttleStepTimer (t : Nat) (temp : Int)
  | thermalShutdownTrip (t : Nat)
  | energyPublish (t : Nat) (energyNj work : List Nat) (badSensors : List Nat)
  | debugUnlockAttempt (t : Nat)
  | journalAppendDone (t : Nat) (ticket : Nat)
  | processorRestartDone (t : Nat) (c : Fin 14)
  | railsInRange (t : Nat)
  | thermalShutdownRelease (t : Nat)
  | latchedWakeHoldExpiry (t : Nat)
  | ropeLaneRelock (t : Nat) (lane : Fin 4) (fom : Nat)
  | dmaEngineFault (t : Nat) (kind inst : Nat) (retryOk : Bool)
  | headOutputStageFault (t : Nat) (h : Fin 32) (retryOk : Bool)
deriving DecidableEq, Repr

end Sys2Proof
end

