-- ==== Sys2Proof/Config.lean ====
section
/-! DEFINITION. What the spec leaves open and the model does not fix: constants without a body, so that no proof can
see a value. Each is named in an assumption-log entry. -/

namespace Sys2Proof.Config

/-- The `n`-th free value of the run, 64 bits (DESIGN CHOICE, log 9): used where a rule asks for a random or unstated number. -/
opaque freeWord : Nat → BitVec 64

/-- The `n`-th free byte of the run (DESIGN CHOICE, log 9). -/
opaque freeByte : Nat → Byte

/-- ECDSA P-256 with SHA-256 over a content, by the key of a slot and of a key generation (R93; DESIGN CHOICE, log 10). -/
opaque ecdsaSign : Nat → Nat → Bytes → BitVec 512

/-- Whether a 64-byte signature over a content verifies under a public key (R93, R447; DESIGN CHOICE, log 10). -/
opaque ecdsaVerify : Bytes → Bytes → Bytes → Bool

/-- The public key, X then Y, of a key generation of a slot (R93; DESIGN CHOICE, log 10). -/
opaque publicKey : Nat → Nat → BitVec 512

/-- The fused Vendor key of QDP (R334; DESIGN CHOICE, log 10). -/
opaque vendorKey : BitVec 256

/-- The public keys that the boot chain verifies images with: 0 for firmware, 1 for configuration (R447; DESIGN CHOICE, log 10). -/
opaque imageKey : Nat → Bytes

/-- Whether a badge icon (Table 2-6 number) or glyph covers the point (x, y) of a cell of height G (R70; DESIGN CHOICE, log 18). -/
opaque badgeInk : Nat → Nat → Nat → Nat → Bool

/-- Built-in coefficient k of phase p for a class, a tap count (R196; DESIGN CHOICE, log 18). -/
opaque coefBuiltin : Nat → Nat → Nat → Nat → Int

/-- Built-in tone-map table m, word at a byte offset of Table 7-6 (R204; DESIGN CHOICE, log 18). -/
opaque toneBuiltin : Nat → Nat → BitVec 16

/-- What the spec does not state a result for: a function of the operands named at its use (DESIGN CHOICE, log 9). -/
opaque unstated : Nat → List Nat → BitVec 64

/-- The firmware image that the boot flash of a delivered device holds in slot A (DESIGN CHOICE, log 12). -/
opaque factoryFirmware : Bytes

end Sys2Proof.Config
end

