-- ==== Sys2Proof/Machine/Codes.lean ====
section
/-! DEFINITION. The status and event codes of Table 12-13 (R20, R351), by the names of the table. -/

namespace Sys2Proof.Machine.Code

/-- OK -/
abbrev ok : Nat := 0x0000
/-- NET_LINK_UP -/
abbrev netLinkUp : Nat := 0x1001
/-- NET_LINK_DOWN -/
abbrev netLinkDown : Nat := 0x1002
/-- NET_ADDR_CONFLICT -/
abbrev netAddrConflict : Nat := 0x1003
/-- NET_RING_OVERFLOW -/
abbrev netRingOverflow : Nat := 0x1004
/-- NET_FLOW_DUPLICATE -/
abbrev netFlowDuplicate : Nat := 0x1005
/-- RTP_MALFORMED -/
abbrev rtpMalformed : Nat := 0x1010
/-- RTP_PAYLOAD_UNSUPPORTED -/
abbrev rtpPayloadUnsupported : Nat := 0x1011
/-- AU_OVERSIZE -/
abbrev auOversize : Nat := 0x1012
/-- AU_INCOMPLETE -/
abbrev auIncomplete : Nat := 0x1013
/-- AU_NO_SLOT -/
abbrev auNoSlot : Nat := 0x1014
/-- RTP_SSRC_CHANGED -/
abbrev rtpSsrcChanged : Nat := 0x1015
/-- RTSP_SESSION_UP -/
abbrev rtspSessionUp : Nat := 0x1016
/-- RTSP_SESSION_FAILED -/
abbrev rtspSessionFailed : Nat := 0x1017
/-- TIME_LOCKED -/
abbrev timeLocked : Nat := 0x1020
/-- TIME_HOLDOVER -/
abbrev timeHoldover : Nat := 0x1021
/-- TIME_UNLOCKED -/
abbrev timeUnlocked : Nat := 0x1022
/-- TIME_STEPPED -/
abbrev timeStepped : Nat := 0x1023
/-- TIME_GM_CHANGED -/
abbrev timeGmChanged : Nat := 0x1024
/-- TIME_INCREMENT_RANGE -/
abbrev timeIncrementRange : Nat := 0x1025
/-- TIME_SERVO_ACTIVE -/
abbrev timeServoActive : Nat := 0x1026
/-- TIME_GRID_MISMATCH -/
abbrev timeGridMismatch : Nat := 0x1028
/-- CLK_REFIN_LOST -/
abbrev clkRefinLost : Nat := 0x1030
/-- NET_LAUNCH_LATE -/
abbrev netLaunchLate : Nat := 0x1040
/-- DEC_SYNTAX -/
abbrev decSyntax : Nat := 0x2001
/-- DEC_SLICE_DATA -/
abbrev decSliceData : Nat := 0x2002
/-- DEC_MISSING_REF -/
abbrev decMissingRef : Nat := 0x2003
/-- DEC_UNSUPPORTED -/
abbrev decUnsupported : Nat := 0x2004
/-- DEC_LEVEL_EXCEEDED -/
abbrev decLevelExceeded : Nat := 0x2005
/-- DEC_SIZE_EXCEEDED -/
abbrev decSizeExceeded : Nat := 0x2006
/-- DEC_DPB_SHORT -/
abbrev decDpbShort : Nat := 0x2007
/-- DEC_SLICE_LIMIT -/
abbrev decSliceLimit : Nat := 0x2008
/-- DEC_CODED_SIZE -/
abbrev decCodedSize : Nat := 0x2009
/-- DEC_CAPACITY -/
abbrev decCapacity : Nat := 0x2010
/-- DEC_RATE_EXCESS -/
abbrev decRateExcess : Nat := 0x2011
/-- DEC_SLOTS_EXHAUSTED -/
abbrev decSlotsExhausted : Nat := 0x2012
/-- DEC_CONTEXT_STATE -/
abbrev decContextState : Nat := 0x2020
/-- DEC_INTRA_REQUESTED -/
abbrev decIntraRequested : Nat := 0x2021
/-- DEC_RECOVERED -/
abbrev decRecovered : Nat := 0x2022
/-- DEC_ENGINE_FAULT -/
abbrev decEngineFault : Nat := 0x2030
/-- DEC_ENGINE_TRANSIENT -/
abbrev decEngineTransient : Nat := 0x2031
/-- DEC_ENGINE_RETIRED -/
abbrev decEngineRetired : Nat := 0x2032
/-- DEC_SPARE_ENGAGED -/
abbrev decSpareEngaged : Nat := 0x2033
/-- DEC_STREAM_SHED -/
abbrev decStreamShed : Nat := 0x2034
/-- DEC_CONTROLLER_RETIRED -/
abbrev decControllerRetired : Nat := 0x2035
/-- DEC_REF_UNREADABLE -/
abbrev decRefUnreadable : Nat := 0x2036
/-- COMMIT_APPLIED -/
abbrev commitApplied : Nat := 0x3001
/-- COMMIT_BUSY -/
abbrev commitBusy : Nat := 0x3002
/-- COMMIT_LAYER_FIELD -/
abbrev commitLayerField : Nat := 0x3003
/-- COMMIT_GROUP_CROSS -/
abbrev commitGroupCross : Nat := 0x3004
/-- COMMIT_HEAD_LAYERS -/
abbrev commitHeadLayers : Nat := 0x3005
/-- COMMIT_Z_DUPLICATE -/
abbrev commitZDuplicate : Nat := 0x3006
/-- COMMIT_TIMING -/
abbrev commitTiming : Nat := 0x3007
/-- COMMIT_OVERLAP -/
abbrev commitOverlap : Nat := 0x3008
/-- COMMIT_LINESTORE -/
abbrev commitLinestore : Nat := 0x3009
/-- COMMIT_PIPE_LOAD -/
abbrev commitPipeLoad : Nat := 0x300A
/-- COMMIT_WRITEBACK -/
abbrev commitWriteback : Nat := 0x300B
/-- COMMIT_PRESET_ABSENT -/
abbrev commitPresetAbsent : Nat := 0x300C
/-- COMMIT_LAYER_LOCKED -/
abbrev commitLayerLocked : Nat := 0x300D
/-- SLOT_BUSY -/
abbrev slotBusy : Nat := 0x3020
/-- PIX_COEF_INVALID -/
abbrev pixCoefInvalid : Nat := 0x3030
/-- PIX_TONE_INVALID -/
abbrev pixToneInvalid : Nat := 0x3031
/-- PIX_SET_IN_USE -/
abbrev pixSetInUse : Nat := 0x3032
/-- PIX_TONE_MISMATCH -/
abbrev pixToneMismatch : Nat := 0x3033
/-- LINESTORE_TAPS_REDUCED -/
abbrev linestoreTapsReduced : Nat := 0x3034
/-- LINESTORE_BANK_SPARED -/
abbrev linestoreBankSpared : Nat := 0x3035
/-- PIPE_FAULT -/
abbrev pipeFault : Nat := 0x3040
/-- PIPE_TRANSIENT -/
abbrev pipeTransient : Nat := 0x3041
/-- PIPE_RETIRED -/
abbrev pipeRetired : Nat := 0x3042
/-- PIPE_SPARE_ENGAGED -/
abbrev pipeSpareEngaged : Nat := 0x3043
/-- HEAD_REMAPPED -/
abbrev headRemapped : Nat := 0x3044
/-- BIVOUAC_DEFERRED -/
abbrev bivouacDeferred : Nat := 0x3050
/-- BIVOUAC_FULL -/
abbrev bivouacFull : Nat := 0x3051
/-- BIVOUAC_TRANSIENT -/
abbrev bivouacTransient : Nat := 0x3052
/-- BIVOUAC_BANK_RETIRED -/
abbrev bivouacBankRetired : Nat := 0x3053
/-- BIVOUAC_SPARE_ENGAGED -/
abbrev bivouacSpareEngaged : Nat := 0x3054
/-- BIVOUAC_COPY_LOST -/
abbrev bivouacCopyLost : Nat := 0x3055
/-- WRITEBACK_SKIPPED -/
abbrev writebackSkipped : Nat := 0x3060
/-- SCANOUT_UNDERFLOW -/
abbrev scanoutUnderflow : Nat := 0x3080
/-- LAYER_TO_LIVE -/
abbrev layerToLive : Nat := 0x4001
/-- LAYER_TO_STALE -/
abbrev layerToStale : Nat := 0x4002
/-- LAYER_TO_SUSPECT_FROZEN -/
abbrev layerToSuspectFrozen : Nat := 0x4003
/-- LAYER_TO_LOST -/
abbrev layerToLost : Nat := 0x4004
/-- LAYER_TO_NO_LIVE -/
abbrev layerToNoLive : Nat := 0x4005
/-- LAYER_TO_IMPAIRED -/
abbrev layerToImpaired : Nat := 0x4006
/-- STREAM_FREEZE_SUSPECT -/
abbrev streamFreezeSuspect : Nat := 0x4010
/-- STREAM_FREEZE_CLEARED -/
abbrev streamFreezeCleared : Nat := 0x4011
/-- HEAD_FROZEN -/
abbrev headFrozen : Nat := 0x4020
/-- HEAD_FREEZE_CLEARED -/
abbrev headFreezeCleared : Nat := 0x4021
/-- SOURCE_ARRIVAL_TIMED -/
abbrev sourceArrivalTimed : Nat := 0x4030
/-- SOURCE_CLOCK_MAPPED -/
abbrev sourceClockMapped : Nat := 0x4031
/-- CAPTURE_CLOCK_AHEAD -/
abbrev captureClockAhead : Nat := 0x4032
/-- GRAPHIC_TIME_AHEAD -/
abbrev graphicTimeAhead : Nat := 0x4033
/-- LIVE_REQUIRED_REFUSED -/
abbrev liveRequiredRefused : Nat := 0x4040
/-- CAIRN_BADGE_COVERED -/
abbrev cairnBadgeCovered : Nat := 0x4041
/-- CAIRN_BOUND_CEILING -/
abbrev cairnBoundCeiling : Nat := 0x4042
/-- CAIRN_COLOUR_WEAK -/
abbrev cairnColourWeak : Nat := 0x4043
/-- CAIRN_PROBE_INVALID -/
abbrev cairnProbeInvalid : Nat := 0x4044
/-- WITNESS_ISSUED -/
abbrev witnessIssued : Nat := 0x4050
/-- WITNESS_FULL -/
abbrev witnessFull : Nat := 0x4051
/-- WITNESS_NOT_LEAD -/
abbrev witnessNotLead : Nat := 0x4052
/-- WITNESS_SIGN_FAULT -/
abbrev witnessSignFault : Nat := 0x4053
/-- WITNESS_NOT_FORWARDED -/
abbrev witnessNotForwarded : Nat := 0x4054
/-- WITNESS_UNACKED -/
abbrev witnessUnacked : Nat := 0x4055
/-- SUMMIT_NEARLY_FULL -/
abbrev summitNearlyFull : Nat := 0x4056
/-- SUMMIT_NEW_CHAIN -/
abbrev summitNewChain : Nat := 0x4057
/-- SUMMIT_ACK_AHEAD -/
abbrev summitAckAhead : Nat := 0x4058
/-- SUMMIT_CAPACITY_DEFERRED -/
abbrev summitCapacityDeferred : Nat := 0x4059
/-- LINK_RUNNING -/
abbrev linkRunning : Nat := 0x5001
/-- LINK_ABSENT -/
abbrev linkAbsent : Nat := 0x5002
/-- LINK_PRESENT -/
abbrev linkPresent : Nat := 0x5003
/-- LINK_PHASE_TIMEOUT -/
abbrev linkPhaseTimeout : Nat := 0x5004
/-- LINK_MODE_NOFIT -/
abbrev linkModeNofit : Nat := 0x5005
/-- LINK_DEGRADED -/
abbrev linkDegraded : Nat := 0x5006
/-- LINK_FALLBACK -/
abbrev linkFallback : Nat := 0x5007
/-- LINK_RESTORED -/
abbrev linkRestored : Nat := 0x5008
/-- LINK_TRANSIENT -/
abbrev linkTransient : Nat := 0x5009
/-- LINK_SPREAD_UNSUPPORTED -/
abbrev linkSpreadUnsupported : Nat := 0x500A
/-- LINK_COLORIMETRY_LIMITED -/
abbrev linkColorimetryLimited : Nat := 0x500B
/-- LINK_LANES_TAKEN -/
abbrev linkLanesTaken : Nat := 0x500C
/-- LANE_FAILED -/
abbrev laneFailed : Nat := 0x5010
/-- LANE_NONE -/
abbrev laneNone : Nat := 0x5011
/-- ROPE_UP -/
abbrev ropeUp : Nat := 0x5020
/-- ROPE_DOWN -/
abbrev ropeDown : Nat := 0x5021
/-- ROPE_LANE_LOST -/
abbrev ropeLaneLost : Nat := 0x5022
/-- ROPE_LANE_RESTORED -/
abbrev ropeLaneRestored : Nat := 0x5023
/-- ROPE_SPEED -/
abbrev ropeSpeed : Nat := 0x5024
/-- ROPE_SKEW -/
abbrev ropeSkew : Nat := 0x5025
/-- ROPE_REPLAY -/
abbrev ropeReplay : Nat := 0x5026
/-- ROPE_LANE_CONFIG -/
abbrev ropeLaneConfig : Nat := 0x5027
/-- ENC_CONTEXT_STATE -/
abbrev encContextState : Nat := 0x6001
/-- ENC_CAPACITY -/
abbrev encCapacity : Nat := 0x6002
/-- ENC_CAP_FLOOR -/
abbrev encCapFloor : Nat := 0x6003
/-- ENC_SIZE_INVALID -/
abbrev encSizeInvalid : Nat := 0x6004
/-- ENC_SOURCE_INVALID -/
abbrev encSourceInvalid : Nat := 0x6005
/-- ENC_ROWS_HELD -/
abbrev encRowsHeld : Nat := 0x6010
/-- ENC_INPUT_SKIPPED -/
abbrev encInputSkipped : Nat := 0x6011
/-- ENC_LATE -/
abbrev encLate : Nat := 0x6012
/-- ENC_REFRESH -/
abbrev encRefresh : Nat := 0x6013
/-- ENC_ENGINE_FAULT -/
abbrev encEngineFault : Nat := 0x6020
/-- ENC_ENGINE_TRANSIENT -/
abbrev encEngineTransient : Nat := 0x6021
/-- ENC_ENGINE_RETIRED -/
abbrev encEngineRetired : Nat := 0x6022
/-- ENC_SPARE_ENGAGED -/
abbrev encSpareEngaged : Nat := 0x6023
/-- ENC_CONTEXT_SHED -/
abbrev encContextShed : Nat := 0x6024
/-- TOUCH_PANEL_PRESENT -/
abbrev touchPanelPresent : Nat := 0x7001
/-- TOUCH_PANEL_ABSENT -/
abbrev touchPanelAbsent : Nat := 0x7002
/-- TOUCH_PANEL_ACTIVE -/
abbrev touchPanelActive : Nat := 0x7003
/-- TOUCH_ELECTRODE_OPEN -/
abbrev touchElectrodeOpen : Nat := 0x7004
/-- TOUCH_PANEL_FAULT -/
abbrev touchPanelFault : Nat := 0x7005
/-- TOUCH_QUIET_SHORT -/
abbrev touchQuietShort : Nat := 0x7006
/-- TOUCH_NO_HEAD -/
abbrev touchNoHead : Nat := 0x7007
/-- TOUCH_MAP_INVALID -/
abbrev touchMapInvalid : Nat := 0x7008
/-- BASELINE_RECOVERED -/
abbrev baselineRecovered : Nat := 0x7010
/-- TOUCH_EXPIRED -/
abbrev touchExpired : Nat := 0x7011
/-- TOUCH_HOP -/
abbrev touchHop : Nat := 0x7012
/-- TOUCH_NOISY -/
abbrev touchNoisy : Nat := 0x7013
/-- TOUCH_CONTACTS_FULL -/
abbrev touchContactsFull : Nat := 0x7014
/-- TOUCH_LARGE_OBJECT -/
abbrev touchLargeObject : Nat := 0x7015
/-- TOUCH_EVENTS_LOST -/
abbrev touchEventsLost : Nat := 0x7016
/-- TOUCH_BASELINE_FORCED -/
abbrev touchBaselineForced : Nat := 0x7017
/-- TOUCH_ACTION_FIRED -/
abbrev touchActionFired : Nat := 0x7020
/-- TOUCH_ACTION_CANCELLED -/
abbrev touchActionCancelled : Nat := 0x7021
/-- TOUCH_ACTION_INVALID -/
abbrev touchActionInvalid : Nat := 0x7022
/-- TOUCH_SCAN_FAULT -/
abbrev touchScanFault : Nat := 0x7030
/-- TOUCH_SCAN_TRANSIENT -/
abbrev touchScanTransient : Nat := 0x7031
/-- TOUCH_CHANNEL_RETIRED -/
abbrev touchChannelRetired : Nat := 0x7032
/-- MEM_TRAINED -/
abbrev memTrained : Nat := 0x8001
/-- MEM_TRAIN_RETRY -/
abbrev memTrainRetry : Nat := 0x8002
/-- MEM_RATE_REDUCED -/
abbrev memRateReduced : Nat := 0x8003
/-- MEM_CHANNEL_DEAD -/
abbrev memChannelDead : Nat := 0x8004
/-- MEM_CONFIG_INVALID -/
abbrev memConfigInvalid : Nat := 0x8005
/-- MEM_HASH_INVALID -/
abbrev memHashInvalid : Nat := 0x8006
/-- MEM_ECC_CORRECTED -/
abbrev memEccCorrected : Nat := 0x8010
/-- MEM_READ_TRANSIENT -/
abbrev memReadTransient : Nat := 0x8011
/-- MEM_READ_LASTING -/
abbrev memReadLasting : Nat := 0x8012
/-- MEM_ROW_SPARED -/
abbrev memRowSpared : Nat := 0x8013
/-- MEM_SPARE_ROWS_OUT -/
abbrev memSpareRowsOut : Nat := 0x8014
/-- MEM_RH_OVERFLOW -/
abbrev memRhOverflow : Nat := 0x8020
/-- MEM_BANK_IMBALANCE -/
abbrev memBankImbalance : Nat := 0x8021
/-- MEM_REFRESH_RATE -/
abbrev memRefreshRate : Nat := 0x8030
/-- MEM_DRAM_HOT -/
abbrev memDramHot : Nat := 0x8031
/-- MEM_PPR_DONE -/
abbrev memPprDone : Nat := 0x8040
/-- MEM_PPR_FAILED -/
abbrev memPprFailed : Nat := 0x8041
/-- OBJ_UNKNOWN -/
abbrev objUnknown : Nat := 0x9001
/-- OBJ_SUBINDEX -/
abbrev objSubindex : Nat := 0x9002
/-- OBJ_READ_ROLE -/
abbrev objReadRole : Nat := 0x9003
/-- OBJ_WRITE_ROLE -/
abbrev objWriteRole : Nat := 0x9004
/-- OBJ_LIFECYCLE -/
abbrev objLifecycle : Nat := 0x9005
/-- OBJ_ABSENT_GRADE -/
abbrev objAbsentGrade : Nat := 0x9006
/-- OBJ_NOT_ADJUSTABLE -/
abbrev objNotAdjustable : Nat := 0x9007
/-- OBJ_TWIN_SECOND -/
abbrev objTwinSecond : Nat := 0x9008
/-- OBJ_TYPE_LENGTH -/
abbrev objTypeLength : Nat := 0x9009
/-- OBJ_RANGE -/
abbrev objRange : Nat := 0x900A
/-- OBJ_NOT_APPLIED -/
abbrev objNotApplied : Nat := 0x900B
/-- OBJ_JOURNAL_FULL -/
abbrev objJournalFull : Nat := 0x900C
/-- QDP_VERSION -/
abbrev qdpVersion : Nat := 0x9010
/-- QDP_MSG_TYPE -/
abbrev qdpMsgType : Nat := 0x9011
/-- QDP_SESSION_UNKNOWN -/
abbrev qdpSessionUnknown : Nat := 0x9012
/-- QDP_LENGTH -/
abbrev qdpLength : Nat := 0x9013
/-- QDP_TAG -/
abbrev qdpTag : Nat := 0x9014
/-- QDP_REPLAY -/
abbrev qdpReplay : Nat := 0x9015
/-- QDP_SEGMENT -/
abbrev qdpSegment : Nat := 0x9016
/-- QDP_SESSION_OPEN -/
abbrev qdpSessionOpen : Nat := 0x9020
/-- QDP_SESSION_CLOSED -/
abbrev qdpSessionClosed : Nat := 0x9021
/-- QDP_AUTH_FAILED -/
abbrev qdpAuthFailed : Nat := 0x9022
/-- QDP_AUTH_LOCKOUT -/
abbrev qdpAuthLockout : Nat := 0x9023
/-- QDP_SESSIONS_FULL -/
abbrev qdpSessionsFull : Nat := 0x9024
/-- QDP_PEER_FAILED -/
abbrev qdpPeerFailed : Nat := 0x9025
/-- CAN_ERROR_PASSIVE -/
abbrev canErrorPassive : Nat := 0x9030
/-- CAN_BUS_OFF -/
abbrev canBusOff : Nat := 0x9031
/-- CAN_BUS_RECOVERED -/
abbrev canBusRecovered : Nat := 0x9032
/-- CANOPEN_NMT_STATE -/
abbrev canopenNmtState : Nat := 0x9033
/-- CANOPEN_HEARTBEAT_LOST -/
abbrev canopenHeartbeatLost : Nat := 0x9034
/-- CANOPEN_PDO_LENGTH -/
abbrev canopenPdoLength : Nat := 0x9035
/-- CANOPEN_PDO_MAPPING -/
abbrev canopenPdoMapping : Nat := 0x9036
/-- CANOPEN_RPDO_REFUSED -/
abbrev canopenRpdoRefused : Nat := 0x9037
/-- CANOPEN_USDO_ABORT -/
abbrev canopenUsdoAbort : Nat := 0x9038
/-- DICT_EVENTS_LOST -/
abbrev dictEventsLost : Nat := 0x9040
/-- ACK_ABORT_RX_RESET -/
abbrev ackAbortRxReset : Nat := 0xA001
/-- ACK_TIMEOUT -/
abbrev ackTimeout : Nat := 0xA002
/-- MBX_COLLISION -/
abbrev mbxCollision : Nat := 0xA003
/-- MBX_ACK_DISCARDED -/
abbrev mbxAckDiscarded : Nat := 0xA004
/-- MBX_SENDER_RESET -/
abbrev mbxSenderReset : Nat := 0xA005
/-- PROT_STRADDLE -/
abbrev protStraddle : Nat := 0xA010
/-- PROT_OVERLAP -/
abbrev protOverlap : Nat := 0xA011
/-- PROT_VIOLATION -/
abbrev protViolation : Nat := 0xA012
/-- PROT_REGION_INVALID -/
abbrev protRegionInvalid : Nat := 0xA013
/-- PROT_COMMIT_DONE -/
abbrev protCommitDone : Nat := 0xA014
/-- CVU_CONFIG_INVALID -/
abbrev cvuConfigInvalid : Nat := 0xA020
/-- CORE_FAULT -/
abbrev coreFault : Nat := 0xA030
/-- CORE_TRANSIENT -/
abbrev coreTransient : Nat := 0xA031
/-- CORE_RETIRED -/
abbrev coreRetired : Nat := 0xA032
/-- CORE_SPARE_ENGAGED -/
abbrev coreSpareEngaged : Nat := 0xA033
/-- CORE_WATCHDOG -/
abbrev coreWatchdog : Nat := 0xA034
/-- TWIN_ROPE_LOST -/
abbrev twinRopeLost : Nat := 0xB001
/-- TWIN_ROPE_RESTORED -/
abbrev twinRopeRestored : Nat := 0xB002
/-- TWIN_ANCHOR_LOST -/
abbrev twinAnchorLost : Nat := 0xB003
/-- TWIN_ANCHOR_RESTORED -/
abbrev twinAnchorRestored : Nat := 0xB004
/-- TWIN_LEAD_GRANTED -/
abbrev twinLeadGranted : Nat := 0xB010
/-- TWIN_LEAD_WITHDRAWN -/
abbrev twinLeadWithdrawn : Nat := 0xB011
/-- TWIN_TAKEOVER_DONE -/
abbrev twinTakeoverDone : Nat := 0xB012
/-- TWIN_COLD -/
abbrev twinCold : Nat := 0xB013
/-- TWIN_DUAL_LEAD -/
abbrev twinDualLead : Nat := 0xB014
/-- TWIN_FENCED -/
abbrev twinFenced : Nat := 0xB015
/-- TWIN_RECORD_DISCARDED -/
abbrev twinRecordDiscarded : Nat := 0xB020
/-- TWIN_SNAPSHOT_DONE -/
abbrev twinSnapshotDone : Nat := 0xB021
/-- TWIN_REJOINED -/
abbrev twinRejoined : Nat := 0xB022
/-- TWIN_CRC_MISMATCH -/
abbrev twinCrcMismatch : Nat := 0xB030
/-- TWIN_DIGEST_MISMATCH -/
abbrev twinDigestMismatch : Nat := 0xB031
/-- TWIN_CHECKSUM_MISMATCH -/
abbrev twinChecksumMismatch : Nat := 0xB032
/-- TWIN_EPOCH_STALE -/
abbrev twinEpochStale : Nat := 0xB033
/-- TWIN_PARTNER_HEALTH -/
abbrev twinPartnerHealth : Nat := 0xB040
/-- HEALTH_TRANSIENT -/
abbrev healthTransient : Nat := 0xC001
/-- HEALTH_LASTING -/
abbrev healthLasting : Nat := 0xC002
/-- HEALTH_SPARE_ENGAGED -/
abbrev healthSpareEngaged : Nat := 0xC003
/-- HEALTH_NO_SPARE -/
abbrev healthNoSpare : Nat := 0xC004
/-- HEALTH_HEAD_SHED -/
abbrev healthHeadShed : Nat := 0xC010
/-- HEALTH_STREAM_SHED -/
abbrev healthStreamShed : Nat := 0xC011
/-- HEALTH_RESTORED -/
abbrev healthRestored : Nat := 0xC012
/-- BIST_FAIL -/
abbrev bistFail : Nat := 0xC020
/-- BIST_TRANSIENT -/
abbrev bistTransient : Nat := 0xC021
/-- LIFECYCLE_CHANGED -/
abbrev lifecycleChanged : Nat := 0xC030
/-- LIFECYCLE_REFUSED -/
abbrev lifecycleRefused : Nat := 0xC031
/-- WIPE_DONE -/
abbrev wipeDone : Nat := 0xC032
/-- FAULT_LOG_WRAPPED -/
abbrev faultLogWrapped : Nat := 0xC040
/-- BOOT_FW_VERIFIED -/
abbrev bootFwVerified : Nat := 0xD001
/-- BOOT_FW_INVALID -/
abbrev bootFwInvalid : Nat := 0xD002
/-- BOOT_CONFIG_INVALID -/
abbrev bootConfigInvalid : Nat := 0xD003
/-- BOOT_CONFIG_LOADED -/
abbrev bootConfigLoaded : Nat := 0xD004
/-- BOOT_FLASH_FAULT -/
abbrev bootFlashFault : Nat := 0xD005
/-- RESET_COLD -/
abbrev resetCold : Nat := 0xD010
/-- RESET_WARM -/
abbrev resetWarm : Nat := 0xD011
/-- RESET_WATCHDOG -/
abbrev resetWatchdog : Nat := 0xD012
/-- POWER_RAIL_FAULT -/
abbrev powerRailFault : Nat := 0xD020
/-- THERMAL_WARN -/
abbrev thermalWarn : Nat := 0xD030
/-- THERMAL_THROTTLE -/
abbrev thermalThrottle : Nat := 0xD031
/-- THERMAL_SHUTDOWN -/
abbrev thermalShutdown : Nat := 0xD032
/-- STANDBY_ENTRY -/
abbrev standbyEntry : Nat := 0xD040
/-- WAKE -/
abbrev wake : Nat := 0xD041
/-- ENERGY_METER_FAULT -/
abbrev energyMeterFault : Nat := 0xD050
/-- SEC_KEY_GENERATED -/
abbrev secKeyGenerated : Nat := 0xE001
/-- SEC_KEY_DESTROYED -/
abbrev secKeyDestroyed : Nat := 0xE002
/-- SEC_TAMPER -/
abbrev secTamper : Nat := 0xE003
/-- SEC_IMAGE_SIGNATURE -/
abbrev secImageSignature : Nat := 0xE004
/-- SEC_CORE_FAULT -/
abbrev secCoreFault : Nat := 0xE005
/-- SEC_DEBUG_LOCKED -/
abbrev secDebugLocked : Nat := 0xE006

end Sys2Proof.Machine.Code
end

