-- ==== Sys2Proof/Machine/Bytes.lean ====
section
/-! DEFINITION. Byte order and check values: little-endian dictionary values (R10), big-endian formats that leave the
device (R78), the CRCs of Table 13-13, SHA-256 and HMAC-SHA-256 (FIPS 180-4 and FIPS 198-1, which R97 and R333 name;
log 11). Numbers are `Nat`, so that the kernel evaluates them. -/

namespace Sys2Proof.Machine

/-- The low byte of a number. -/
def byteOf (n : Nat) : Byte := BitVec.ofNat 8 n

/-- `n` bytes of a number, least significant first. -/
def le : Nat → Nat → Bytes
  | 0, _ => []
  | n + 1, v => byteOf v :: le n (v / 256)

/-- `n` bytes of a number, most significant first. -/
def be (n v : Nat) : Bytes := (le n v).reverse

/-- The number whose bytes are given least significant first. -/
def ofLe : Bytes → Nat
  | [] => 0
  | b :: r => b.toNat + 256 * ofLe r

/-- The number whose bytes are given most significant first. -/
def ofBe (b : Bytes) : Nat := ofLe b.reverse

/-- Bytes `off` to `off + n - 1`; fewer where the string ends. -/
def slice (b : Bytes) (off n : Nat) : Bytes := (b.drop off).take n

/-- `n` zero bytes. -/
def zeros (n : Nat) : Bytes := List.replicate n 0

/-- Exactly `n` bytes: cut, or padded with zeros. -/
def fit (n : Nat) (b : Bytes) : Bytes := b.take n ++ zeros (n - b.length)

/-- The little-endian number of `n` bytes at an offset. -/
def leAt (b : Bytes) (off n : Nat) : Nat := ofLe (slice b off n)

/-- The big-endian number of `n` bytes at an offset. -/
def beAt (b : Bytes) (off n : Nat) : Nat := ofBe (slice b off n)

/-- The ASCII bytes of a string. -/
def ascii (s : String) : Bytes := s.toList.map fun c => byteOf c.toNat

/-! ### CRCs (R79, Table 13-13) -/

/-- One bit of a reflected CRC with the reflected polynomial `poly`. -/
def crcBitR (poly c : Nat) : Nat := if c % 2 = 1 then (c / 2) ^^^ poly else c / 2

/-- One byte into a reflected CRC of 32 bits. -/
def crcByteR (poly c : Nat) (b : Byte) : Nat :=
  Nat.repeat (crcBitR poly) 8 (c ^^^ b.toNat)

/-- One bit of a CRC of `w` bits that is not reflected. -/
def crcBitN (w poly c : Nat) : Nat :=
  if c / 2 ^ (w - 1) % 2 = 1 then (c * 2 % 2 ^ w) ^^^ poly else c * 2 % 2 ^ w

/-- One byte into a CRC of 16 bits that is not reflected. -/
def crcByteN (poly c : Nat) (b : Byte) : Nat :=
  Nat.repeat (crcBitN 16 poly) 8 (c ^^^ (b.toNat * 256))

/-- The initial value of an algorithm of Table 13-13. -/
def cvInit (alg : Nat) : Nat := if alg = 2 then 0xFFFF else 0xFFFFFFFF

/-- The final exclusive-or of an algorithm of Table 13-13. -/
def cvFinal (alg : Nat) : Nat := if alg = 2 then 0 else 0xFFFFFFFF

/-- One byte into the working register of an algorithm of Table 13-13: 0 CRC-32C, 1 CRC-32, 2 CRC-16/CCITT. -/
def cvByte (alg c : Nat) (b : Byte) : Nat :=
  if alg = 0 then crcByteR 0x82F63B78 c b
  else if alg = 1 then crcByteR 0xEDB88320 c b
  else crcByteN 0x1021 c b

/-- The working register of CRC-32C after more bytes. -/
def crcUpdate (c : Nat) (b : Bytes) : Nat := b.foldl (cvByte 0) c

/-- CRC-32C of a byte string (R79). -/
def crc32c (b : Bytes) : Nat := crcUpdate 0xFFFFFFFF b ^^^ 0xFFFFFFFF

/-! ### SHA-256 and HMAC -/

/-- Rotation of a 32-bit number to the right. -/
def rotr (n x : Nat) : Nat := (x >>> n) ||| ((x <<< (32 - n)) % 2 ^ 32)

/-- The round constants of SHA-256. -/
def shaK : List Nat :=
  [0x428a2f98, 0x71374491, 0xb5c0fbcf, 0xe9b5dba5, 0x3956c25b, 0x59f111f1, 0x923f82a4, 0xab1c5ed5,
   0xd807aa98, 0x12835b01, 0x243185be, 0x550c7dc3, 0x72be5d74, 0x80deb1fe, 0x9bdc06a7, 0xc19bf174,
   0xe49b69c1, 0xefbe4786, 0x0fc19dc6, 0x240ca1cc, 0x2de92c6f, 0x4a7484aa, 0x5cb0a9dc, 0x76f988da,
   0x983e5152, 0xa831c66d, 0xb00327c8, 0xbf597fc7, 0xc6e00bf3, 0xd5a79147, 0x06ca6351, 0x14292967] ++
  [0x27b70a85, 0x2e1b2138, 0x4d2c6dfc, 0x53380d13, 0x650a7354, 0x766a0abb, 0x81c2c92e, 0x92722c85,
   0xa2bfe8a1, 0xa81a664b, 0xc24b8b70, 0xc76c51a3, 0xd192e819, 0xd6990624, 0xf40e3585, 0x106aa070,
   0x19a4c116, 0x1e376c08, 0x2748774c, 0x34b0bcb5, 0x391c0cb3, 0x4ed8aa4a, 0x5b9cca4f, 0x682e6ff3,
   0x748f82ee, 0x78a5636f, 0x84c87814, 0x8cc70208, 0x90befffa, 0xa4506ceb, 0xbef9a3f7, 0xc67178f2]

/-- The initial hash of SHA-256. -/
def shaInit : List Nat :=
  [0x6a09e667, 0xbb67ae85, 0x3c6ef372, 0xa54ff53a, 0x510e527f, 0x9b05688c, 0x1f83d9ab, 0x5be0cd19]

/-- The next word of the message schedule from the last sixteen, newest first. -/
def shaNextW (w : List Nat) : Nat :=
  let a := w.getD 1 0
  let b := w.getD 14 0
  let s1 := rotr 17 a ^^^ rotr 19 a ^^^ (a >>> 10)
  let s0 := rotr 7 b ^^^ rotr 18 b ^^^ (b >>> 3)
  (s1 + w.getD 6 0 + s0 + w.getD 15 0) % 2 ^ 32

/-- The message schedule, newest word first, extended by `n` words. -/
def shaExtend : Nat → List Nat → List Nat
  | 0, w => w
  | n + 1, w => shaExtend n (shaNextW (w.take 16) :: w)

/-- One round of SHA-256 over the eight working words. -/
def shaRound (v : List Nat) (kw : Nat × Nat) : List Nat :=
  match v with
  | [a, b, c, d, e, f, g, h] =>
    let s1 := rotr 6 e ^^^ rotr 11 e ^^^ rotr 25 e
    let ch := (e &&& f) ^^^ ((e ^^^ 0xFFFFFFFF) &&& g)
    let t1 := h + s1 + ch + kw.1 + kw.2
    let s0 := rotr 2 a ^^^ rotr 13 a ^^^ rotr 22 a
    let mj := (a &&& b) ^^^ (a &&& c) ^^^ (b &&& c)
    [(t1 + s0 + mj) % 2 ^ 32, a, b, c, (d + t1) % 2 ^ 32, e, f, g]
  | _ => v

/-- The big-endian words of a byte string. -/
def beWords : Nat → Bytes → List Nat
  | 0, _ => []
  | n + 1, b => ofBe (b.take 4) :: beWords n (b.drop 4)

/-- One 64-byte block into the hash. -/
def shaBlock (h : List Nat) (blk : Bytes) : List Nat :=
  let w := (shaExtend 48 (beWords 16 blk).reverse).reverse
  let v := (shaK.zip w).foldl shaRound h
  (h.zip v).map fun p => (p.1 + p.2) % 2 ^ 32

/-- The blocks of a padded message into the hash; `n` counts them. -/
def shaBlocks : Nat → List Nat → Bytes → List Nat
  | 0, h, _ => h
  | n + 1, h, b => shaBlocks n (shaBlock h (b.take 64)) (b.drop 64)

/-- SHA-256: 32 bytes. -/
def sha256 (m : Bytes) : Bytes :=
  let pad := (119 - m.length % 64) % 64
  let p := m ++ (0x80 : Byte) :: zeros pad ++ be 8 (m.length * 8)
  ((shaBlocks (p.length / 64) shaInit p).map (be 4)).flatten

/-- HMAC-SHA-256 of a message under a key. -/
def hmac (key m : Bytes) : Bytes :=
  let k := fit 64 (if key.length > 64 then sha256 key else key)
  sha256 (k.map (fun b => b ^^^ (0x5c : Byte)) ++ sha256 (k.map (fun b => b ^^^ (0x36 : Byte)) ++ m))

end Sys2Proof.Machine
end

