-- ==== Sys2Proof/Machine/State.lean ====
section
/-! DEFINITION. The state of the device as plain data: every register, table, queue, counter, mode and pin the spec
names (INVENTORY.md lists them), the content of DRAM, and the queue of waiting commands. Times are in ns of device time
unless a docstring says otherwise. -/

namespace Sys2Proof.Machine

/-! ### Values of the dictionary -/

/-- The value of an entry: a number (BOOL, U8 to U64, I8 to I64, REAL32 by its bits, DTIME in units of 2^-16 ns) or a
byte string (DOMAIN, STRING). -/
inductive Val where
  | num (v : Int)
  | raw (b : Bytes)
deriving DecidableEq, Repr

/-- An accepted write that has not taken effect (R16 to R18): the entry, its value and the CLK_CTRL cycle of
acceptance. -/
structure PendW where
  key : Nat
  val : Val
  cycle : Nat
deriving DecidableEq, Repr

/-- An event record of dict.events (Table 12-7); time in 2^-48 ns. -/
structure EventRec where
  code : Nat
  p0 : Nat
  p1 : Nat
  p2 : Nat
  p3 : Nat
  seq : Nat
  time : Nat
deriving DecidableEq, Repr

/-! ### Provenance and pictures (chapters 2 and 5) -/

/-- Table 2-1, byte 2. -/
inductive Integrity where
  | clean | tainted | concealed
deriving DecidableEq, Repr

/-- The ingest timing record of an access unit (R142): capture time in ns, uncertainty in us. -/
structure Capture where
  time : Nat := 0
  uncertainty : Nat := 0
  arrivalTimed : Bool := true
  clamped : Bool := false
deriving DecidableEq, Repr

/-- The provenance tag of a picture slot (Table 2-1); times in ns. -/
structure Tag where
  stream : Nat
  integrity : Integrity
  cap : Capture
  probe : Bool
  frozen : Bool
  signature : Nat
  sequence : Nat
  completion : Nat
  runStart : Nat
deriving DecidableEq, Repr

/-- Colour classes of a source (R203). -/
inductive ColourClass where
  | sdr709 | sdr2020 | pq | hlg
deriving DecidableEq, Repr

/-- How the samples of a video picture are to be read: VUI colour data (R191, R203). -/
structure Colour where
  cls : ColourClass := .sdr709
  fullRange : Bool := false
  matrix2020 : Bool := false
deriving DecidableEq, Repr

/-- A picture slot of a context (R153 to R157): the RTP timestamp of its access unit, its tag when stamped, its picture order
count, its reference marks, whether it awaits output, its samples. -/
structure Slot where
  id : Nat
  rtp : Nat := 0
  tag : Option Tag
  poc : Int
  isRef : Bool
  isLong : Bool
  awaitOut : Bool
  planes : Planes
  colour : Colour
  checksum : Nat
  doomed : Bool := false
deriving DecidableEq, Repr

/-- The freeze run of a stream (R56). -/
structure FreezeRun where
  sig : Nat := 0
  probe : Bool := false
  start : Nat := 0
  resetPending : Bool := true
  frozen : Bool := false
deriving DecidableEq, Repr

/-! ### Ingest (chapter 4) -/

/-- The mapping of a sender report (R41, R123), with the grandmaster the source's RFC 7273 signalling names. -/
structure SrMap where
  ntpSec : Nat
  ntpFrac : Nat
  rtp : Nat
  arrival : Nat
  gm : Option Nat
deriving DecidableEq, Repr

/-- One accepted packet of an access unit: extended sequence, whether its payload starts a NAL unit, its depacketised
bytes. -/
structure AuPkt where
  seq : Nat
  startsNal : Bool
  data : Bytes
deriving DecidableEq, Repr

/-- An access unit (R118 to R121): RTP timestamp, arrival of its first packet, its packets in order of sequence, whether
it has ended, by its marker or not, its completion time, the timing record, its release time, its first sequence number,
whether it has been discarded (its later packets are then dropped with it). -/
structure Au where
  uid : Nat
  rtpTs : Nat
  first : Nat
  pkts : List AuPkt
  ended : Bool := false
  marker : Bool := false
  done : Nat := 0
  cap : Capture := {}
  release : Nat := 0
  firstSeq : Nat := 0
  dead : Bool := false
deriving DecidableEq, Repr

/-- Ingest state of a stream context. `boundAt` is the instant of the last binding or restart (R65), `lastEnd` the end
of the last access unit, `timing` R42, `badSeq` the sequence number that would confirm a jump (RFC 3550 A.1), `peer` where
the last media packet came from, `firSeq` the command number of RFC 5104. -/
structure Ingest where
  bound : Bool := false
  boundAt : Nat := 0
  lastEnd : Option Nat := none
  timing : Nat := 0
  ssrc : Option Nat := none
  ssrcLast : Nat := 0
  ssrcIdle : Bool := false
  maxSeq : Option Nat := none
  sr : Option SrMap := none
  jitter : List Au := []
  releaseQ : List Au := []
  badSeq : Option Nat := none
  peer : Option (Bytes × Nat) := none
  firSeq : Nat := 0
  lastReleased : Option Nat := none
  nextUid : Nat := 0
  probeLatch : Bool := false
  lost : Bool := false
deriving DecidableEq, Repr

/-- RTSP session of a stream (R125): 0 idle, 1 DESCRIBE sent, 2 SETUP sent, 3 PLAY sent, 4 playing, 5 failed and
waiting to retry; the retry step and the session timeout in seconds; when the next retry or keep-alive is due. -/
structure Rtsp where
  state : Nat := 0
  step : Nat := 0
  due : Nat := 0
  timeout : Nat := 60
  group : Option Bytes := none
  rfc7273Gm : Option Nat := none
deriving DecidableEq, Repr

/-- A joined group of a port (R126): VLAN, group, source when source specific, whether its second report is still to
send. -/
structure Join where
  vlan : Nat
  group : Bytes
  src : Bytes
  again : Bool
deriving DecidableEq, Repr

/-- A transmit descriptor (Table 4-4) with the frame it points at as payload and destination. `id` names it. -/
structure TxDesc where
  id : Nat := 0
  dst : Bytes := []
  dport : Nat := 0
  payload : Bytes := []
  frameLen : Nat := 60
  launchEn : Bool := false
  launch : Nat := 0
  dropLate : Bool := false
  tsFormat : Nat := 0
  tsOffset : Nat := 0
  tsCapture : Bool := false
  udpFix : Bool := false
  late : Bool := false
deriving DecidableEq, Repr

/-- A completed transmit descriptor as its owner reads it. -/
structure TxDone where
  id : Nat
  status : Nat
  departure : Nat
deriving DecidableEq, Repr

/-- A completed receive descriptor (Table 4-3). -/
structure RxDesc where
  arrival : Nat
  len : Nat
  vlan : Nat
  pcp : Nat
  tagged : Bool
  rule : Nat
  stream : Nat
  l4off : Nat
  rtpSeq : Nat
  csumBad : Bool
  fragment : Bool
  marker : Bool
  rtp : Bool
  udp : Bool
  ipv6 : Bool
  ipv4 : Bool
  multicast : Bool
  more : Bool
  data : Bytes
deriving DecidableEq, Repr

/-- A ring (R108, R109): descriptors filled and not yet returned, or transmit descriptors posted and done. -/
structure Ring where
  rx : List RxDesc := []
  tx : List TxDesc := []
  done : List TxDone := []
deriving DecidableEq, Repr

/-- An Ethernet port (R104 to R113): link up as raised, the frame being sent (ring, descriptor, its start), the last of
the relay rings served, joined groups, the IPv6 addresses that failed duplicate address detection, and
since when that runs. -/
structure Port where
  linkUp : Bool := false
  sending : Option (Nat × TxDesc × Nat) := none
  lastRelay : Nat := 3
  joins : List Join := []
  conflicts : List Bytes := []
  dadFrom : Option Nat := none
deriving DecidableEq, Repr

/-- Time base states (Table 4-6), in the code order of time.state. -/
inductive TimeState where
  | free | acquiring | locked | holdover | grandmaster
deriving DecidableEq, Repr

/-- The time base (R127 to R133). `inBound` and `outBound` count consecutive Syncs, `servoLog` the servo outputs of the
last 64 s, newest first, with their instants; `masters` the best Announce of each port (priority1, priority2, identity),
`emitted` whether a head has emitted a frame since reset (R132). -/
structure TimeBase where
  state : TimeState := .free
  gm : Nat := 0
  masters : List (Nat × Nat × Nat × Nat) := []
  inBound : Nat := 0
  outBound : Nat := 0
  lastOffset : Int := 0
  holdFrom : Nat := 0
  servoLog : List (Nat × Nat) := []
  port : Nat := 0xFF
  gmSeq : Nat := 0
  emitted : Bool := false
deriving DecidableEq, Repr

/-! ### The decode cluster (chapter 5) -/

/-- Table 5-4. -/
inductive CtxState where
  | unbound | waiting | clean | tainted | halted | shed
deriving DecidableEq, Repr

/-- A picture job: the access unit, its header and parameter set, whether it carries a substitution and the held
picture it takes. -/
structure Job where
  au : Au
  hdr : PicHeader
  ps : ParamSet
  subst : Bool
deriving DecidableEq, Repr

/-- Decode state of a stream context. `startTimer` R147, `firNext` R147 and R161, `recoverAt` the count at which a recovery
point completes, `rasl` whether RASL pictures of the last CRA stay tainted (R160), `budget` the pictures of the last second
(R154), `atEnd` what takes effect at the end of the picture in decoding (R148): 1 unbinding, 2 shedding, 3 restart; `plan`
the engine an accepted write placed it on (R152), in effect from the next pitch; `ctrl` the controller a redistribution gave
it to, 0xFF for none (R164). -/
structure Ctx where
  state : CtxState := .unbound
  engine : Nat := 0xFF
  plan : Option Nat := none
  ps : Option ParamSet := none
  jobs : List Job := []
  slots : List Slot := []
  run : FreezeRun := {}
  outSeq : Nat := 0
  startTimer : Option Nat := none
  firNext : Option Nat := none
  recoverAt : Option Int := none
  rasl : Bool := false
  budget : List (Nat × Nat) := []
  atEnd : Option Nat := none
  ctrl : Option Nat := none
deriving DecidableEq, Repr

/-- What an engine is doing: a picture of a stream, with the count of failed tries. -/
structure Busy where
  stream : Nat
  job : Job
  tries : Nat
  bad : Bool := false
deriving DecidableEq, Repr

/-- The health of a unit with spares: in use, spare, retired or fused off (Table 5-9 codes 0 to 3). -/
inductive UnitState where
  | active | spare | retired | fusedOff
deriving DecidableEq, Repr

/-- A decode engine: since when it works on its picture, and its work of the last second as intervals. -/
structure Engine where
  state : UnitState := .active
  busy : Option Busy := none
  since : Nat := 0
  work : List (Nat × Nat) := []
  replacedBy : Option Nat := none
deriving DecidableEq, Repr

/-! ### Composition (chapters 6 and 7) -/

/-- A layer descriptor (Table 6-3); head 0xFF is unused. -/
structure Desc where
  head : Nat := 0xFF
  z : Nat := 0
  kind : Nat := 0
  cls : Nat := 0
  control : Nat := 0
  source : Nat := 0
  coef : Nat := 0xFF
  tone : Nat := 0xFF
  srcX : Nat := 0
  srcY : Nat := 0
  srcW : Nat := 0
  srcH : Nat := 0
  dstX : Int := 0
  dstY : Int := 0
  dstW : Nat := 0
  dstH : Nat := 0
  ageBound : Nat := 0
  colour : Nat := 0
  planeAlpha : Nat := 0
  blend : Nat := 0
  tag : Nat := 0
deriving DecidableEq, Repr

/-- The refusal record of a group (Table 6-8). -/
structure Refusal68 where
  code : Nat := 0
  layer : Nat := 0xFFFF
  layer2 : Nat := 0xFFFF
  head : Nat := 0xFF
  pipe : Nat := 0xFF
  col : Nat := 0
  row : Nat := 0
  value : Nat := 0
deriving DecidableEq, Repr

/-- A table of a group on its way to the glass (R175, R176): token, descriptors, values of the GRP objects it carries
with their keys, layers with reduced taps, heads it places on ports (head, pipe, port), the instant it armed, the
instant it is due at, whether an allocation change makes it checked again then (R173); in a twin, the pitch start of the record that
carries it (R401). -/
structure GTable where
  token : Nat
  descs : List (Nat × Desc)
  objs : List (Nat × Val)
  taps : List (Nat × Nat) := []
  places : List (Nat × Nat × Nat) := []
  armedAt : Nat := 0
  due : Option Nat := none
  recheck : Bool := false
  carried : Option Nat := none
deriving DecidableEq, Repr

/-- A commit group (R174 to R178): commit_state 0 idle, 1 validating, 2 armed, 3 refused; the table validating, the one
armed, the one due; whether the armed one is being validated again (R173). -/
structure Group where
  cstate : Nat := 0
  validating : Option GTable := none
  armed : Option GTable := none
  due : Option GTable := none
  revalidate : Bool := false
  refusal : Refusal68 := {}
deriving DecidableEq, Repr

/-- What a layer shows: a picture of a slot, a post of a content slot (buffer and data time), or a write-back frame
(head and buffer). -/
inductive Shown where
  | pic (stream slot : Nat) (tag : Tag)
  | post (slot buf time : Nat)
  | frame (head buf carried : Nat)
deriving DecidableEq, Repr

/-- Layer states of R65 with the codes of cairn.layer_status. -/
inductive LState where
  | none | live | stale | suspectFrozen | lost | noLive | impaired
deriving DecidableEq, Repr

/-- One evaluation of a layer by the Cairn unit (R65): first-line instant, cut-off and the instant its last visible
line leaves, in sixths of a ns (a line is a whole number of CLK_PIPE cycles of 5/6 ns); state, age in us, bound in us,
what is shown, whether its data time was clamped, the figure of the badge in us (R71), the alive counter of the frame,
whether it is of the live class, whether the picture's class differs from the loaded set's (R207). -/
structure LEval where
  tFirst : Nat
  cutoff : Nat
  tEnd : Nat
  state : LState
  age : Nat
  bound : Nat
  shown : Option Shown
  clamped : Bool
  figure : Nat
  alive : Nat
  live : Bool
  mismatch : Bool
deriving DecidableEq, Repr

/-- Cairn state of a layer number: the history of its evaluations, newest first (at most 8), the evaluation held for a
due commit (R173), the underflow flag (R67), the token of
the commit that last changed its descriptor, its taps, the first-line instants, in sixths of a ns, of the last frames in
which it was not LIVE (R74). -/
structure Layer where
  hist : List LEval := []
  heldEval : Option LEval := none
  underflow : Bool := false
  boundToken : Nat := 0
  taps : Nat := 6
  notLive : List Nat := []
deriving DecidableEq, Repr

/-- A content slot (R186, R187): its last post. -/
structure CSlot where
  post : Option (Nat × Nat) := none
deriving DecidableEq, Repr

/-- A write-back buffer of a head (R188, R189). -/
structure WbBuf where
  id : Nat
  carried : Nat
  started : Nat
  completion : Option Nat
  header : Bytes
  planes : Planes
deriving DecidableEq, Repr

/-- The record of an ended frame of a head: first-line instant of its line 0, alive and pitch counters, frame CRC; its
selection digest and seal flags, whether it was composed and showed deferred tiles (R404, R405); when it ended. -/
structure FrameRec where
  start : Nat
  alive : Nat
  pitch : Nat
  crc : Nat
  digest : Nat
  flags : Nat
  composed : Bool
  deferred : Bool
  ended : Nat
deriving DecidableEq, Repr

/-- A head's timing generator and output stage (R58 to R60, R82 to R86, R137, R165 to R171). `blankExtra` holds the
cycles added to each vertical blanking line of the frame; `shedBy` R169; `remap` the pipe and port it moves to at its
next frame start; `under` the pixel runs drawn late (line, first, last+1); `bivLines` the lines of
a failed cache read (R216); `faultLine` the first line of pipe-fault
overdraw; `late` what a commit applied while the head pulled leaves for its next frame start (R176); `dark` the starts of the last
frames the head did not emit whole (R227). -/
structure Head where
  inFrame : Bool := false
  start : Nat := 0
  nextStart : Option Nat := none
  lineCycles : Nat := 9000
  blankExtra : List Int := []
  locked : Bool := false
  started : Bool := false
  emitting : Bool := false
  alive : Option Nat := none
  pitch : Nat := 0
  detCrc : Option Nat := none
  freezeCount : Nat := 0
  overdraw : Option (Nat × Nat) := none
  detSince : Nat := 0
  under : List (Nat × Nat × Nat) := []
  bivLines : List (Nat × Nat) := []
  faultLine : Option Nat := none
  faultNext : Bool := false
  wholeHatch : Bool := false
  remap : Option (Nat × Nat) := none
  shed : Bool := false
  sealPend : Option Bytes := none
  frames : List FrameRec := []
  wb : List WbBuf := []
  deferred : Bool := false
  card : Bool := false
  late : Option GTable := none
  dark : List Nat := []
deriving DecidableEq, Repr

/-- The retry of a faulted pipe (R171): the heads whose faulted frame has not ended, the heads whose retry frame has not
ended, the line-store bank named, if any. -/
structure PipeRetry where
  faulted : List Nat
  retrying : List Nat
  bank : Option Nat
  head : Nat
deriving DecidableEq, Repr

/-- A compose pipe (R170 to R172, R202). -/
structure Pipe where
  state : UnitState := .active
  retry : Option PipeRetry := none
  bankUsed : Option Nat := none
deriving DecidableEq, Repr

/-- The key of a bivouac copy: head, tile column, tile row, members with their descriptors (R212). -/
structure CopyKey where
  head : Nat
  col : Nat
  row : Nat
  members : List (Nat × Desc)
  geom : List Nat
deriving DecidableEq, Repr

/-- A flattened copy (R211): the posts it was built from (layer, buffer, time), its blocks, the bank it lies in, its
pixels as rows of (r, g, b, a), when it was completed and last drawn. -/
structure Copy where
  key : CopyKey
  posts : List (Nat × Nat × Nat)
  blocks : Nat
  bank : Nat
  pixels : List (List (Nat × Nat × Nat × Nat))
  completed : Nat
  drawn : Nat
deriving DecidableEq, Repr

/-- A build waiting or running (R213): its trigger instant, whether it goes ahead of every other, the posts it read,
whether a further post arrived. -/
structure Build where
  key : CopyKey
  trigger : Nat
  urgent : Bool
  running : Bool
  posts : List (Nat × Nat × Nat) := []
  again : Bool := false
deriving DecidableEq, Repr

/-- The bivouac cache (R210 to R216). -/
structure Bivouac where
  copies : List Copy := []
  builds : List Build := []
  retired : List Nat := []
  spares : List Nat := [64, 65, 66, 67]
  retry : List Nat := []
deriving DecidableEq, Repr

/-! ### Lanes, head links, the rope (chapter 8) -/

/-- Table 8-4. -/
inductive LinkState where
  | disabled | absent | reading | training | running | untrained | down
deriving DecidableEq, Repr

/-- A candidate of training: rate code of Table 8-3 and lane count; whether it is tried for the fallback mode. -/
structure Cand where
  rate : Nat
  lanes : Nat
  fallback : Bool
deriving DecidableEq, Repr

/-- A head link (R224 to R233). `cands` are the candidates still to try, the first in training; `phase` 0 clock
recovery or LANE_EQ, 1 channel equalisation or CDS; `tookPart` and `lockSeen` the lanes of the attempt; `sameRetry` the
retry of R232 and `lossOf` the lanes whose loss of lock it answers; `countFrom` the last IRQ_HPD (R228). -/
structure Link where
  state : LinkState := .disabled
  hpd : Bool := false
  countFrom : Nat := 0
  cands : List Cand := []
  phase : Nat := 0
  tookPart : List Nat := []
  lockSeen : List Nat := []
  failed : List Nat := []
  sameRetry : Bool := false
  lossOf : List Nat := []
  cur : Option Cand := none
  degraded : Nat := 0
  retryStep : Nat := 0
  retryAt : Option Nat := none
  runningSince : Nat := 0
  sinkRates : List Nat := []
  sinkLanes : Nat := 0
  sinkSpread : Bool := false
  sinkVsc : Bool := false
deriving DecidableEq, Repr

/-- A serial lane (R234 to R236): its figures and the accepted correction that waits for blanking, with its FOM and eye
width. -/
structure Lane where
  fom : Nat := 0
  eye : Nat := 0
  correction : Option (Nat × Nat) := none
deriving DecidableEq, Repr

/-- A rope flit as it is sent (Table 8-10). -/
structure Flit where
  typ : Nat
  chan : Nat
  seq : Nat
  data : Bytes
  last : Bool
deriving DecidableEq, Repr

/-- The rope link (R237 to R245): state 0 DOWN, 1 TRAINING, 2 UP; the speed code of the step or in use; `prevLanes` the
lanes of the step before, `lastStep` a return to the previous speed; transmit and receive lanes, the receive lanes before
the last change; receive lanes being retried, about to rejoin, and lost for good; the retry schedule of R240; the numbers
and queues of R244; `replays` without an advance; idle (R245); parts of messages received by channel. -/
structure Rope where
  state : Nat := 0
  step : Nat := 0
  prevLanes : List Nat := []
  lastStep : Bool := false
  txLanes : List Nat := []
  rxLanes : List Nat := []
  rxOld : List Nat := []
  retrying : List (Nat × Nat) := []
  rejoin : List Nat := []
  lostLanes : List Nat := []
  retryStep : Nat := 0
  retryAt : Option Nat := none
  nextSend : Nat := 0
  expect : Nat := 0
  replayQ : List Flit := []
  sendQ : List Flit := []
  nakSent : Bool := false
  unacked : Nat := 0
  replays : Nat := 0
  advanceAt : Nat := 0
  idleTx : Bool := false
  idleSince : Nat := 0
  markerSeq : Nat := 0
  parts : List (Nat × Bytes) := []
deriving DecidableEq, Repr

/-! ### Seals, witness records, the summit register (chapter 3) -/

/-- A live-required request that passed the interlock or was refused by it, on its way to a record (R74, R89, R92), with
the touch record of its contact. -/
structure Request where
  record : Bytes
  seq : Nat
  kind : Nat
  reason : Nat
  panel : Nat
  region : Nat
  action : Nat
  hold : Bool
  head : Nat
  layer : Nat
  tc : Nat
  eval : Option LEval
  frameStart : Nat
  content : Option Bytes
  tries : Nat
  epoch : Nat
deriving DecidableEq, Repr

/-- An entry of the summit register (R97): sequence, record, chain hash, exported. -/
structure Entry where
  seq : Nat
  record : Bytes
  hash : Bytes
deriving DecidableEq, Repr

/-- A forwarded record awaiting its acknowledgement (R95): sequence, datagram body, resends made, instant of the last
send, the session and QDP sequence it was sent with. -/
structure Forward where
  seq : Nat
  record : Bytes
  resends : Nat
  time : Nat
  sentIn : Option (Nat × Nat)
deriving DecidableEq, Repr

/-- The summit register and the live-required path. -/
structure Witness where
  ring : List Entry := []
  nextSeq : Nat := 0
  exportNext : Nat := 0
  lastRead : Option Nat := none
  nearFull : Bool := false
  requests : List Request := []
  forwards : List Forward := []
  discardedAcks : Nat := 0
  capacity : Nat := 4096
  chainHead : Bytes := []
  keyGen : Nat := 0
  keys : Bool := false
  signBroken : Bool := false
  kept : Bool := false
deriving DecidableEq, Repr

/-! ### The encode cluster (chapter 9) -/

/-- The input of a relay frame (R247): a write-back frame (head, buffer, carried time, alive, seal flags) or a picture
(stream, slot, tag), or none newer (R249). -/
inductive EncInput where
  | frame (head buf carried alive flags : Nat)
  | pic (stream slot : Nat) (tag : Tag)
deriving DecidableEq, Repr

/-- A pending or coding input: what was selected, at which cut-off, whether it repeats the last one coded. -/
structure EncPend where
  input : EncInput
  cutoff : Nat
  rep : Bool
deriving DecidableEq, Repr

/-- States of an encode context (encode[c].state). -/
inductive EncState where
  | off | waiting | running | shed
deriving DecidableEq, Repr

/-- The mirrored state of an encode context (Table 14-6, type 5). -/
structure EncMirror where
  level : Nat
  levelDen : Nat
  qpPrev : Int
  sent : List (Nat × Nat)
  rows : List Nat
  frame : Nat
  firstHeld : Nat
  gdr : Option (Nat × Nat)
  ltr : Option Nat
  ltrOnly : Bool
  seq : Nat
  ssrc : Option Nat
deriving DecidableEq, Repr

/-- An encode context (R246 to R263). `plan` is the engine an accepted write placed it on (R253), in effect from the next
pitch; `level` over `levelDen` the buffer level L in bytes (R256); `sent` the frames of the last second with their bytes;
`rows` the row codes; `firstHeld` the first row held in the previous frame; `gdr` the frame and the length of a gradual
cycle; `discard` a restart came while a frame was coding, `shedAtEnd` a shedding; `lastCrc` the CRC-32C of the last
coded access unit, `mirrorCrc` that of the partner's in the last applied record (R409), `mirror` mirrored state that waits for
the end of the frame in coding (R399). -/
structure EncCtx where
  state : EncState := .off
  engine : Nat := 0xFF
  plan : Option Nat := none
  noted : Bool := false
  pend : Option EncPend := none
  last : Option EncInput := none
  level : Nat := 0
  levelDen : Nat := 1
  qpPrev : Int := 0
  sent : List (Nat × Nat) := []
  rows : List Nat := []
  frame : Nat := 0
  firstHeld : Nat := 0
  gdr : Option (Nat × Nat) := none
  wantRefresh : Bool := false
  restart : Bool := true
  ltr : Option Nat := none
  ltrOnly : Bool := false
  lastPli : Option Nat := none
  seq : Nat := 0
  ssrc : Option Nat := none
  pkts : Nat := 0
  octets : Nat := 0
  discard : Bool := false
  shedAtEnd : Bool := false
  lastCrc : Nat := 0
  mirrorCrc : Option Nat := none
  mirror : Option EncMirror := none
deriving DecidableEq, Repr

/-- An encode engine: its frame in coding with the count of failed tries (R254, R264), and its work as an `Engine`'s. -/
structure EncEngine where
  state : UnitState := .active
  busy : Option (Nat × EncPend × Nat) := none
  since : Nat := 0
  work : List (Nat × Nat) := []
  replacedBy : Option Nat := none
deriving DecidableEq, Repr

/-! ### Console touch (chapter 10) -/

/-- Table 10-5. -/
inductive PanelState where
  | off | absent | testing | baselining | active | fault | noQuiet | standby
deriving DecidableEq, Repr

/-- A tracked contact (R278 to R283): position in panel coordinates, touch-down sample, blob, whether it is silent
(R288), its head pixel, whether that lies off the screen, the pixel and layer state last reported, its current
record. -/
structure Contact where
  id : Nat
  u : Int
  v : Int
  down : Nat
  blob : List (Nat × Nat)
  silent : Bool
  x : Int
  y : Int
  off : Bool
  shownX : Int
  shownY : Int
  lstate : Nat
  record : Bytes
deriving DecidableEq, Repr

/-- A hold in progress (R285): region, contact, touch-down sample, length in ns, the contact's last record, the sample
that completed it. -/
structure Hold where
  region : Nat
  contact : Nat
  down : Nat
  length : Nat
  record : Bytes
  doneAt : Option Nat := none
deriving DecidableEq, Repr

/-- What a panel keeps of one hop frequency: the baseline, rows by drive electrode; the last scan; the quiet scans in a
row; the last three scans; the sum of squares of the listen integrals of the last 16 listens. -/
structure Freq where
  base : Option (List (List Int)) := none
  prev : Option (List (List Int)) := none
  quiet : List (List (List Int)) := []
  recent : List (List (List Int)) := []
  noise : List Nat := []
deriving DecidableEq, Repr

/-- A touch panel (R265 to R292): present; `cur` the current frequency, in BASELINING the one in capture since
`freqStart`; large objects by their blobs; holds; `fired` the disarmed regions with the contacts that must lift; the scan
in progress (frequency, sample time); the last good one; scans begun, the frequency last rotated to; a failed scan and the
pins it implicates; open electrodes by pin, and the retired channels among them; the last hop; sums of squared deltas with their counts over 120 scans;
whether the head was lost at the last scan; nodes re-baselined since the last record; what a twin mirrors: the contact
records, the hold starts, the disarmed regions. -/
structure Panel where
  state : PanelState := .off
  present : Bool := false
  cur : Nat := 0
  freqs : List (Nat × Freq) := []
  freqStart : Nat := 0
  contacts : List Contact := []
  large : List (List (Nat × Nat)) := []
  holds : List Hold := []
  fired : List (Nat × List Nat) := []
  scan : Option (Nat × Nat) := none
  lastScan : Option (Nat × Nat) := none
  scanCount : Nat := 0
  rot : Nat := 0
  failed : Bool := false
  failPins : List Nat := []
  openPins : List Nat := []
  retiredPins : List Nat := []
  lastHop : Option Nat := none
  resid : List (Nat × Nat) := []
  lost : Bool := false
  changed : List (Nat × Nat × Nat) := []
  mirrored : List Bytes := []
deriving DecidableEq, Repr

/-- Touch as a whole: the event ring with the sequences of its oldest and of its next record, the counts of each action
region (fired, cancelled, refused). -/
structure Touch where
  ring : List Bytes := []
  first : Nat := 0
  next : Nat := 0
  counts : List (Nat × Nat × Nat × Nat) := []
deriving DecidableEq, Repr

/-! ### The memory subsystem (chapter 11) -/

/-- A request in a channel's queue (R302, R303): master class, arrival in ns, rank, bank, row, column burst, write. -/
structure MemReq where
  cls : Nat
  time : Nat
  rank : Nat
  bank : Nat
  row : Nat
  col : Nat
  write : Bool
deriving DecidableEq, Repr

/-- What a command slot issued (R303). -/
inductive MemCmd where
  | refresh (rank : Nat)
  | rfm (rank bank : Nat)
  | access (req : MemReq) (activate : Bool)
deriving DecidableEq, Repr

/-- A spared row (R319): rank, bank, row, spare index, poison mask by burst. -/
structure Remap where
  rank : Nat
  bank : Nat
  row : Nat
  spare : Nat
  poison : List Nat
  active : Bool
deriving DecidableEq, Repr

/-- A memory channel (R302 to R319): the queues and the requests held at the fabric; pages open with their last hit; tally
tables by bank; pessimistic banks with their activates; banks due an RFMpb; refreshes owed by rank and the ranks whose owed
ones are forced; the multiplier and a lower one that waits; rolling activate counts with the limit of the mode registers;
activates of the 1 s window, windows above the warning in a row; row remaps; banks reported out of spares; ranks due a write
timing correction; addresses being re-read with the master that reads; whether the DRAM is above its high-temperature limit. Banks are numbered rank · 16 + bank. -/
structure Channel where
  reads : List MemReq := []
  writes : List MemReq := []
  held : List MemReq := []
  drain : Bool := false
  open_ : List (Nat × Nat × Nat) := []
  tally : List (Nat × List (Nat × Nat)) := []
  pess : List (Nat × Nat) := []
  rfmDue : List Nat := []
  owed : List (Nat × Nat) := []
  forced : List Nat := []
  mult : Nat := 1
  multNext : Option Nat := none
  raa : List (Nat × Nat) := []
  raaLimit : Nat := 0
  acts : List (Nat × Nat) := []
  beyond : Nat := 0
  warned : Bool := false
  remaps : List Remap := []
  sparesOut : List Nat := []
  retuneDue : List Nat := []
  rereads : List (Nat × Nat) := []
  hot : Bool := false
deriving DecidableEq, Repr

/-- The memory controller as a whole: density in Gb, ranks, data rate index of Table 11-2 (0 is 9,600 MT/s), hash masks in
effect, the times of corrected errors per row (channel, rank, bank, row), bytes moved per class, post-package repair
scheduled and its results. -/
structure Mem where
  density : Nat := 16
  ranks : Nat := 2
  rate : Nat := 0
  masks : List Nat := []
  corrected : List (List Nat × List Nat) := []
  classBytes : List (Nat × Nat) := []
  ppr : Bool := false
  pprResults : List (List Nat × Nat) := []
deriving DecidableEq, Repr

/-! ### QDP and CANopen FD (chapter 12) -/

/-- A transfer of segments (R340): transfer number, message type, whole size, the pieces received by offset (sending: the
whole body at 0), the count of bytes acknowledged, the count sent, the instants of the last progress and of the last
sending. -/
structure Transfer where
  num : Nat
  typ : Nat
  total : Nat
  parts : List (Nat × Bytes)
  acked : Nat
  sent : Nat
  progress : Nat
  sentAt : Nat
deriving DecidableEq, Repr

/-- A response kept for repeats (R335): the request's seq and tag, the response's type, seq and body. -/
structure Answer where
  seq : Nat
  tag : Bytes
  typ : Nat
  sentSeq : Nat
  body : Bytes
deriving DecidableEq, Repr

/-- A QDP session or handshake (R333 to R341). `port`, `addr` and `udp` are where the other side is; `role` the letter
in ASCII; `phase` 0 CHALLENGE sent, 1 open, 2 HELLO sent (peer), 3 PROVE sent (peer); `peer` whether the device acts as
the host. -/
structure Session where
  id : Nat
  role : Nat
  phase : Nat
  peer : Bool
  port : Fin 4
  addr : Bytes
  udp : Nat
  nh : Bytes
  nd : Bytes := []
  key : Bytes := []
  time : Nat
  last : Nat
  sendSeq : Nat := 1
  recvMax : Nat := 0
  recvSeen : List Nat := []
  answers : List Answer := []
  mask : Nat := 0
  inT : Option Transfer := none
  outT : Option Transfer := none
  nextT : Nat := 1
deriving DecidableEq, Repr

/-- A peer connection the device opens (R337): 0 gateway, 1 Anchor. -/
structure Peer where
  step : Nat := 0
  retryAt : Option Nat := none
  noted : Bool := false
deriving DecidableEq, Repr

/-- A segmented USDO transfer of a port (R345). -/
structure Usdo where
  node : Nat
  key : Nat
  up : Bool
  data : Bytes
  total : Nat
  last : Nat
deriving DecidableEq, Repr

/-- A CAN port (R342 to R349). -/
structure CanPort where
  nmt : Nat := 0
  bus : Nat := 0
  usdo : Option Usdo := none
  emcyUntil : Nat := 0
deriving DecidableEq, Repr

/-- A reply of the USDO server (R345): a value whole or in segments with its size, an accepted write, an awaited segment, an
abort with its condition of Table 12-10, numbered by the rows. -/
inductive UsdoReply where
  | value (data : Bytes)
  | start (total : Nat)
  | segment (data : Bytes) (more : Bool)
  | done
  | next
  | abort (condition : Nat)
deriving DecidableEq, Repr

/-- A CAN frame sent: port, identifier, data. -/
structure CanFrame where
  port : Nat
  id : Nat
  data : Bytes
deriving DecidableEq, Repr

/-- An entry of the adjustment journal (R324): key, value, digest of the configuration image. -/
structure JEntry where
  key : Nat
  val : Val
  digest : Bytes
deriving DecidableEq, Repr

/-- A response that waits for its journal append (R324): ticket, the entries to append, the session with the request's
seq and tag, or the CAN port, the body of the response, the role letters whose sessions close after it (R334), what else follows it: 1 warm reset, 2 cold
reset, 3 standby, 4 the life-cycle transition. -/
structure JPend where
  ticket : Nat
  entries : List JEntry
  session : Option (Nat × Nat × Bytes)
  can : Option Nat
  body : Bytes
  close : List Nat := []
  after : Option Nat := none
deriving DecidableEq, Repr

/-- The dictionary engine and its clients. -/
structure Dict where
  eff : List (Nat × Val) := []
  pend : List (Nat × List PendW) := []
  events : List EventRec := []
  evNext : Nat := 1
  once : List (Nat × Nat) := []
  journal : List JEntry := []
  jpend : List JPend := []
  nextTicket : Nat := 0
  sessions : List Session := []
  peers : List (Nat × Peer) := []
  fails : List (Bytes × List Nat) := []
  locked : List (Bytes × Nat) := []
deriving DecidableEq, Repr

/-! ### Processors, mailboxes, protection, check values (chapter 13) -/

/-- A processor (R352 to R354): 0 to 8 service cores, 9 to 12 codec controllers, 13 security core; state 0 active, 1
spare, 2 retired, 3 restarting; task bits; since when it runs on probation after a fault. -/
structure Proc where
  state : Nat := 0
  tasks : List Nat := []
  faultAt : Option Nat := none
deriving DecidableEq, Repr

/-- One direction of a mailbox channel (R355 to R365): TX_DATA; message in the slot, taken and not acknowledged, its result
outstanding; result present with sequence, code and reply; last_post; header, payload, epoch and instant of the message;
the last sequence; doorbells rung at the sender and the receiver. -/
structure MbxDir where
  tx : Bytes := []
  full : Bool := false
  awaiting : Bool := false
  outstanding : Bool := false
  resultValid : Bool := false
  result : Nat × Nat × Nat := (0, 0, 0)
  lastPost : Nat := 0
  hdr : Bytes := []
  data : Bytes := []
  hdrEpoch : Nat := 0
  posted : Nat := 0
  seq : Nat := 0
  bells : Nat × Nat := (0, 0)
deriving DecidableEq, Repr

/-- A mailbox channel: its two directions, the epochs of its ends, the masters its ends are bound to, the session that
holds a host channel. -/
structure Mbx where
  d0 : MbxDir := {}
  d1 : MbxDir := {}
  epochA : Nat := 1
  epochB : Nat := 1
  endA : Nat := 0xFF
  endB : Nat := 0xFF
  claim : Option Nat := none
deriving DecidableEq, Repr

/-- A protection unit (R370 to R375): its 16 region words in effect, commit_state, a commit held. -/
structure Prot where
  active : List Nat := []
  cstate : Nat := 0
  held : Bool := false
deriving DecidableEq, Repr

/-- A check-value unit (R376 to R381). -/
structure Cvu where
  alg : Nat := 0
  aliveEn : Bool := false
  alive : Nat := 0
  running : Nat := 0xFFFFFFFF
  result : Nat := 0
deriving DecidableEq, Repr

/-! ### Twin operation (chapter 14) -/

/-- Table 14-1, with `alone` for twin.mode 0 and `anchor` for twin.mode 2. -/
inductive Role where
  | alone | starting | second | cold | lead | withdrawn | anchor
deriving DecidableEq, Repr

/-- A delta of a pitch record (Table 14-6, type 2): key and value as written, with its acceptance instant. -/
structure Delta where
  key : Nat
  val : Bytes
  time : Nat
deriving DecidableEq, Repr

/-- A pitch record as received and verified (R398, R399). -/
structure Record where
  pitch : Nat
  base : Nat
  close : Nat
  sections : List (Nat × Bytes)
deriving DecidableEq, Repr

/-- A record the Lead has closed: pitch, close instant, where the touch ring and the points stood. -/
structure Close where
  pitch : Nat
  time : Nat
  touchNext : Nat
deriving DecidableEq, Repr

/-- A picture as the cross-check keeps it: sequence, checksum, integrity code, completion. -/
structure PicRec where
  seq : Nat
  sum : Nat
  integrity : Nat
  done : Nat
deriving DecidableEq, Repr

/-- Twin state of a member (R382 to R409). A grant held: epoch, receipt, cold. A withdrawal pending: RELEASE reason, when
it was learnt. The gate of R395 and when it closed. The pitch starts since the lease was renewed; since a rise of
TWIN_FENCE; since lead was taken. Anchor contact and its last STATE. Heartbeats valid, lost as raised, consecutive valid
and bad ones, whether this pitch's has come. What the partner reports. The record to apply, pitches without one, whether
one has been discarded in this pitch, the pitch and the instant of the last one applied. As Lead: deltas, telemetry points with their instants, records closed, the last one
acknowledged, whether a snapshot went out. Mismatching heads (key h) and streams (key 64 + s), runs of unequal
digests, mismatches of the last second. Message numbers, and the last accepted by sender (serial, boot_id, msg_seq, change
of boot_id). Identity exchanged; a snapshot applied; commits refused as Second. What the last heartbeat said of each head;
pictures completed by stream, newest first. -/
structure Twin where
  role : Role := .alone
  known : Nat := 0
  held : Nat := 0
  grant : Option (Nat × Nat × Bool) := none
  withdraw : Option (Nat × Nat) := none
  gate : Bool := false
  gateAt : Nat := 0
  renewals : Nat := 0
  leadPin : Bool := false
  fencePin : Bool := false
  fenceRise : Option Nat := none
  pitchesSince : Nat := 0
  takeover : Bool := false
  anchorContact : Bool := false
  anchorLast : Option Nat := none
  ropeValid : Bool := false
  ropeLost : Bool := false
  hbRun : Nat := 0
  hbBad : Nat := 0
  hbGot : Bool := false
  partnerFlags : Nat := 0
  partnerRole : Nat := 0
  partnerHealth : Bytes := []
  record : Option Record := none
  missed : Nat := 0
  discarded : Bool := false
  applied : Nat := 0
  appliedAt : Nat := 0
  partnerApplied : Nat := 0
  deltas : List Delta := []
  points : List (Nat × Bytes) := []
  closes : List Close := []
  acked : Option Close := none
  snapSent : Bool := false
  mism : List Nat := []
  digestRun : List (Nat × Nat) := []
  mismLog : List Nat := []
  bootId : Nat := 0
  msgSeq : Nat := 1
  bootSeen : List (Nat × Nat × Nat × Nat) := []
  identity : Bool := false
  joined : Bool := false
  refusals : Nat := 0
  pics : List (Nat × List PicRec) := []
deriving DecidableEq, Repr

/-- A member as the Anchor sees it (R390): whether present, its last BEAT, the role it reported, the instant of its
start-up REQUEST, its QDP session. -/
structure Member where
  present : Bool := false
  lastBeat : Nat := 0
  role : Nat := 0
  ropeOk : Bool := false
  requested : Option Nat := none
  session : Option Nat := none
deriving DecidableEq, Repr

/-- The Anchor of twin.mode 2 (R390): E, the serial of the Lead, the members by unit, the window of the first start-up
request, the last grant (instant, unit), the grant being repeated, the reason the Lead released with. -/
structure Anchor where
  e : Nat := 0
  lead : Nat := 0
  members : List (Nat × Member) := []
  window : Option Nat := none
  lastGrant : Option (Nat × Nat) := none
  granting : Option Nat := none
  released : Option Nat := none
deriving DecidableEq, Repr

/-! ### Health, life-cycle, power (chapters 15 and 16) -/

/-- A fault record (Table 15-3). -/
structure FaultRec where
  seq : Nat
  cls : Nat
  kind : Nat
  inst : Nat
  code : Nat
  reason : Nat
  action : Nat
  spare : Nat
  time : Nat
  pitch : Nat
  epoch : Nat
  boot : Nat
  p0 : Nat
  p1 : Nat
  p2 : Nat
  p3 : Nat
deriving DecidableEq, Repr

/-- A self-test in progress (R417, R421, R422): kind, unit, what asked (0 rotation, 1 health.test, 2 twin, 3 retest), passes and whether it is the repeat. -/
structure Bist where
  kind : Nat
  inst : Nat
  why : Nat
  passes : Nat
  again : Bool
deriving DecidableEq, Repr

/-- The health service (R410 to R425). `fused` are the units that the fuse latches hold retired for good (R417). -/
structure Health where
  retired : List (Nat × Nat) := []
  fused : List (Nat × Nat) := []
  restored : List (Nat × Nat) := []
  transients : List (Nat × Nat × Nat) := []
  log : List FaultRec := []
  logSeq : Nat := 1
  logNext : Nat := 1
  tests : List Bist := []
  rotation : List (Nat × Nat) := []
  lasting : Nat := 0
  lastLasting : Nat := 0
  bistFails : Nat := 0
  dmaFault : List (Nat × Nat) := []
deriving DecidableEq, Repr

/-- Where the device stands between power-on and running (Table 16-5). -/
inductive Phase where
  | reset | sequencing | pllLocked | trained | wiped | released | running | stopped | stoppingHeads
  | powerDown | standby
deriving DecidableEq, Repr

/-- The image slots of the boot flash, 0 A and 1 B, with their bytes (R445, R446), empty when nothing was written; the
configuration key last in effect (DESIGN CHOICE, log 12); slot and version of the images in effect, and the digest of the
configuration. -/
structure Flash where
  fw : List (Nat × Bytes) := []
  cfg : List (Nat × Bytes) := []
  cfgKey : Bytes := []
  fwInEffect : Option (Nat × Nat) := none
  cfgInEffect : Option (Nat × Nat × Bytes) := none
deriving DecidableEq, Repr

/-- The content of the configuration image in effect, as the chapters name it (DESIGN CHOICE, log 12): values of entries by key, the
entries it marks adjustable and those whose mark it clears (R323), layout presets by group · 64 + number (R178), the length
of the point map (R369), the protection map of each master (R375), the ends of the core channels (Table 13-2). -/
structure Config where
  values : List (Nat × Val) := []
  adjustable : List Nat := []
  notAdjustable : List Nat := []
  presets : List (Nat × List (Nat × Desc)) := []
  points : Nat := 1024
  maps : List (Nat × List Nat) := []
  ends : List (Nat × Nat × Nat) := []
deriving DecidableEq, Repr, Inhabited

/-- Power, reset, the always-on domain (R434 to R460). `cold` and `cause` are of the last reset, `causeAt` its CLK_CTRL
cycle. `nreset` while nRESET is held low; `pwrReq` PWR_REQ high; `faultN` and `porOut` FAULT_N and nPOR_OUT low. `rail` the
rail of the last rail fault; `trainFailed` the channels that failed their first attempt at the rate. `hashWipe` when the
retained region is to be wiped as well. `life` the latch, with the flag of a change not yet wiped and the state before it;
`lifeNext` a transition accepted and not yet latched. `throttle` the throttle step; since when the
temperature is at or above the threshold, throttling lasts, the temperature is 5 °C below the threshold. `startCodes` what start-up raises once the dictionary is there. -/
structure Power where
  phase : Phase := .reset
  cold : Bool := true
  cause : Nat := 1
  causeAt : Nat := 0
  nreset : Bool := true
  holdRail : Bool := false
  holdHeat : Bool := false
  pwrReq : Bool := true
  faultN : Bool := true
  porOut : Bool := true
  stopCode : Nat := 0
  releasedAt : Nat := 0
  rail : Nat := 0
  trainFailed : List Nat := []
  wipeTries : Nat := 0
  wipeUs : Nat := 0
  wipeMiB : Nat := 0
  wakeLatched : Option Nat := none
  wakeSource : Nat := 0
  wakeAt : Option Nat := none
  life : Nat := 0
  lifeOld : Nat := 0
  lifePending : Bool := false
  lifeNext : Option Nat := none
  tamper : Bool := false
  meshFails : List (Nat × Nat) := []
  throttle : Nat := 0
  thSince : Option Nat := none
  thFrom : Nat := 0
  thBelow : Option Nat := none
  warned : Bool := false
  hashWipe : Bool := false
  startCodes : List (Nat × Nat × Nat × Nat × Nat) := []
deriving DecidableEq, Repr

/-- What has left the device other than through a transmit ring, oldest first (the model's own trace, DESIGN CHOICE, log 8). -/
inductive Out where
  | sdp (head hb1 hb2 hb3 : Nat) (body : Bytes)
  | vsc (head : Nat)
  | dpcd (head addr val : Nat)
  | frame (port ring id time : Nat) (payload : Bytes)
  | can (f : CanFrame)
  | usdo (port node : Nat) (r : UsdoReply)
  | flit (data : Bytes)
  | ropeBlock (lane : Nat) (data : Bytes)
  | mbxData (channel : Nat) (data : Bytes)
  | memIssue (channel : Nat) (cmd : MemCmd)
  | access (master addr : Nat) (data : Bytes) (err : Bool)
deriving DecidableEq, Repr

/-! ### The device and the machine -/

/-- Everything the spec gives the device but the content of DRAM. -/
structure Dev where
  clock : Nat := 0
  freeCtr : Nat := 0
  sent : List Out := []
  dict : Dict := {}
  ports : List (Nat × Port) := []
  rings : List (Nat × Ring) := []
  ingest : List (Nat × Ingest) := []
  rtsp : List (Nat × Rtsp) := []
  time : TimeBase := {}
  triggers : List (Nat × Nat) := []
  ctxs : List (Nat × Ctx) := []
  engines : List (Nat × Engine) := []
  groups : List (Nat × Group) := []
  shadow : List (Nat × Desc) := []
  activeT : List (Nat × Desc) := []
  layers : List (Nat × Layer) := []
  slots : List (Nat × CSlot) := []
  heads : List (Nat × Head) := []
  pipes : List (Nat × Pipe) := []
  bivouac : Bivouac := {}
  pitch : Nat := 0
  pitchStarted : Bool := false
  pitchAt : Nat := 0
  links : List (Nat × Link) := []
  lanes : List (Nat × Lane) := []
  rope : Rope := {}
  enc : List (Nat × EncCtx) := []
  encEngines : List (Nat × EncEngine) := []
  panels : List (Nat × Panel) := []
  touch : Touch := {}
  mem : Mem := {}
  chans : List (Nat × Channel) := []
  canPorts : List (Nat × CanPort) := []
  procs : List (Nat × Proc) := []
  mbx : List (Nat × Mbx) := []
  prots : List (Nat × Prot) := []
  cvus : List (Nat × Cvu) := []
  witness : Witness := {}
  twin : Twin := {}
  anchor : Anchor := {}
  health : Health := {}
  flash : Flash := {}
  config : Config := {}
  power : Power := {}
deriving DecidableEq, Repr

/-- The machine: the device, the bytes of DRAM that do not read zero, the commands that wait (first in, first out). -/
structure State where
  dev : Dev
  dram : List Host.Cell
  pending : List Instr
deriving DecidableEq, Repr

/-- Right after power-on: the device is held in cold reset with cause 1; nothing is listed in DRAM; no command waits.
Values the spec gives no reset value for are named in log entries 5 to 7, 12, 15 and 16. -/
def State.reset : State :=
  { dev := { flash := { fw := [(0, Config.factoryFirmware)] } }, dram := [], pending := [] }

/-- Why a step can stop with a fault. No command of the table raises one: what goes wrong in the device is reported by
codes and error responses. Safe. -/
inductive Fault where
  /-- Raised by nobody: no rule of the spec stops the machine otherwise than by the phase `stopped`. Safe. -/
  | none
deriving DecidableEq, Repr

/-- Why a step can be refused. -/
inductive Refusal where
  /-- Raised by exec for a command whose meaning is not written. Safe. -/
  | notModelled (mnemonic : String)
deriving DecidableEq, Repr

end Sys2Proof.Machine
end

