-- ==== Sys2Proof/Machine/ObjBase.lean ====
section
/-! DEFINITION. What a dictionary object is (R11, R12, R16, R322): its place, type, roles, commit class, range and
default. The objects themselves are in Objects1 to Objects3. -/

namespace Sys2Proof.Machine

/-- The dictionary types of Table 0-2. -/
inductive Ty where
  | bool | u8 | u16 | u32 | u64 | i8 | i16 | i32 | i64 | real32 | dtime | domain | string | record
deriving DecidableEq, Repr

/-- The type byte of a directory record (Table 12-1). -/
def Ty.code : Ty → Nat
  | .bool => 1 | .u8 => 2 | .u16 => 3 | .u32 => 4 | .u64 => 5 | .i8 => 6 | .i16 => 7 | .i32 => 8 | .i64 => 9
  | .real32 => 10 | .dtime => 11 | .domain => 12 | .string => 13 | .record => 14

/-- The size of a value of a fixed-size type (Table 0-2). -/
def Ty.size : Ty → Nat
  | .bool => 1 | .u8 => 1 | .u16 => 2 | .u32 => 4 | .u64 => 8 | .i8 => 1 | .i16 => 2 | .i32 => 4 | .i64 => 8
  | .real32 => 4 | .dtime => 12 | .domain => 0 | .string => 0 | .record => 0

/-- The commit classes of Table 0-4. -/
inductive Cls where
  | imm | grp | pit | rst | svc
deriving DecidableEq, Repr

/-- The commit byte of a directory record (Table 12-1). -/
def Cls.code : Cls → Nat
  | .imm => 0 | .grp => 1 | .pit => 2 | .rst => 3 | .svc => 4

/-- The range of an object map: any value of the type, a value among intervals (low, high, step), or a byte string of
so many bytes (low, high, step). -/
inductive Rng where
  | any
  | among (l : List (Int × Int × Int))
  | raw (lo hi step : Nat)
deriving DecidableEq, Repr

/-- A row of an object map; roles 0 none, 1 O, 2 P, 3 E, 4 I, 5 V. -/
structure Obj where
  index : Nat
  sub : Nat
  insts : Nat
  subs : Nat
  typ : Ty
  rd : Nat
  wr : Nat
  cls : Cls
  rng : Rng
  dflt : Nat → Nat → Val
  size : Nat
  adj : Bool

/-- The key of an entry: index · 256 + sub-index, for instance `i` and consecutive sub-index `j`. -/
def Obj.key (o : Obj) (i : Nat) (j : Nat := 0) : Nat := (o.index + i) * 256 + o.sub + j

/-- Whether a key is an entry of the object. -/
def Obj.has (o : Obj) (key : Nat) : Bool :=
  o.index ≤ key / 256 && key / 256 < o.index + o.insts && o.sub ≤ key % 256 && key % 256 < o.sub + o.subs

/-- The instance a key names. -/
def Obj.inst (o : Obj) (key : Nat) : Nat := key / 256 - o.index

/-- The consecutive sub-index a key names. -/
def Obj.subI (o : Obj) (key : Nat) : Nat := key % 256 - o.sub

/-- Whether a number is in a range of intervals with steps. -/
def Rng.ok : Rng → Val → Bool
  | .any, _ => true
  | .among l, .num v => l.any fun (lo, hi, st) => lo ≤ v && v ≤ hi && (v - lo) % st == 0
  | .raw lo hi st, .raw b => lo ≤ b.length && b.length ≤ hi && b.length % st == 0
  | _, _ => false

/-- The hash masks of Table 11-4 for profiles 0 to 3: hash bit `j` of a profile (R300). Home bits are 8 to 11, 15 to
18. -/
def homeBit (j : Nat) : Nat := if j < 4 then 8 + j else 11 + j

/-- See `homeBit`. -/
def profileMask (profile j : Nat) : Nat :=
  let home := 2 ^ homeBit j
  if profile = 0 then home
  else if profile = 1 then home ||| 2 ^ (20 + j) ||| 2 ^ (28 + j)
  else if profile = 2 then home ||| 2 ^ (19 + j) ||| 2 ^ (27 + j)
  else home ||| 2 ^ (20 + j) ||| 2 ^ (28 + j) ||| 2 ^ (20 + (j + 3) % 8)

end Sys2Proof.Machine
end

