-- ==== Sys2Proof/Machine/Objects1.lean ====
section
/-! DEFINITION. The dictionary objects of chapters 1 to 16, one definition each from the chapters' object maps
(part 1 of 3): index and sub-index, instances and consecutive sub-indices, type, read and write role, commit class,
range, default, largest value in bytes, whether the map notes it adjustable. A default the maps do not give is zero or
empty (DESIGN CHOICE, log 5), but for the values log 6 and 16 name. -/

namespace Sys2Proof.Machine.O

/-- clock.ref_select (Table 1-4). -/
def clockRefSelect : Obj := ⟨0x2100, 0x01, 1, 1, .u8, 1, 4, .rst, .among [(0, 1, 1)], fun _ _ => .num 0, 1, false⟩

/-- clock.ref_spread (Table 1-4). -/
def clockRefSpread : Obj := ⟨0x2100, 0x02, 1, 1, .bool, 1, 4, .rst, .any, fun _ _ => .num 0, 1, false⟩

/-- clock.ref_status (Table 1-4). -/
def clockRefStatus : Obj := ⟨0x2100, 0x03, 1, 1, .u8, 1, 0, .imm, .any, fun _ _ => .num 0, 1, false⟩

/-- clock.root_lock (Table 1-4). -/
def clockRootLock : Obj := ⟨0x2100, 0x04, 1, 1, .bool, 1, 0, .imm, .any, fun _ _ => .num 0, 1, false⟩

/-- cairn.whiteout_ground (Table 2-10). -/
def cairnWhiteoutGround : Obj := ⟨0x2900, 0x01, 1, 1, .u32, 1, 4, .pit, .among [(0, 1073741823, 1)], fun _ _ => .num 0x320C8320, 4, false⟩

/-- cairn.whiteout_stripe (Table 2-10). -/
def cairnWhiteoutStripe : Obj := ⟨0x2900, 0x02, 1, 1, .u32, 1, 4, .pit, .among [(0, 1073741823, 1)], fun _ _ => .num 0x1C0701C0, 4, false⟩

/-- cairn.badge_back (Table 2-10). -/
def cairnBadgeBack : Obj := ⟨0x2900, 0x03, 1, 1, .u32, 1, 4, .pit, .among [(0, 1073741823, 1)], fun _ _ => .num 0x04010040, 4, false⟩

/-- cairn.badge_glyph (Table 2-10). -/
def cairnBadgeGlyph : Obj := ⟨0x2900, 0x04, 1, 1, .u32, 1, 4, .pit, .among [(0, 1073741823, 1)], fun _ _ => .num 0x3FFFFFFF, 4, false⟩

/-- cairn.bound_ceiling (Table 2-10). -/
def cairnBoundCeiling : Obj := ⟨0x2900, 0x05, 1, 1, .u32, 1, 4, .pit, .among [(50, 60000, 1)], fun _ _ => .num 400, 4, false⟩

/-- cairn.graphic_bound (Table 2-10). -/
def cairnGraphicBound : Obj := ⟨0x2900, 0x06, 1, 1, .u32, 1, 3, .pit, .among [(50, 60000, 1)], fun _ _ => .num 2000, 4, false⟩

/-- cairn.writeback_bound (Table 2-10). -/
def cairnWritebackBound : Obj := ⟨0x2900, 0x07, 1, 1, .u32, 1, 3, .pit, .among [(50, 60000, 1)], fun _ _ => .num 400, 4, false⟩

/-- cairn.layer_status (Table 2-10). -/
def cairnLayerStatus : Obj := ⟨0x2900, 0x10, 1, 1, .domain, 1, 0, .imm, .raw 0 8192 16, fun _ _ => .raw [], 8192, false⟩

/-- stream[s].age_bound (Table 2-12). -/
def streamAgeBound : Obj := ⟨0x2980, 0x01, 128, 1, .u32, 1, 3, .pit, .among [(50, 60000, 1)], fun _ _ => .num 400, 4, false⟩

/-- stream[s].freeze_mode (Table 2-12). -/
def streamFreezeMode : Obj := ⟨0x2980, 0x02, 128, 1, .u8, 1, 3, .pit, .among [(0, 2, 1)], fun _ _ => .num 1, 1, false⟩

/-- stream[s].freeze_window (Table 2-12). -/
def streamFreezeWindow : Obj := ⟨0x2980, 0x03, 128, 1, .u32, 1, 3, .pit, .among [(0, 0, 1), (500, 60000, 1)], fun _ _ => .num 0, 4, false⟩

/-- stream[s].probe_rect (Table 2-12). -/
def streamProbeRect : Obj := ⟨0x2980, 0x04, 128, 1, .u64, 1, 3, .pit, .any, fun _ _ => .num 0, 8, false⟩

/-- stream[s].arrival_uncertainty (Table 2-12). -/
def streamArrivalUncertainty : Obj := ⟨0x2980, 0x05, 128, 1, .u32, 1, 4, .pit, .among [(0, 2000000, 1)], fun _ _ => .num 100000, 4, false⟩

/-- stream[s].loss_timeout (Table 2-12). -/
def streamLossTimeout : Obj := ⟨0x2980, 0x06, 128, 1, .u32, 1, 4, .pit, .among [(100, 30000, 1)], fun _ _ => .num 1000, 4, false⟩

/-- stream[s].timing (Table 2-12). -/
def streamTiming : Obj := ⟨0x2980, 0x07, 128, 1, .u8, 1, 0, .imm, .any, fun _ _ => .num 0, 1, false⟩

/-- stream[s].freeze_state (Table 2-12). -/
def streamFreezeState : Obj := ⟨0x2980, 0x08, 128, 1, .u8, 1, 0, .imm, .any, fun _ _ => .num 0, 1, false⟩

/-- stream[s].run_start (Table 2-12). -/
def streamRunStart : Obj := ⟨0x2980, 0x09, 128, 1, .dtime, 1, 0, .imm, .any, fun _ _ => .num 0, 12, false⟩

/-- stream[s].signature (Table 2-12). -/
def streamSignature : Obj := ⟨0x2980, 0x0A, 128, 1, .u32, 1, 0, .imm, .any, fun _ _ => .num 0, 4, false⟩

/-- head[h].freeze_frames (Table 2-13). -/
def headFreezeFrames : Obj := ⟨0x2740, 0x01, 32, 1, .u8, 1, 4, .pit, .among [(2, 120, 1)], fun _ _ => .num 8, 1, false⟩

/-- head[h].freeze_state (Table 2-13). -/
def headFreezeState : Obj := ⟨0x2740, 0x02, 32, 1, .u8, 1, 0, .imm, .any, fun _ _ => .num 0, 1, false⟩

/-- head[h].freeze_count (Table 2-13). -/
def headFreezeCount : Obj := ⟨0x2740, 0x03, 32, 1, .u8, 1, 0, .imm, .any, fun _ _ => .num 0, 1, false⟩

/-- head[h].frozen_events (Table 2-13). -/
def headFrozenEvents : Obj := ⟨0x2740, 0x04, 32, 1, .u32, 1, 0, .imm, .any, fun _ _ => .num 0, 4, false⟩

/-- head[h].live_layers (Table 2-13). -/
def headLiveLayers : Obj := ⟨0x2740, 0x05, 32, 1, .u8, 1, 0, .imm, .any, fun _ _ => .num 0, 1, false⟩

/-- head[h].whiteout_layers (Table 2-13). -/
def headWhiteoutLayers : Obj := ⟨0x2740, 0x06, 32, 1, .u8, 1, 0, .imm, .any, fun _ _ => .num 0, 1, false⟩

/-- head[h].seal_enable (Table 3-8). -/
def headSealEnable : Obj := ⟨0x2740, 0x07, 32, 1, .bool, 1, 4, .rst, .any, fun _ _ => .num 1, 1, false⟩

/-- head[h].seal_sdp_type (Table 3-8). -/
def headSealSdpType : Obj := ⟨0x2740, 0x08, 32, 1, .u8, 1, 4, .rst, .among [(64, 127, 1)], fun _ _ => .num 0x7F, 1, false⟩

/-- head[h].seal_last (Table 3-8). -/
def headSealLast : Obj := ⟨0x2740, 0x09, 32, 1, .domain, 1, 0, .imm, .raw 0 32 32, fun _ _ => .raw [], 32, false⟩

/-- head[h].frame_crc (Table 3-8). -/
def headFrameCrc : Obj := ⟨0x2740, 0x0A, 32, 1, .u32, 1, 0, .imm, .any, fun _ _ => .num 0, 4, false⟩

/-- head[h].seals_dropped (Table 3-8). -/
def headSealsDropped : Obj := ⟨0x2740, 0x0B, 32, 1, .u32, 1, 0, .imm, .any, fun _ _ => .num 0, 4, false⟩

/-- witness.gateway_addr (Table 3-9). -/
def witnessGatewayAddr : Obj := ⟨0x2920, 0x01, 1, 1, .string, 1, 4, .pit, .raw 0 255 1, fun _ _ => .raw [], 255, false⟩

/-- witness.gateway_port (Table 3-9). -/
def witnessGatewayPort : Obj := ⟨0x2920, 0x02, 1, 1, .u16, 1, 4, .pit, .among [(1, 65535, 1)], fun _ _ => .num 28211, 2, false⟩

/-- witness.ack_timeout (Table 3-9). -/
def witnessAckTimeout : Obj := ⟨0x2920, 0x03, 1, 1, .u16, 1, 4, .pit, .among [(20, 1000, 1)], fun _ _ => .num 100, 2, false⟩

/-- witness.resends (Table 3-9). -/
def witnessResends : Obj := ⟨0x2920, 0x04, 1, 1, .u8, 1, 4, .pit, .among [(0, 10, 1)], fun _ _ => .num 4, 1, false⟩

/-- witness.key_slot (Table 3-9). -/
def witnessKeySlot : Obj := ⟨0x2920, 0x05, 1, 1, .u8, 1, 0, .rst, .any, fun _ _ => .num 2, 1, false⟩

/-- witness.public_key (Table 3-9). -/
def witnessPublicKey : Obj := ⟨0x2920, 0x06, 1, 1, .domain, 1, 0, .imm, .raw 0 64 64, fun _ _ => .raw [], 64, false⟩

/-- witness.issued (Table 3-9). -/
def witnessIssued : Obj := ⟨0x2920, 0x07, 1, 1, .u32, 1, 0, .imm, .any, fun _ _ => .num 0, 4, false⟩

/-- witness.refused (Table 3-9). -/
def witnessRefused : Obj := ⟨0x2920, 0x08, 1, 1, .u32, 1, 0, .imm, .any, fun _ _ => .num 0, 4, false⟩

/-- witness.unacked (Table 3-9). -/
def witnessUnacked : Obj := ⟨0x2920, 0x09, 1, 1, .u32, 1, 0, .imm, .any, fun _ _ => .num 0, 4, false⟩

/-- summit.capacity (Table 3-9). -/
def summitCapacity : Obj := ⟨0x2930, 0x01, 1, 1, .u32, 1, 4, .rst, .among [(1024, 65536, 1)], fun _ _ => .num 4096, 4, false⟩

/-- summit.last_seq (Table 3-9). -/
def summitLastSeq : Obj := ⟨0x2930, 0x02, 1, 1, .u64, 1, 0, .imm, .any, fun _ _ => .num 0, 8, false⟩

/-- summit.export_next (Table 3-9). -/
def summitExportNext : Obj := ⟨0x2930, 0x03, 1, 1, .u64, 1, 0, .imm, .any, fun _ _ => .num 0, 8, false⟩

/-- summit.export (Table 3-9). -/
def summitExport : Obj := ⟨0x2930, 0x04, 1, 1, .domain, 3, 0, .imm, .raw 0 14336 224, fun _ _ => .raw [], 14336, false⟩

/-- summit.export_ack (Table 3-9). -/
def summitExportAck : Obj := ⟨0x2930, 0x05, 1, 1, .u64, 3, 3, .imm, .any, fun _ _ => .num 0, 8, false⟩

/-- summit.unexported (Table 3-9). -/
def summitUnexported : Obj := ⟨0x2930, 0x06, 1, 1, .u32, 1, 0, .imm, .any, fun _ _ => .num 0, 4, false⟩

/-- summit.warn_level (Table 3-9). -/
def summitWarnLevel : Obj := ⟨0x2930, 0x07, 1, 1, .u8, 1, 4, .pit, .among [(50, 95, 1)], fun _ _ => .num 75, 1, false⟩

/-- summit.unrecorded (Table 3-9). -/
def summitUnrecorded : Obj := ⟨0x2930, 0x08, 1, 1, .u32, 1, 0, .imm, .any, fun _ _ => .num 0, 4, false⟩

/-- summit.chain_head (Table 3-9). -/
def summitChainHead : Obj := ⟨0x2930, 0x09, 1, 1, .domain, 1, 0, .imm, .raw 0 32 32, fun _ _ => .raw [], 32, false⟩

/-- summit.chain_start (Table 3-9). -/
def summitChainStart : Obj := ⟨0x2930, 0x0A, 1, 1, .dtime, 1, 0, .imm, .any, fun _ _ => .num 0, 12, false⟩

/-- summit.capacity_active (Table 3-9). -/
def summitCapacityActive : Obj := ⟨0x2930, 0x0B, 1, 1, .u32, 1, 0, .imm, .any, fun _ _ => .num 4096, 4, false⟩

/-- time.now (Table 4-9). -/
def timeNow : Obj := ⟨0x2101, 0x01, 1, 1, .dtime, 1, 0, .imm, .any, fun _ _ => .num 0, 12, false⟩

/-- time.state (Table 4-9). -/
def timeState : Obj := ⟨0x2101, 0x02, 1, 1, .u8, 1, 0, .imm, .any, fun _ _ => .num 0, 1, false⟩

/-- time.gm_identity (Table 4-9). -/
def timeGmIdentity : Obj := ⟨0x2101, 0x03, 1, 1, .u64, 1, 0, .imm, .any, fun _ _ => .num 0, 8, false⟩

/-- time.offset (Table 4-9). -/
def timeOffset : Obj := ⟨0x2101, 0x04, 1, 1, .i64, 1, 0, .imm, .any, fun _ _ => .num 0, 8, false⟩

/-- time.increment (Table 4-9). -/
def timeIncrement : Obj := ⟨0x2101, 0x05, 1, 1, .u64, 1, 4, .imm, .any, fun _ _ => .num 0x0002800000000000, 8, false⟩

/-- time.servo (Table 4-9). -/
def timeServo : Obj := ⟨0x2101, 0x06, 1, 1, .bool, 1, 4, .rst, .any, fun _ _ => .num 1, 1, false⟩

/-- time.ptp_port (Table 4-9). -/
def timePtpPort : Obj := ⟨0x2101, 0x07, 1, 1, .u8, 1, 4, .rst, .among [(0, 3, 1), (255, 255, 1)], fun _ _ => .num 0, 1, false⟩

/-- time.ptp_port_alt (Table 4-9). -/
def timePtpPortAlt : Obj := ⟨0x2101, 0x08, 1, 1, .u8, 1, 4, .rst, .among [(0, 3, 1), (255, 255, 1)], fun _ _ => .num 0xFF, 1, false⟩

/-- time.gm_capable (Table 4-9). -/
def timeGmCapable : Obj := ⟨0x2101, 0x09, 1, 1, .bool, 1, 4, .rst, .any, fun _ _ => .num 0, 1, false⟩

/-- time.priority1 (Table 4-9). -/
def timePriority1 : Obj := ⟨0x2101, 0x0A, 1, 1, .u8, 1, 4, .rst, .among [(0, 255, 1)], fun _ _ => .num 248, 1, false⟩

/-- time.priority2 (Table 4-9). -/
def timePriority2 : Obj := ⟨0x2101, 0x0B, 1, 1, .u8, 1, 4, .rst, .among [(0, 255, 1)], fun _ _ => .num 248, 1, false⟩

/-- time.utc_offset (Table 4-9). -/
def timeUtcOffset : Obj := ⟨0x2101, 0x0C, 1, 1, .i16, 1, 0, .imm, .any, fun _ _ => .num 37, 2, false⟩

/-- time.holdover_limit (Table 4-9). -/
def timeHoldoverLimit : Obj := ⟨0x2101, 0x0D, 1, 1, .u32, 1, 4, .pit, .among [(1, 10000, 1)], fun _ _ => .num 100, 4, false⟩

/-- time.holdover_drift (Table 4-9). -/
def timeHoldoverDrift : Obj := ⟨0x2101, 0x0E, 1, 1, .u32, 1, 4, .pit, .among [(10, 50000, 1)], fun _ _ => .num 500, 4, false⟩

/-- time.slew_limit (Table 4-9). -/
def timeSlewLimit : Obj := ⟨0x2101, 0x0F, 1, 1, .u16, 1, 4, .pit, .among [(10, 1000, 1)], fun _ _ => .num 500, 2, false⟩

/-- time.one_step (Table 4-9). -/
def timeOneStep : Obj := ⟨0x2101, 0x10, 1, 1, .bool, 1, 4, .rst, .any, fun _ _ => .num 0, 1, false⟩

/-- time.error_bound (Table 4-9). -/
def timeErrorBound : Obj := ⟨0x2101, 0x11, 1, 1, .u32, 1, 0, .imm, .any, fun _ _ => .num 0, 4, false⟩

/-- time.steps (Table 4-9). -/
def timeSteps : Obj := ⟨0x2101, 0x12, 1, 1, .u32, 1, 0, .imm, .any, fun _ _ => .num 0, 4, false⟩

/-- time.triggers_late (Table 4-9). -/
def timeTriggersLate : Obj := ⟨0x2101, 0x13, 1, 1, .u32, 1, 0, .imm, .any, fun _ _ => .num 0, 4, false⟩

/-- grid[g].rate_num (Table 4-10). -/
def gridRateNum : Obj := ⟨0x2110, 0x01, 8, 1, .u32, 1, 4, .grp, .among [(1, 240000, 1)], fun _ _ => .num 60, 4, false⟩

/-- grid[g].rate_den (Table 4-10). -/
def gridRateDen : Obj := ⟨0x2110, 0x02, 8, 1, .u32, 1, 4, .grp, .among [(1, 1001, 1)], fun _ _ => .num 1, 4, false⟩

/-- grid[g].phase (Table 4-10). -/
def gridPhase : Obj := ⟨0x2110, 0x03, 8, 1, .u32, 1, 4, .grp, .any, fun _ _ => .num 0, 4, false⟩

/-- grid[g].trim_limit (Table 4-10). -/
def gridTrimLimit : Obj := ⟨0x2110, 0x04, 8, 1, .u8, 1, 4, .grp, .among [(1, 50, 1)], fun _ _ => .num 20, 1, false⟩

/-- grid[g].locked_heads (Table 4-10). -/
def gridLockedHeads : Obj := ⟨0x2110, 0x05, 8, 1, .u32, 1, 0, .imm, .any, fun _ _ => .num 0, 4, false⟩

/-- grid[g].pulling_heads (Table 4-10). -/
def gridPullingHeads : Obj := ⟨0x2110, 0x06, 8, 1, .u32, 1, 0, .imm, .any, fun _ _ => .num 0, 4, false⟩

/-- port[p].mode (Table 4-11). -/
def portMode : Obj := ⟨0x2200, 0x01, 4, 1, .u8, 1, 4, .rst, .among [(0, 4, 1)], fun _ _ => .num 4, 1, false⟩

/-- port[p].mac (Table 4-11). -/
def portMac : Obj := ⟨0x2200, 0x02, 4, 1, .u64, 1, 0, .imm, .any, fun _ _ => .num 0, 8, false⟩

/-- port[p].ipv4_addr (Table 4-11). -/
def portIpv4Addr : Obj := ⟨0x2200, 0x03, 4, 1, .string, 1, 4, .rst, .raw 0 255 1, fun _ _ => .raw [], 255, false⟩

/-- port[p].ipv4_prefix (Table 4-11). -/
def portIpv4Prefix : Obj := ⟨0x2200, 0x04, 4, 1, .u8, 1, 4, .rst, .among [(0, 32, 1)], fun _ _ => .num 24, 1, false⟩

/-- port[p].ipv4_gateway (Table 4-11). -/
def portIpv4Gateway : Obj := ⟨0x2200, 0x05, 4, 1, .string, 1, 4, .rst, .raw 0 255 1, fun _ _ => .raw [], 255, false⟩

/-- port[p].ipv6_addr (Table 4-11). -/
def portIpv6Addr : Obj := ⟨0x2200, 0x06, 4, 1, .string, 1, 4, .rst, .raw 0 255 1, fun _ _ => .raw [], 255, false⟩

/-- port[p].ipv6_prefix (Table 4-11). -/
def portIpv6Prefix : Obj := ⟨0x2200, 0x07, 4, 1, .u8, 1, 4, .rst, .among [(0, 128, 1)], fun _ _ => .num 64, 1, false⟩

/-- port[p].vlan (Table 4-11). -/
def portVlan : Obj := ⟨0x2200, 0x08, 4, 1, .u16, 1, 4, .rst, .among [(0, 4094, 1)], fun _ _ => .num 0, 2, false⟩

/-- port[p].ts_rx_adjust (Table 4-11). -/
def portTsRxAdjust : Obj := ⟨0x2200, 0x09, 4, 1, .i32, 1, 4, .pit, .among [(-100000, 100000, 1)], fun _ _ => .num 0, 4, false⟩

/-- port[p].ts_tx_adjust (Table 4-11). -/
def portTsTxAdjust : Obj := ⟨0x2200, 0x0A, 4, 1, .i32, 1, 4, .pit, .among [(-100000, 100000, 1)], fun _ _ => .num 0, 4, false⟩

/-- port[p].ptp_asymmetry (Table 4-11). -/
def portPtpAsymmetry : Obj := ⟨0x2200, 0x0B, 4, 1, .i32, 1, 4, .pit, .among [(-100000, 100000, 1)], fun _ _ => .num 0, 4, false⟩

/-- port[p].launch_late_window (Table 4-11). -/
def portLaunchLateWindow : Obj := ⟨0x2200, 0x0C, 4, 1, .u32, 1, 4, .pit, .among [(10, 10000, 1)], fun _ _ => .num 500, 4, false⟩

/-- port[p].link (Table 4-11). -/
def portLink : Obj := ⟨0x2200, 0x0D, 4, 1, .u8, 1, 0, .imm, .any, fun _ _ => .num 0, 1, false⟩

/-- port[p].rx_dropped (Table 4-11). -/
def portRxDropped : Obj := ⟨0x2200, 0x0E, 4, 1, .u64, 1, 0, .imm, .any, fun _ _ => .num 0, 8, false⟩

/-- ring[n].size (Table 4-12). -/
def ringSize : Obj := ⟨0x2240, 0x01, 64, 1, .u16, 1, 4, .rst, .among [(64, 64, 1), (128, 128, 1), (256, 256, 1), (512, 512, 1), (1024, 1024, 1), (2048, 2048, 1), (4096, 4096, 1)], fun i _ => .num (if 4 ≤ i % 16 && i % 16 ≤ 7 then 1024 else 256), 2, false⟩

/-- ring[n].frames (Table 4-12). -/
def ringFrames : Obj := ⟨0x2240, 0x02, 64, 1, .u64, 1, 0, .imm, .any, fun _ _ => .num 0, 8, false⟩

/-- ring[n].overflows (Table 4-12). -/
def ringOverflows : Obj := ⟨0x2240, 0x03, 64, 1, .u32, 1, 0, .imm, .any, fun _ _ => .num 0, 4, false⟩

/-- stream[s].source_mode (Table 4-13). -/
def streamSourceMode : Obj := ⟨0x2400, 0x01, 128, 1, .u8, 1, 4, .pit, .among [(0, 2, 1)], fun _ _ => .num 0, 1, false⟩

/-- stream[s].port (Table 4-13). -/
def streamPort : Obj := ⟨0x2400, 0x02, 128, 1, .u8, 1, 4, .pit, .among [(0, 3, 1)], fun _ _ => .num 0, 1, false⟩

/-- stream[s].vlan (Table 4-13). -/
def streamVlan : Obj := ⟨0x2400, 0x03, 128, 1, .u16, 1, 4, .pit, .among [(0, 4094, 1)], fun _ _ => .num 0, 2, false⟩

/-- stream[s].dst_addr (Table 4-13). -/
def streamDstAddr : Obj := ⟨0x2400, 0x04, 128, 1, .string, 1, 4, .pit, .raw 0 255 1, fun _ _ => .raw [], 255, false⟩

/-- stream[s].dst_port (Table 4-13). -/
def streamDstPort : Obj := ⟨0x2400, 0x05, 128, 1, .u16, 1, 4, .pit, .among [(0, 0, 1), (1024, 65534, 2)], fun _ _ => .num 0, 2, false⟩

/-- stream[s].src_addr (Table 4-13). -/
def streamSrcAddr : Obj := ⟨0x2400, 0x06, 128, 1, .string, 1, 4, .pit, .raw 0 255 1, fun _ _ => .raw [], 255, false⟩

/-- stream[s].rtcp_mux (Table 4-13). -/
def streamRtcpMux : Obj := ⟨0x2400, 0x07, 128, 1, .bool, 1, 4, .pit, .any, fun _ _ => .num 0, 1, false⟩

/-- stream[s].payload_type (Table 4-13). -/
def streamPayloadType : Obj := ⟨0x2400, 0x08, 128, 1, .u8, 1, 4, .pit, .among [(96, 127, 1)], fun _ _ => .num 96, 1, false⟩

/-- stream[s].codec (Table 4-13). -/
def streamCodec : Obj := ⟨0x2400, 0x09, 128, 1, .u8, 1, 4, .pit, .among [(0, 1, 1)], fun _ _ => .num 1, 1, false⟩

/-- stream[s].rtsp_url (Table 4-13). -/
def streamRtspUrl : Obj := ⟨0x2400, 0x0A, 128, 1, .string, 1, 4, .pit, .raw 0 255 1, fun _ _ => .raw [], 255, false⟩

/-- stream[s].rtsp_user (Table 4-13). -/
def streamRtspUser : Obj := ⟨0x2400, 0x0B, 128, 1, .string, 0, 4, .pit, .raw 0 255 1, fun _ _ => .raw [], 255, false⟩

/-- stream[s].rtsp_secret (Table 4-13). -/
def streamRtspSecret : Obj := ⟨0x2400, 0x0C, 128, 1, .string, 0, 4, .pit, .raw 0 255 1, fun _ _ => .raw [], 255, false⟩

/-- stream[s].jitter (Table 4-13). -/
def streamJitter : Obj := ⟨0x2400, 0x0D, 128, 1, .u16, 1, 3, .pit, .among [(0, 500, 1)], fun _ _ => .num 60, 2, false⟩

/-- stream[s].au_buffer (Table 4-13). -/
def streamAuBuffer : Obj := ⟨0x2400, 0x0E, 128, 1, .u32, 1, 4, .rst, .among [(65536, 16777216, 65536)], fun _ _ => .num 2097152, 4, false⟩

/-- stream[s].au_slots (Table 4-13). -/
def streamAuSlots : Obj := ⟨0x2400, 0x0F, 128, 1, .u8, 1, 4, .rst, .among [(2, 8, 1)], fun _ _ => .num 4, 1, false⟩

/-- stream[s].sr_timescale (Table 4-13). -/
def streamSrTimescale : Obj := ⟨0x2400, 0x10, 128, 1, .u8, 1, 4, .pit, .among [(0, 1, 1)], fun _ _ => .num 0, 1, false⟩

/-- stream[s].ring (Table 4-13). -/
def streamRing : Obj := ⟨0x2400, 0x11, 128, 1, .u8, 1, 4, .pit, .among [(4, 7, 1)], fun i _ => .num (4 + i % 4), 1, false⟩

/-- stream[s].ssrc (Table 4-13). -/
def streamSsrc : Obj := ⟨0x2400, 0x12, 128, 1, .u32, 1, 0, .imm, .any, fun _ _ => .num 0, 4, false⟩

/-- stream[s].rx_packets (Table 4-13). -/
def streamRxPackets : Obj := ⟨0x2400, 0x13, 128, 1, .u64, 1, 0, .imm, .any, fun _ _ => .num 0, 8, false⟩

/-- stream[s].au_complete (Table 4-13). -/
def streamAuComplete : Obj := ⟨0x2400, 0x14, 128, 1, .u64, 1, 0, .imm, .any, fun _ _ => .num 0, 8, false⟩

/-- stream[s].au_lost (Table 4-13). -/
def streamAuLost : Obj := ⟨0x2400, 0x15, 128, 1, .u64, 1, 0, .imm, .any, fun _ _ => .num 0, 8, false⟩

/-- stream[s].packets_late (Table 4-13). -/
def streamPacketsLate : Obj := ⟨0x2400, 0x16, 128, 1, .u32, 1, 0, .imm, .any, fun _ _ => .num 0, 4, false⟩

/-- stream[s].rtsp_state (Table 4-13). -/
def streamRtspState : Obj := ⟨0x2400, 0x17, 128, 1, .u8, 1, 0, .imm, .any, fun _ _ => .num 0, 1, false⟩

/-- stream[s].last_sr (Table 4-13). -/
def streamLastSr : Obj := ⟨0x2400, 0x18, 128, 1, .dtime, 1, 0, .imm, .any, fun _ _ => .num 0, 12, false⟩

/-- decode.capacity (Table 5-9). -/
def decodeCapacity : Obj := ⟨0x2480, 0x01, 1, 1, .u32, 1, 0, .imm, .any, fun _ _ => .num 8000000, 4, false⟩

/-- decode.total_load (Table 5-9). -/
def decodeTotalLoad : Obj := ⟨0x2480, 0x02, 1, 1, .u32, 1, 0, .imm, .any, fun _ _ => .num 0, 4, false⟩

/-- decode.slots_used (Table 5-9). -/
def decodeSlotsUsed : Obj := ⟨0x2480, 0x03, 1, 1, .u16, 1, 0, .imm, .any, fun _ _ => .num 0, 2, false⟩

/-- decode.spare_state (Table 5-9). -/
def decodeSpareState : Obj := ⟨0x2480, 0x04, 1, 1, .u8, 1, 0, .imm, .any, fun _ _ => .num 1, 1, false⟩

/-- decode.shed_streams (Table 5-9). -/
def decodeShedStreams : Obj := ⟨0x2480, 0x05, 1, 1, .u8, 1, 0, .imm, .any, fun _ _ => .num 0, 1, false⟩

/-- engine[e].state (Table 5-9). -/
def engineState : Obj := ⟨0x2490, 0x01, 9, 1, .u8, 1, 0, .imm, .any, fun i _ => .num (if i = 8 then 1 else 0), 1, false⟩

/-- engine[e].load (Table 5-9). -/
def engineLoad : Obj := ⟨0x2490, 0x02, 9, 1, .u32, 1, 0, .imm, .any, fun _ _ => .num 0, 4, false⟩

/-- engine[e].contexts (Table 5-9). -/
def engineContexts : Obj := ⟨0x2490, 0x03, 9, 1, .u8, 1, 0, .imm, .any, fun _ _ => .num 0, 1, false⟩

/-- engine[e].busy (Table 5-9). -/
def engineBusy : Obj := ⟨0x2490, 0x04, 9, 1, .u8, 1, 0, .imm, .any, fun _ _ => .num 0, 1, false⟩

/-- engine[e].pictures (Table 5-9). -/
def enginePictures : Obj := ⟨0x2490, 0x05, 9, 1, .u64, 1, 0, .imm, .any, fun _ _ => .num 0, 8, false⟩

/-- engine[e].transient_faults (Table 5-9). -/
def engineTransientFaults : Obj := ⟨0x2490, 0x06, 9, 1, .u32, 1, 0, .imm, .any, fun _ _ => .num 0, 4, false⟩

/-- stream[s].max_width (Table 5-10). -/
def streamMaxWidth : Obj := ⟨0x2400, 0x20, 128, 1, .u16, 1, 4, .pit, .among [(64, 4096, 1)], fun _ _ => .num 1920, 2, false⟩

/-- stream[s].max_height (Table 5-10). -/
def streamMaxHeight : Obj := ⟨0x2400, 0x21, 128, 1, .u16, 1, 4, .pit, .among [(64, 4096, 1)], fun _ _ => .num 1080, 2, false⟩

/-- stream[s].frame_rate (Table 5-10). -/
def streamFrameRate : Obj := ⟨0x2400, 0x22, 128, 1, .u16, 1, 4, .pit, .among [(100, 12000, 1)], fun _ _ => .num 3000, 2, false⟩

/-- stream[s].bit_depth (Table 5-10). -/
def streamBitDepth : Obj := ⟨0x2400, 0x23, 128, 1, .u8, 1, 4, .rst, .among [(8, 8, 1), (10, 10, 1)], fun _ _ => .num 8, 1, false⟩

/-- stream[s].pic_slots (Table 5-10). -/
def streamPicSlots : Obj := ⟨0x2400, 0x24, 128, 1, .u8, 1, 4, .rst, .among [(4, 24, 1)], fun _ _ => .num 8, 1, false⟩

/-- stream[s].priority (Table 5-10). -/
def streamPriority : Obj := ⟨0x2400, 0x25, 128, 1, .u8, 1, 3, .pit, .among [(0, 7, 1)], fun _ _ => .num 4, 1, false⟩

/-- stream[s].engine (Table 5-10). -/
def streamEngine : Obj := ⟨0x2400, 0x26, 128, 1, .u8, 1, 4, .pit, .among [(0, 8, 1), (255, 255, 1)], fun _ _ => .num 0xFF, 1, false⟩

/-- stream[s].start_wait (Table 5-10). -/
def streamStartWait : Obj := ⟨0x2400, 0x27, 128, 1, .u16, 1, 4, .pit, .among [(0, 5000, 1)], fun _ _ => .num 200, 2, false⟩

/-- stream[s].fir_interval (Table 5-10). -/
def streamFirInterval : Obj := ⟨0x2400, 0x28, 128, 1, .u16, 1, 4, .pit, .among [(200, 10000, 1)], fun _ _ => .num 1000, 2, false⟩

/-- stream[s].restart (Table 5-10). -/
def streamRestart : Obj := ⟨0x2400, 0x29, 128, 1, .bool, 1, 3, .pit, .any, fun _ _ => .num 0, 1, false⟩

/-- stream[s].dec_state (Table 5-10). -/
def streamDecState : Obj := ⟨0x2400, 0x2A, 128, 1, .u8, 1, 0, .imm, .any, fun _ _ => .num 0, 1, false⟩

/-- stream[s].engine_now (Table 5-10). -/
def streamEngineNow : Obj := ⟨0x2400, 0x2B, 128, 1, .u8, 1, 0, .imm, .any, fun _ _ => .num 0xFF, 1, false⟩

/-- stream[s].load (Table 5-10). -/
def streamLoad : Obj := ⟨0x2400, 0x2C, 128, 1, .u32, 1, 0, .imm, .any, fun _ _ => .num 0, 4, false⟩

/-- stream[s].coded_size (Table 5-10). -/
def streamCodedSize : Obj := ⟨0x2400, 0x2D, 128, 1, .u32, 1, 0, .imm, .any, fun _ _ => .num 0, 4, false⟩

/-- stream[s].profile (Table 5-10). -/
def streamProfile : Obj := ⟨0x2400, 0x2E, 128, 1, .u8, 1, 0, .imm, .any, fun _ _ => .num 0, 1, false⟩

/-- stream[s].pictures (Table 5-10). -/
def streamPictures : Obj := ⟨0x2400, 0x2F, 128, 1, .u64, 1, 0, .imm, .any, fun _ _ => .num 0, 8, false⟩

/-- stream[s].concealed (Table 5-10). -/
def streamConcealed : Obj := ⟨0x2400, 0x30, 128, 1, .u32, 1, 0, .imm, .any, fun _ _ => .num 0, 4, false⟩

/-- stream[s].tainted (Table 5-10). -/
def streamTainted : Obj := ⟨0x2400, 0x31, 128, 1, .u32, 1, 0, .imm, .any, fun _ _ => .num 0, 4, false⟩

/-- stream[s].fir_sent (Table 5-10). -/
def streamFirSent : Obj := ⟨0x2400, 0x32, 128, 1, .u32, 1, 0, .imm, .any, fun _ _ => .num 0, 4, false⟩

/-- stream[s].errors (Table 5-10). -/
def streamErrors : Obj := ⟨0x2400, 0x33, 128, 1, .u32, 1, 0, .imm, .any, fun _ _ => .num 0, 4, false⟩

/-- stream[s].over_budget (Table 5-10). -/
def streamOverBudget : Obj := ⟨0x2400, 0x34, 128, 1, .u32, 1, 0, .imm, .any, fun _ _ => .num 0, 4, false⟩

/-- stream[s].checksum (Table 5-10). -/
def streamChecksum : Obj := ⟨0x2400, 0x35, 128, 1, .u32, 1, 0, .imm, .any, fun _ _ => .num 0, 4, false⟩

/-- head[h].enable (Table 6-1). -/
def headEnable : Obj := ⟨0x2700, 0x01, 32, 1, .bool, 1, 4, .grp, .any, fun _ _ => .num 1, 1, false⟩

/-- head[h].group (Table 6-1). -/
def headGroup : Obj := ⟨0x2700, 0x02, 32, 1, .u8, 1, 4, .rst, .among [(0, 7, 1)], fun _ _ => .num 0, 1, false⟩

/-- head[h].h_active (Table 6-1). -/
def headHActive : Obj := ⟨0x2700, 0x03, 32, 1, .u16, 1, 4, .grp, .among [(640, 7680, 2)], fun _ _ => .num 3840, 2, false⟩

/-- head[h].v_active (Table 6-1). -/
def headVActive : Obj := ⟨0x2700, 0x04, 32, 1, .u16, 1, 4, .grp, .among [(480, 4320, 2)], fun _ _ => .num 2160, 2, false⟩

/-- head[h].h_total (Table 6-1). -/
def headHTotal : Obj := ⟨0x2700, 0x05, 32, 1, .u16, 1, 4, .grp, .among [(0, 16383, 1)], fun _ _ => .num 4000, 2, false⟩

/-- head[h].v_total (Table 6-1). -/
def headVTotal : Obj := ⟨0x2700, 0x06, 32, 1, .u16, 1, 4, .grp, .among [(0, 8191, 1)], fun _ _ => .num 2222, 2, false⟩

/-- head[h].h_start (Table 6-1). -/
def headHStart : Obj := ⟨0x2700, 0x07, 32, 1, .u16, 1, 4, .grp, .any, fun _ _ => .num 112, 2, false⟩

/-- head[h].h_sync (Table 6-1). -/
def headHSync : Obj := ⟨0x2700, 0x08, 32, 1, .u16, 1, 4, .grp, .among [(1, 65535, 1)], fun _ _ => .num 32, 2, false⟩

/-- head[h].v_start (Table 6-1). -/
def headVStart : Obj := ⟨0x2700, 0x09, 32, 1, .u16, 1, 4, .grp, .any, fun _ _ => .num 14, 2, false⟩

/-- head[h].v_sync (Table 6-1). -/
def headVSync : Obj := ⟨0x2700, 0x0A, 32, 1, .u16, 1, 4, .grp, .among [(1, 65535, 1)], fun _ _ => .num 8, 2, false⟩

/-- head[h].sync_polarity (Table 6-1). -/
def headSyncPolarity : Obj := ⟨0x2700, 0x0B, 32, 1, .u8, 1, 4, .grp, .among [(0, 3, 1)], fun _ _ => .num 0x01, 1, false⟩

/-- head[h].line_cycles (Table 6-1). -/
def headLineCycles : Obj := ⟨0x2700, 0x0C, 32, 1, .u16, 1, 4, .grp, .any, fun _ _ => .num 9000, 2, false⟩

/-- head[h].encoding (Table 6-1). -/
def headEncoding : Obj := ⟨0x2700, 0x0D, 32, 1, .u8, 1, 4, .grp, .among [(0, 3, 1)], fun _ _ => .num 1, 1, false⟩

/-- head[h].transfer (Table 6-1). -/
def headTransfer : Obj := ⟨0x2700, 0x0E, 32, 1, .u8, 1, 4, .grp, .among [(0, 2, 1)], fun _ _ => .num 0, 1, false⟩

/-- head[h].fallback_divisor (Table 6-1). -/
def headFallbackDivisor : Obj := ⟨0x2700, 0x0F, 32, 1, .u8, 1, 4, .grp, .among [(1, 4, 1)], fun _ _ => .num 2, 1, false⟩

/-- head[h].priority (Table 6-1). -/
def headPriority : Obj := ⟨0x2700, 0x10, 32, 1, .u8, 1, 4, .pit, .among [(0, 7, 1)], fun _ _ => .num 4, 1, false⟩

/-- head[h].writeback (Table 6-1). -/
def headWriteback : Obj := ⟨0x2700, 0x11, 32, 1, .u8, 1, 4, .grp, .among [(0, 2, 1)], fun _ _ => .num 0, 1, false⟩

/-- head[h].wb_buffers (Table 6-1). -/
def headWbBuffers : Obj := ⟨0x2700, 0x12, 32, 1, .u8, 1, 4, .rst, .among [(2, 4, 1)], fun _ _ => .num 3, 1, false⟩

/-- head[h].pipe (Table 6-1). -/
def headPipe : Obj := ⟨0x2700, 0x13, 32, 1, .u8, 1, 0, .imm, .any, fun i _ => .num (i / 2), 1, false⟩

/-- head[h].port (Table 6-1). -/
def headPort : Obj := ⟨0x2700, 0x14, 32, 1, .u8, 1, 0, .imm, .any, fun i _ => .num (i % 2), 1, false⟩

/-- head[h].load (Table 6-1). -/
def headLoad : Obj := ⟨0x2700, 0x15, 32, 1, .u32, 1, 0, .imm, .any, fun _ _ => .num 0, 4, false⟩

/-- head[h].two_pass_tiles (Table 6-1). -/
def headTwoPassTiles : Obj := ⟨0x2700, 0x16, 32, 1, .u16, 1, 0, .imm, .any, fun _ _ => .num 0, 2, false⟩

/-- head[h].max_contributors (Table 6-1). -/
def headMaxContributors : Obj := ⟨0x2700, 0x17, 32, 1, .u8, 1, 0, .imm, .any, fun _ _ => .num 0, 1, false⟩

/-- The objects of this part, in the order of the chapters. -/
def part1 : List Obj :=
  [clockRefSelect, clockRefSpread, clockRefStatus, clockRootLock, cairnWhiteoutGround, cairnWhiteoutStripe, cairnBadgeBack, cairnBadgeGlyph, cairnBoundCeiling, cairnGraphicBound, cairnWritebackBound, cairnLayerStatus, streamAgeBound, streamFreezeMode, streamFreezeWindow, streamProbeRect, streamArrivalUncertainty, streamLossTimeout, streamTiming, streamFreezeState, streamRunStart, streamSignature, headFreezeFrames, headFreezeState, headFreezeCount, headFrozenEvents, headLiveLayers, headWhiteoutLayers, headSealEnable, headSealSdpType, headSealLast, headFrameCrc, headSealsDropped, witnessGatewayAddr, witnessGatewayPort, witnessAckTimeout, witnessResends, witnessKeySlot, witnessPublicKey, witnessIssued] ++
  [witnessRefused, witnessUnacked, summitCapacity, summitLastSeq, summitExportNext, summitExport, summitExportAck, summitUnexported, summitWarnLevel, summitUnrecorded, summitChainHead, summitChainStart, summitCapacityActive, timeNow, timeState, timeGmIdentity, timeOffset, timeIncrement, timeServo, timePtpPort, timePtpPortAlt, timeGmCapable, timePriority1, timePriority2, timeUtcOffset, timeHoldoverLimit, timeHoldoverDrift, timeSlewLimit, timeOneStep, timeErrorBound, timeSteps, timeTriggersLate, gridRateNum, gridRateDen, gridPhase, gridTrimLimit, gridLockedHeads, gridPullingHeads, portMode, portMac] ++
  [portIpv4Addr, portIpv4Prefix, portIpv4Gateway, portIpv6Addr, portIpv6Prefix, portVlan, portTsRxAdjust, portTsTxAdjust, portPtpAsymmetry, portLaunchLateWindow, portLink, portRxDropped, ringSize, ringFrames, ringOverflows, streamSourceMode, streamPort, streamVlan, streamDstAddr, streamDstPort, streamSrcAddr, streamRtcpMux, streamPayloadType, streamCodec, streamRtspUrl, streamRtspUser, streamRtspSecret, streamJitter, streamAuBuffer, streamAuSlots, streamSrTimescale, streamRing, streamSsrc, streamRxPackets, streamAuComplete, streamAuLost, streamPacketsLate, streamRtspState, streamLastSr, decodeCapacity] ++
  [decodeTotalLoad, decodeSlotsUsed, decodeSpareState, decodeShedStreams, engineState, engineLoad, engineContexts, engineBusy, enginePictures, engineTransientFaults, streamMaxWidth, streamMaxHeight, streamFrameRate, streamBitDepth, streamPicSlots, streamPriority, streamEngine, streamStartWait, streamFirInterval, streamRestart, streamDecState, streamEngineNow, streamLoad, streamCodedSize, streamProfile, streamPictures, streamConcealed, streamTainted, streamFirSent, streamErrors, streamOverBudget, streamChecksum, headEnable, headGroup, headHActive, headVActive, headHTotal, headVTotal, headHStart, headHSync] ++
  [headVStart, headVSync, headSyncPolarity, headLineCycles, headEncoding, headTransfer, headFallbackDivisor, headPriority, headWriteback, headWbBuffers, headPipe, headPort, headLoad, headTwoPassTiles, headMaxContributors]

end Sys2Proof.Machine.O
end

