-- ==== Sys2Proof/Machine/Objects2.lean ====
section
/-! DEFINITION. The dictionary objects of chapters 1 to 16, one definition each from the chapters' object maps
(part 2 of 3): index and sub-index, instances and consecutive sub-indices, type, read and write role, commit class,
range, default, largest value in bytes, whether the map notes it adjustable. A default the maps do not give is zero or
empty (DESIGN CHOICE, log 5), but for the values log 6 and 16 name. -/

namespace Sys2Proof.Machine.O

/-- head[h].out_state (Table 6-1). -/
def headOutState : Obj := ⟨0x2700, 0x18, 32, 1, .u8, 1, 0, .imm, .any, fun _ _ => .num 1, 1, false⟩

/-- head[h].wb_skipped (Table 6-1). -/
def headWbSkipped : Obj := ⟨0x2700, 0x19, 32, 1, .u32, 1, 0, .imm, .any, fun _ _ => .num 0, 4, false⟩

/-- head[h].timing_active (Table 6-1). -/
def headTimingActive : Obj := ⟨0x2700, 0x1A, 32, 1, .domain, 1, 0, .imm, .raw 22 22 1, fun _ _ => .raw [], 22, false⟩

/-- composition.layer_shadow (Table 6-10). -/
def compositionLayerShadow : Obj := ⟨0x2800, 0x01, 1, 1, .domain, 1, 3, .grp, .raw 128 8192 128, fun _ _ => .raw [], 65536, true⟩

/-- composition.layer_active (Table 6-10). -/
def compositionLayerActive : Obj := ⟨0x2800, 0x02, 1, 1, .domain, 1, 0, .imm, .raw 0 65536 128, fun _ _ => .raw [], 65536, false⟩

/-- composition.layer_info (Table 6-10). -/
def compositionLayerInfo : Obj := ⟨0x2800, 0x03, 1, 1, .domain, 1, 0, .imm, .raw 0 4096 8, fun _ _ => .raw [], 4096, false⟩

/-- composition.slots (Table 6-10). -/
def compositionSlots : Obj := ⟨0x2800, 0x04, 1, 1, .domain, 1, 4, .rst, .raw 32 8192 32, fun _ _ => .raw [], 8192, false⟩

/-- composition.slot_status (Table 6-10). -/
def compositionSlotStatus : Obj := ⟨0x2800, 0x05, 1, 1, .domain, 1, 0, .imm, .raw 0 4096 16, fun _ _ => .raw [], 4096, false⟩

/-- composition.spare_pipes (Table 6-10). -/
def compositionSparePipes : Obj := ⟨0x2800, 0x06, 1, 1, .u8, 1, 0, .imm, .any, fun _ _ => .num 2, 1, false⟩

/-- group[g].commit (Table 6-11). -/
def groupCommit : Obj := ⟨0x2808, 0x01, 8, 1, .u32, 1, 3, .imm, .among [(0, 4294967039, 1)], fun _ _ => .num 0, 4, true⟩

/-- group[g].commit_state (Table 6-11). -/
def groupCommitState : Obj := ⟨0x2808, 0x02, 8, 1, .u8, 1, 0, .imm, .any, fun _ _ => .num 0, 1, false⟩

/-- group[g].armed_token (Table 6-11). -/
def groupArmedToken : Obj := ⟨0x2808, 0x03, 8, 1, .u32, 1, 0, .imm, .any, fun _ _ => .num 0, 4, false⟩

/-- group[g].applied_token (Table 6-11). -/
def groupAppliedToken : Obj := ⟨0x2808, 0x04, 8, 1, .u32, 1, 0, .imm, .any, fun _ _ => .num 0, 4, false⟩

/-- group[g].applied_at (Table 6-11). -/
def groupAppliedAt : Obj := ⟨0x2808, 0x05, 8, 1, .dtime, 1, 0, .imm, .any, fun _ _ => .num 0, 12, false⟩

/-- group[g].commits (Table 6-11). -/
def groupCommits : Obj := ⟨0x2808, 0x06, 8, 1, .u32, 1, 0, .imm, .any, fun _ _ => .num 0, 4, false⟩

/-- group[g].refusal (Table 6-11). -/
def groupRefusal : Obj := ⟨0x2808, 0x07, 8, 1, .domain, 1, 0, .imm, .raw 16 16 1, fun _ _ => .raw [], 16, false⟩

/-- group[g].deadline_lines (Table 6-11). -/
def groupDeadlineLines : Obj := ⟨0x2808, 0x08, 8, 1, .u16, 1, 4, .grp, .among [(72, 1000, 1)], fun _ _ => .num 96, 2, false⟩

/-- group[g].preset (Table 6-11). -/
def groupPreset : Obj := ⟨0x2808, 0x09, 8, 1, .u8, 1, 2, .imm, .among [(0, 63, 1)], fun _ _ => .num 0xFF, 1, false⟩

/-- group[g].heads (Table 6-11). -/
def groupHeads : Obj := ⟨0x2808, 0x0A, 8, 1, .u32, 1, 0, .imm, .any, fun _ _ => .num 0, 4, false⟩

/-- pipe[k].state (Table 6-12). -/
def pipeState : Obj := ⟨0x2820, 0x01, 18, 1, .u8, 1, 0, .imm, .any, fun i _ => .num (if i < 16 then 0 else 1), 1, false⟩

/-- pipe[k].head0 (Table 6-12). -/
def pipeHead0 : Obj := ⟨0x2820, 0x02, 18, 1, .u8, 1, 0, .imm, .any, fun i _ => .num (if i < 16 then 2 * i else 0xFF), 1, false⟩

/-- pipe[k].head1 (Table 6-12). -/
def pipeHead1 : Obj := ⟨0x2820, 0x03, 18, 1, .u8, 1, 0, .imm, .any, fun i _ => .num (if i < 16 then 2 * i + 1 else 0xFF), 1, false⟩

/-- pipe[k].load (Table 6-12). -/
def pipeLoad : Obj := ⟨0x2820, 0x04, 18, 1, .u32, 1, 0, .imm, .any, fun _ _ => .num 0, 4, false⟩

/-- pipe[k].transient_faults (Table 6-12). -/
def pipeTransientFaults : Obj := ⟨0x2820, 0x05, 18, 1, .u32, 1, 0, .imm, .any, fun _ _ => .num 0, 4, false⟩

/-- pipe[k].writeback_head (Table 6-12). -/
def pipeWritebackHead : Obj := ⟨0x2820, 0x06, 18, 1, .u8, 1, 0, .imm, .any, fun _ _ => .num 0xFF, 1, false⟩

/-- coef[n].data (Table 7-7). -/
def coefData : Obj := ⟨0x2840, 0x01, 16, 1, .domain, 1, 4, .imm, .raw 2576 2576 1, fun _ _ => .raw [], 2576, false⟩

/-- coef[n].loaded (Table 7-7). -/
def coefLoaded : Obj := ⟨0x2840, 0x02, 16, 1, .bool, 1, 0, .imm, .any, fun _ _ => .num 0, 1, false⟩

/-- coef_builtin[c].data (Table 7-7). -/
def coefBuiltinData : Obj := ⟨0x2850, 0x01, 4, 1, .domain, 1, 0, .imm, .raw 2576 2576 1, fun _ _ => .raw [], 2576, false⟩

/-- tone[n].data (Table 7-7). -/
def toneData : Obj := ⟨0x2860, 0x01, 8, 1, .domain, 1, 4, .imm, .raw 41798 41798 1, fun _ _ => .raw [], 41798, false⟩

/-- tone[n].loaded (Table 7-7). -/
def toneLoaded : Obj := ⟨0x2860, 0x02, 8, 1, .bool, 1, 0, .imm, .any, fun _ _ => .num 0, 1, false⟩

/-- tone_builtin[m].data (Table 7-7). -/
def toneBuiltinData : Obj := ⟨0x2868, 0x01, 9, 1, .domain, 1, 0, .imm, .raw 41798 41798 1, fun _ _ => .raw [], 41798, false⟩

/-- head[h].linestore_need (Table 7-8). -/
def headLinestoreNeed : Obj := ⟨0x2700, 0x1B, 32, 1, .u32, 1, 0, .imm, .any, fun _ _ => .num 0, 4, false⟩

/-- pipe[k].linestore_need (Table 7-8). -/
def pipeLinestoreNeed : Obj := ⟨0x2820, 0x07, 18, 1, .u32, 1, 0, .imm, .any, fun _ _ => .num 0, 4, false⟩

/-- pipe[k].linestore_spare (Table 7-8). -/
def pipeLinestoreSpare : Obj := ⟨0x2820, 0x08, 18, 1, .u8, 1, 0, .imm, .any, fun _ _ => .num 1, 1, false⟩

/-- bivouac.enable (Table 7-9). -/
def bivouacEnable : Obj := ⟨0x2880, 0x01, 1, 1, .bool, 1, 4, .rst, .any, fun _ _ => .num 1, 1, false⟩

/-- bivouac.capacity (Table 7-9). -/
def bivouacCapacity : Obj := ⟨0x2880, 0x02, 1, 1, .u32, 1, 0, .imm, .any, fun _ _ => .num 262144, 4, false⟩

/-- bivouac.used (Table 7-9). -/
def bivouacUsed : Obj := ⟨0x2880, 0x03, 1, 1, .u32, 1, 0, .imm, .any, fun _ _ => .num 0, 4, false⟩

/-- bivouac.copies (Table 7-9). -/
def bivouacCopies : Obj := ⟨0x2880, 0x04, 1, 1, .u32, 1, 0, .imm, .any, fun _ _ => .num 0, 4, false⟩

/-- bivouac.deferred (Table 7-9). -/
def bivouacDeferred : Obj := ⟨0x2880, 0x05, 1, 1, .u32, 1, 0, .imm, .any, fun _ _ => .num 0, 4, false⟩

/-- bivouac.builds (Table 7-9). -/
def bivouacBuilds : Obj := ⟨0x2880, 0x06, 1, 1, .u64, 1, 0, .imm, .any, fun _ _ => .num 0, 8, false⟩

/-- bivouac.build_queue (Table 7-9). -/
def bivouacBuildQueue : Obj := ⟨0x2880, 0x07, 1, 1, .u32, 1, 0, .imm, .any, fun _ _ => .num 0, 4, false⟩

/-- bivouac.spare_banks (Table 7-9). -/
def bivouacSpareBanks : Obj := ⟨0x2880, 0x08, 1, 1, .u8, 1, 0, .imm, .any, fun _ _ => .num 4, 1, false⟩

/-- bivouac.evictions (Table 7-9). -/
def bivouacEvictions : Obj := ⟨0x2880, 0x09, 1, 1, .u64, 1, 0, .imm, .any, fun _ _ => .num 0, 8, false⟩

/-- head[h].lane_count (Table 8-11). -/
def headLaneCount : Obj := ⟨0x2720, 0x01, 32, 1, .u8, 1, 4, .rst, .among [(2, 2, 1), (4, 4, 1)], fun _ _ => .num 2, 1, false⟩

/-- head[h].max_rate (Table 8-11). -/
def headMaxRate : Obj := ⟨0x2720, 0x02, 32, 1, .u8, 1, 4, .pit, .among [(0, 6, 1)], fun _ _ => .num 6, 1, false⟩

/-- head[h].link_state (Table 8-11). -/
def headLinkState : Obj := ⟨0x2720, 0x03, 32, 1, .u8, 1, 0, .imm, .any, fun _ _ => .num 0, 1, false⟩

/-- head[h].rate_now (Table 8-11). -/
def headRateNow : Obj := ⟨0x2720, 0x04, 32, 1, .u8, 1, 0, .imm, .any, fun _ _ => .num 0xFF, 1, false⟩

/-- head[h].lanes_now (Table 8-11). -/
def headLanesNow : Obj := ⟨0x2720, 0x05, 32, 1, .u8, 1, 0, .imm, .any, fun _ _ => .num 0, 1, false⟩

/-- head[h].lane_failed (Table 8-11). -/
def headLaneFailed : Obj := ⟨0x2720, 0x06, 32, 1, .u8, 1, 0, .imm, .any, fun _ _ => .num 0, 1, false⟩

/-- head[h].degraded (Table 8-11). -/
def headDegraded : Obj := ⟨0x2720, 0x07, 32, 1, .u8, 1, 0, .imm, .any, fun _ _ => .num 0, 1, false⟩

/-- head[h].retrain (Table 8-11). -/
def headRetrain : Obj := ⟨0x2720, 0x08, 32, 1, .u8, 1, 3, .imm, .among [(1, 2, 1)], fun _ _ => .num 0, 1, false⟩

/-- head[h].restore_interval (Table 8-11). -/
def headRestoreInterval : Obj := ⟨0x2720, 0x09, 32, 1, .u16, 1, 4, .pit, .among [(0, 0, 1), (10, 3600, 1)], fun _ _ => .num 0, 2, false⟩

/-- head[h].retry_in (Table 8-11). -/
def headRetryIn : Obj := ⟨0x2720, 0x0A, 32, 1, .u32, 1, 0, .imm, .any, fun _ _ => .num 0, 4, false⟩

/-- head[h].hpd (Table 8-11). -/
def headHpd : Obj := ⟨0x2720, 0x0B, 32, 1, .u8, 1, 0, .imm, .any, fun _ _ => .num 0, 1, false⟩

/-- head[h].sink_caps (Table 8-11). -/
def headSinkCaps : Obj := ⟨0x2720, 0x0C, 32, 1, .domain, 1, 0, .imm, .raw 0 257 1, fun _ _ => .raw [], 257, false⟩

/-- head[h].edid (Table 8-11). -/
def headEdid : Obj := ⟨0x2720, 0x0D, 32, 1, .domain, 1, 0, .imm, .raw 0 1024 1, fun _ _ => .raw [], 1024, false⟩

/-- head[h].drive (Table 8-11). -/
def headDrive : Obj := ⟨0x2720, 0x0E, 32, 1, .u32, 1, 0, .imm, .any, fun _ _ => .num 0, 4, false⟩

/-- head[h].symbol_errors (Table 8-11). -/
def headSymbolErrors : Obj := ⟨0x2720, 0x0F, 32, 1, .u32, 1, 0, .imm, .any, fun _ _ => .num 0, 4, false⟩

/-- head[h].trainings (Table 8-11). -/
def headTrainings : Obj := ⟨0x2720, 0x10, 32, 1, .u32, 1, 0, .imm, .any, fun _ _ => .num 0, 4, false⟩

/-- lanes.cal_interval (Table 8-12). -/
def lanesCalInterval : Obj := ⟨0x2F3F, 0x01, 1, 1, .u16, 1, 4, .pit, .among [(100, 60000, 1)], fun _ _ => .num 1000, 2, false⟩

/-- lane[n].use (Table 8-12). -/
def laneUse : Obj := ⟨0x2F40, 0x01, 72, 1, .u8, 1, 0, .imm, .any, fun i _ => .num (if i < 64 then 0 else if i < 68 then 1 else 2), 1, false⟩

/-- lane[n].state (Table 8-12). -/
def laneState : Obj := ⟨0x2F40, 0x02, 72, 1, .u8, 1, 0, .imm, .any, fun _ _ => .num 0, 1, false⟩

/-- lane[n].rate (Table 8-12). -/
def laneRate : Obj := ⟨0x2F40, 0x03, 72, 1, .u32, 1, 0, .imm, .any, fun _ _ => .num 0, 4, false⟩

/-- lane[n].fom (Table 8-12). -/
def laneFom : Obj := ⟨0x2F40, 0x04, 72, 1, .u8, 1, 0, .imm, .any, fun _ _ => .num 0, 1, false⟩

/-- lane[n].eye_width (Table 8-12). -/
def laneEyeWidth : Obj := ⟨0x2F40, 0x05, 72, 1, .u8, 1, 0, .imm, .any, fun _ _ => .num 0, 1, false⟩

/-- lane[n].cal_accepted (Table 8-12). -/
def laneCalAccepted : Obj := ⟨0x2F40, 0x06, 72, 1, .u32, 1, 0, .imm, .any, fun _ _ => .num 0, 4, false⟩

/-- lane[n].cal_rejected (Table 8-12). -/
def laneCalRejected : Obj := ⟨0x2F40, 0x07, 72, 1, .u32, 1, 0, .imm, .any, fun _ _ => .num 0, 4, false⟩

/-- rope.enable (Table 8-13). -/
def ropeEnable : Obj := ⟨0x2D40, 0x01, 1, 1, .bool, 1, 4, .rst, .any, fun _ _ => .num 0, 1, false⟩

/-- rope.max_speed (Table 8-13). -/
def ropeMaxSpeed : Obj := ⟨0x2D40, 0x02, 1, 1, .u8, 1, 4, .rst, .among [(0, 4, 1)], fun _ _ => .num 4, 1, false⟩

/-- rope.fom_floor (Table 8-13). -/
def ropeFomFloor : Obj := ⟨0x2D40, 0x03, 1, 1, .u8, 1, 4, .pit, .among [(16, 200, 1)], fun _ _ => .num 64, 1, false⟩

/-- rope.idle_delay (Table 8-13). -/
def ropeIdleDelay : Obj := ⟨0x2D40, 0x04, 1, 1, .u16, 1, 4, .pit, .among [(0, 0, 1), (1, 1000, 1)], fun _ _ => .num 2, 2, false⟩

/-- rope.state (Table 8-13). -/
def ropeState : Obj := ⟨0x2D40, 0x05, 1, 1, .u8, 1, 0, .imm, .any, fun _ _ => .num 0, 1, false⟩

/-- rope.speed (Table 8-13). -/
def ropeSpeed : Obj := ⟨0x2D40, 0x06, 1, 1, .u8, 1, 0, .imm, .any, fun _ _ => .num 0, 1, false⟩

/-- rope.tx_lanes (Table 8-13). -/
def ropeTxLanes : Obj := ⟨0x2D40, 0x07, 1, 1, .u8, 1, 0, .imm, .any, fun _ _ => .num 0, 1, false⟩

/-- rope.rx_lanes (Table 8-13). -/
def ropeRxLanes : Obj := ⟨0x2D40, 0x08, 1, 1, .u8, 1, 0, .imm, .any, fun _ _ => .num 0, 1, false⟩

/-- rope.replays (Table 8-13). -/
def ropeReplays : Obj := ⟨0x2D40, 0x09, 1, 1, .u32, 1, 0, .imm, .any, fun _ _ => .num 0, 4, false⟩

/-- rope.crc_errors (Table 8-13). -/
def ropeCrcErrors : Obj := ⟨0x2D40, 0x0A, 1, 1, .u32, 1, 0, .imm, .any, fun _ _ => .num 0, 4, false⟩

/-- rope.retrain (Table 8-13). -/
def ropeRetrain : Obj := ⟨0x2D40, 0x0B, 1, 1, .bool, 1, 3, .imm, .any, fun _ _ => .num 0, 1, false⟩

/-- encode.capacity (Table 9-4). -/
def encodeCapacity : Obj := ⟨0x2600, 0x01, 1, 1, .u32, 1, 0, .imm, .any, fun _ _ => .num 2000000, 4, false⟩

/-- encode.total_load (Table 9-4). -/
def encodeTotalLoad : Obj := ⟨0x2600, 0x02, 1, 1, .u32, 1, 0, .imm, .any, fun _ _ => .num 0, 4, false⟩

/-- encode.spare_state (Table 9-4). -/
def encodeSpareState : Obj := ⟨0x2600, 0x03, 1, 1, .u8, 1, 0, .imm, .any, fun _ _ => .num 1, 1, false⟩

/-- enc_engine[e].state (Table 9-4). -/
def encEngineState : Obj := ⟨0x2608, 0x01, 5, 1, .u8, 1, 0, .imm, .any, fun i _ => .num (if i = 4 then 1 else 0), 1, false⟩

/-- enc_engine[e].load (Table 9-4). -/
def encEngineLoad : Obj := ⟨0x2608, 0x02, 5, 1, .u32, 1, 0, .imm, .any, fun _ _ => .num 0, 4, false⟩

/-- enc_engine[e].busy (Table 9-4). -/
def encEngineBusy : Obj := ⟨0x2608, 0x03, 5, 1, .u8, 1, 0, .imm, .any, fun _ _ => .num 0, 1, false⟩

/-- enc_engine[e].transient_faults (Table 9-4). -/
def encEngineTransientFaults : Obj := ⟨0x2608, 0x04, 5, 1, .u32, 1, 0, .imm, .any, fun _ _ => .num 0, 4, false⟩

/-- encode[c].source_mode (Table 9-5). -/
def encodeSourceMode : Obj := ⟨0x2620, 0x01, 32, 1, .u8, 1, 4, .pit, .among [(0, 2, 1)], fun _ _ => .num 0, 1, false⟩

/-- encode[c].source (Table 9-5). -/
def encodeSource : Obj := ⟨0x2620, 0x02, 32, 1, .u8, 1, 4, .pit, .among [(0, 127, 1)], fun _ _ => .num 0, 1, false⟩

/-- encode[c].crop (Table 9-5). -/
def encodeCrop : Obj := ⟨0x2620, 0x03, 32, 1, .u64, 1, 4, .pit, .any, fun _ _ => .num 0, 8, false⟩

/-- encode[c].out_width (Table 9-5). -/
def encodeOutWidth : Obj := ⟨0x2620, 0x04, 32, 1, .u16, 1, 4, .pit, .any, fun _ _ => .num 1920, 2, false⟩

/-- encode[c].out_height (Table 9-5). -/
def encodeOutHeight : Obj := ⟨0x2620, 0x05, 32, 1, .u16, 1, 4, .pit, .any, fun _ _ => .num 1080, 2, false⟩

/-- encode[c].orient (Table 9-5). -/
def encodeOrient : Obj := ⟨0x2620, 0x06, 32, 1, .u8, 1, 4, .pit, .among [(0, 15, 1)], fun _ _ => .num 0, 1, false⟩

/-- encode[c].group (Table 9-5). -/
def encodeGroup : Obj := ⟨0x2620, 0x07, 32, 1, .u8, 1, 4, .pit, .among [(0, 7, 1)], fun _ _ => .num 0, 1, false⟩

/-- encode[c].divisor (Table 9-5). -/
def encodeDivisor : Obj := ⟨0x2620, 0x08, 32, 1, .u8, 1, 4, .pit, .among [(1, 8, 1)], fun _ _ => .num 2, 1, false⟩

/-- encode[c].codec (Table 9-5). -/
def encodeCodec : Obj := ⟨0x2620, 0x09, 32, 1, .u8, 1, 4, .pit, .among [(0, 2, 1)], fun _ _ => .num 1, 1, false⟩

/-- encode[c].rc_mode (Table 9-5). -/
def encodeRcMode : Obj := ⟨0x2620, 0x0A, 32, 1, .u8, 1, 3, .pit, .among [(0, 1, 1)], fun _ _ => .num 0, 1, false⟩

/-- encode[c].bitrate (Table 9-5). -/
def encodeBitrate : Obj := ⟨0x2620, 0x0B, 32, 1, .u32, 1, 3, .pit, .among [(100, 100000, 1)], fun _ _ => .num 4000, 4, false⟩

/-- encode[c].frame_cap (Table 9-5). -/
def encodeFrameCap : Obj := ⟨0x2620, 0x0C, 32, 1, .u32, 1, 3, .pit, .among [(0, 4194304, 1)], fun _ _ => .num 0, 4, false⟩

/-- encode[c].buffer_ms (Table 9-5). -/
def encodeBufferMs : Obj := ⟨0x2620, 0x0D, 32, 1, .u16, 1, 3, .pit, .among [(100, 2000, 1)], fun _ _ => .num 500, 2, false⟩

/-- encode[c].qp_quality (Table 9-5). -/
def encodeQpQuality : Obj := ⟨0x2620, 0x0E, 32, 1, .u8, 1, 3, .pit, .among [(10, 51, 1)], fun _ _ => .num 28, 1, false⟩

/-- encode[c].qp_min (Table 9-5). -/
def encodeQpMin : Obj := ⟨0x2620, 0x0F, 32, 1, .u8, 1, 3, .pit, .among [(0, 51, 1)], fun _ _ => .num 10, 1, false⟩

/-- encode[c].qp_max (Table 9-5). -/
def encodeQpMax : Obj := ⟨0x2620, 0x10, 32, 1, .u8, 1, 3, .pit, .among [(0, 51, 1)], fun _ _ => .num 51, 1, false⟩

/-- encode[c].refresh_mode (Table 9-5). -/
def encodeRefreshMode : Obj := ⟨0x2620, 0x11, 32, 1, .u8, 1, 3, .pit, .among [(0, 1, 1)], fun _ _ => .num 1, 1, false⟩

/-- encode[c].refresh_interval (Table 9-5). -/
def encodeRefreshInterval : Obj := ⟨0x2620, 0x12, 32, 1, .u16, 1, 3, .pit, .among [(0, 0, 1), (1000, 60000, 1)], fun _ _ => .num 5000, 2, false⟩

/-- encode[c].gdr_frames (Table 9-5). -/
def encodeGdrFrames : Obj := ⟨0x2620, 0x13, 32, 1, .u8, 1, 3, .pit, .among [(2, 60, 1)], fun _ _ => .num 15, 1, false⟩

/-- encode[c].ltr_enable (Table 9-5). -/
def encodeLtrEnable : Obj := ⟨0x2620, 0x14, 32, 1, .bool, 1, 3, .pit, .any, fun _ _ => .num 1, 1, false⟩

/-- encode[c].priority (Table 9-5). -/
def encodePriority : Obj := ⟨0x2620, 0x15, 32, 1, .u8, 1, 3, .pit, .among [(0, 7, 1)], fun _ _ => .num 4, 1, false⟩

/-- encode[c].engine (Table 9-5). -/
def encodeEngine : Obj := ⟨0x2620, 0x16, 32, 1, .u8, 1, 4, .pit, .among [(0, 4, 1), (255, 255, 1)], fun _ _ => .num 0xFF, 1, false⟩

/-- encode[c].port (Table 9-5). -/
def encodePort : Obj := ⟨0x2620, 0x17, 32, 1, .u8, 1, 4, .pit, .among [(0, 3, 1)], fun _ _ => .num 0, 1, false⟩

/-- encode[c].dst_addr (Table 9-5). -/
def encodeDstAddr : Obj := ⟨0x2620, 0x18, 32, 1, .string, 1, 4, .pit, .raw 0 255 1, fun _ _ => .raw [], 255, false⟩

/-- encode[c].dst_port (Table 9-5). -/
def encodeDstPort : Obj := ⟨0x2620, 0x19, 32, 1, .u16, 1, 4, .pit, .among [(0, 0, 1), (1024, 65534, 2)], fun _ _ => .num 0, 2, false⟩

/-- encode[c].ttl (Table 9-5). -/
def encodeTtl : Obj := ⟨0x2620, 0x1A, 32, 1, .u8, 1, 4, .pit, .among [(1, 255, 1)], fun _ _ => .num 16, 1, false⟩

/-- encode[c].payload_type (Table 9-5). -/
def encodePayloadType : Obj := ⟨0x2620, 0x1B, 32, 1, .u8, 1, 4, .pit, .among [(96, 127, 1)], fun _ _ => .num 96, 1, false⟩

/-- encode[c].mtu (Table 9-5). -/
def encodeMtu : Obj := ⟨0x2620, 0x1C, 32, 1, .u16, 1, 4, .pit, .among [(576, 8972, 1)], fun _ _ => .num 1400, 2, false⟩

/-- encode[c].pace (Table 9-5). -/
def encodePace : Obj := ⟨0x2620, 0x1D, 32, 1, .u8, 1, 4, .pit, .among [(10, 100, 1)], fun _ _ => .num 50, 1, false⟩

/-- encode[c].sr_timescale (Table 9-5). -/
def encodeSrTimescale : Obj := ⟨0x2620, 0x1E, 32, 1, .u8, 1, 4, .pit, .among [(0, 1, 1)], fun _ _ => .num 1, 1, false⟩

/-- encode[c].state (Table 9-5). -/
def encodeState : Obj := ⟨0x2620, 0x20, 32, 1, .u8, 1, 0, .imm, .any, fun _ _ => .num 0, 1, false⟩

/-- encode[c].engine_now (Table 9-5). -/
def encodeEngineNow : Obj := ⟨0x2620, 0x21, 32, 1, .u8, 1, 0, .imm, .any, fun _ _ => .num 0xFF, 1, false⟩

/-- encode[c].load (Table 9-5). -/
def encodeLoad : Obj := ⟨0x2620, 0x22, 32, 1, .u32, 1, 0, .imm, .any, fun _ _ => .num 0, 4, false⟩

/-- encode[c].ssrc (Table 9-5). -/
def encodeSsrc : Obj := ⟨0x2620, 0x23, 32, 1, .u32, 1, 0, .imm, .any, fun _ _ => .num 0, 4, false⟩

/-- encode[c].frames (Table 9-5). -/
def encodeFrames : Obj := ⟨0x2620, 0x24, 32, 1, .u64, 1, 0, .imm, .any, fun _ _ => .num 0, 8, false⟩

/-- encode[c].held_rows (Table 9-5). -/
def encodeHeldRows : Obj := ⟨0x2620, 0x25, 32, 1, .u64, 1, 0, .imm, .any, fun _ _ => .num 0, 8, false⟩

/-- encode[c].inputs_skipped (Table 9-5). -/
def encodeInputsSkipped : Obj := ⟨0x2620, 0x26, 32, 1, .u32, 1, 0, .imm, .any, fun _ _ => .num 0, 4, false⟩

/-- encode[c].bytes_last (Table 9-5). -/
def encodeBytesLast : Obj := ⟨0x2620, 0x27, 32, 1, .u32, 1, 0, .imm, .any, fun _ _ => .num 0, 4, false⟩

/-- encode[c].buffer_level (Table 9-5). -/
def encodeBufferLevel : Obj := ⟨0x2620, 0x28, 32, 1, .u32, 1, 0, .imm, .any, fun _ _ => .num 0, 4, false⟩

/-- encode[c].refreshes (Table 9-5). -/
def encodeRefreshes : Obj := ⟨0x2620, 0x29, 32, 1, .u32, 1, 0, .imm, .any, fun _ _ => .num 0, 4, false⟩

/-- touch.pin_map (Table 10-7). -/
def touchPinMap : Obj := ⟨0x2A00, 0x01, 1, 1, .domain, 1, 4, .rst, .raw 512 512 1, fun _ _ => .raw (zeros 512), 512, false⟩

/-- touch.actions (Table 10-7). -/
def touchActions : Obj := ⟨0x2A00, 0x02, 1, 1, .domain, 1, 4, .grp, .raw 32 8192 32, fun _ _ => .raw [], 8192, false⟩

/-- touch.action_counts (Table 10-7). -/
def touchActionCounts : Obj := ⟨0x2A00, 0x03, 1, 1, .domain, 1, 0, .imm, .raw 3072 3072 1, fun _ _ => .raw [], 3072, false⟩

/-- touch.events (Table 10-7). -/
def touchEvents : Obj := ⟨0x2A00, 0x04, 1, 1, .domain, 1, 0, .imm, .raw 0 2048 32, fun _ _ => .raw [], 2048, false⟩

/-- touch.events_next (Table 10-7). -/
def touchEventsNext : Obj := ⟨0x2A00, 0x05, 1, 1, .u32, 1, 2, .imm, .any, fun _ _ => .num 0, 4, false⟩

/-- touch.events_lost (Table 10-7). -/
def touchEventsLost : Obj := ⟨0x2A00, 0x06, 1, 1, .u32, 1, 0, .imm, .any, fun _ _ => .num 0, 4, false⟩

/-- panel[n].enable (Table 10-8). -/
def panelEnable : Obj := ⟨0x2A10, 0x01, 4, 1, .bool, 1, 4, .rst, .any, fun _ _ => .num 0, 1, false⟩

/-- panel[n].head (Table 10-8). -/
def panelHead : Obj := ⟨0x2A10, 0x02, 4, 1, .u8, 1, 4, .rst, .among [(0, 31, 1), (255, 255, 1)], fun _ _ => .num 0xFF, 1, false⟩

/-- panel[n].quiet_mode (Table 10-8). -/
def panelQuietMode : Obj := ⟨0x2A10, 0x03, 4, 1, .u8, 1, 4, .pit, .among [(0, 1, 1)], fun _ _ => .num 1, 1, false⟩

/-- panel[n].h_scan_line (Table 10-8). -/
def panelHScanLine : Obj := ⟨0x2A10, 0x04, 4, 1, .u16, 1, 4, .pit, .among [(64, 4319, 1)], fun _ _ => .num 1080, 2, false⟩

/-- panel[n].freq0 (Table 10-8). -/
def panelFreq0 : Obj := ⟨0x2A10, 0x05, 4, 1, .u16, 1, 4, .pit, .among [(100, 500, 1)], fun _ _ => .num 250, 2, false⟩

/-- panel[n].freq1 (Table 10-8). -/
def panelFreq1 : Obj := ⟨0x2A10, 0x06, 4, 1, .u16, 1, 4, .pit, .among [(100, 500, 1)], fun _ _ => .num 200, 2, false⟩

/-- panel[n].freq2 (Table 10-8). -/
def panelFreq2 : Obj := ⟨0x2A10, 0x07, 4, 1, .u16, 1, 4, .pit, .among [(100, 500, 1)], fun _ _ => .num 320, 2, false⟩

/-- panel[n].freq3 (Table 10-8). -/
def panelFreq3 : Obj := ⟨0x2A10, 0x08, 4, 1, .u16, 1, 4, .pit, .among [(100, 500, 1)], fun _ _ => .num 400, 2, false⟩

/-- panel[n].drive_mv (Table 10-8). -/
def panelDriveMv : Obj := ⟨0x2A10, 0x09, 4, 1, .u16, 1, 4, .pit, .among [(3000, 10000, 500)], fun _ _ => .num 6000, 2, false⟩

/-- panel[n].threshold (Table 10-8). -/
def panelThreshold : Obj := ⟨0x2A10, 0x0A, 4, 1, .u16, 1, 3, .pit, .among [(30, 2000, 1)], fun _ _ => .num 120, 2, false⟩

/-- panel[n].expiry (Table 10-8). -/
def panelExpiry : Obj := ⟨0x2A10, 0x0B, 4, 1, .u16, 1, 3, .pit, .among [(5, 600, 1)], fun _ _ => .num 30, 2, false⟩

/-- panel[n].hold (Table 10-8). -/
def panelHold : Obj := ⟨0x2A10, 0x0C, 4, 1, .u16, 1, 3, .pit, .among [(500, 4000, 1)], fun _ _ => .num 2000, 2, false⟩

/-- panel[n].palm_area (Table 10-8). -/
def panelPalmArea : Obj := ⟨0x2A10, 0x0D, 4, 1, .u16, 1, 3, .pit, .among [(100, 5000, 1)], fun _ _ => .num 600, 2, false⟩

/-- panel[n].palm_aspect (Table 10-8). -/
def panelPalmAspect : Obj := ⟨0x2A10, 0x0E, 4, 1, .u8, 1, 3, .pit, .among [(15, 100, 1)], fun _ _ => .num 30, 1, false⟩

/-- panel[n].pitch_drive (Table 10-8). -/
def panelPitchDrive : Obj := ⟨0x2A10, 0x0F, 4, 1, .u16, 1, 4, .rst, .among [(1000, 20000, 1)], fun _ _ => .num 5000, 2, false⟩

/-- panel[n].pitch_sense (Table 10-8). -/
def panelPitchSense : Obj := ⟨0x2A10, 0x10, 4, 1, .u16, 1, 4, .rst, .among [(1000, 20000, 1)], fun _ _ => .num 5000, 2, false⟩

/-- panel[n].cal_matrix (Table 10-8). -/
def panelCalMatrix : Obj := ⟨0x2A10, 0x11, 4, 1, .domain, 1, 3, .pit, .raw 24 24 1, fun _ _ => .raw [], 24, true⟩

/-- panel[n].test (Table 10-8). -/
def panelTest : Obj := ⟨0x2A10, 0x12, 4, 1, .bool, 1, 3, .imm, .any, fun _ _ => .num 0, 1, false⟩

/-- panel[n].state (Table 10-8). -/
def panelState : Obj := ⟨0x2A10, 0x13, 4, 1, .u8, 1, 0, .imm, .any, fun _ _ => .num 0, 1, false⟩

/-- panel[n].freq_now (Table 10-8). -/
def panelFreqNow : Obj := ⟨0x2A10, 0x14, 4, 1, .u8, 1, 0, .imm, .any, fun _ _ => .num 0, 1, false⟩

/-- panel[n].noise (Table 10-8). -/
def panelNoise : Obj := ⟨0x2A10, 0x15, 4, 1, .domain, 1, 0, .imm, .raw 8 8 1, fun _ _ => .raw [], 8, false⟩

/-- panel[n].residual (Table 10-8). -/
def panelResidual : Obj := ⟨0x2A10, 0x16, 4, 1, .u16, 1, 0, .imm, .any, fun _ _ => .num 0, 2, false⟩

/-- panel[n].quality (Table 10-8). -/
def panelQuality : Obj := ⟨0x2A10, 0x17, 4, 1, .u8, 1, 0, .imm, .any, fun _ _ => .num 0, 1, false⟩

/-- panel[n].contacts (Table 10-8). -/
def panelContacts : Obj := ⟨0x2A10, 0x18, 4, 1, .domain, 1, 0, .imm, .raw 320 320 1, fun _ _ => .raw [], 320, false⟩

/-- panel[n].open_mask (Table 10-8). -/
def panelOpenMask : Obj := ⟨0x2A10, 0x19, 4, 1, .domain, 1, 0, .imm, .raw 16 16 1, fun _ _ => .raw [], 16, false⟩

/-- panel[n].scans (Table 10-8). -/
def panelScans : Obj := ⟨0x2A10, 0x1A, 4, 1, .u64, 1, 0, .imm, .any, fun _ _ => .num 0, 8, false⟩

/-- panel[n].hops (Table 10-8). -/
def panelHops : Obj := ⟨0x2A10, 0x1B, 4, 1, .u32, 1, 0, .imm, .any, fun _ _ => .num 0, 4, false⟩

/-- panel[n].rebaselines (Table 10-8). -/
def panelRebaselines : Obj := ⟨0x2A10, 0x1C, 4, 1, .u32, 1, 0, .imm, .any, fun _ _ => .num 0, 4, false⟩

/-- memory.presented (Table 11-10). -/
def memoryPresented : Obj := ⟨0x2B00, 0x01, 1, 1, .u64, 1, 0, .imm, .any, fun _ _ => .num 0, 8, false⟩

/-- memory.density (Table 11-10). -/
def memoryDensity : Obj := ⟨0x2B00, 0x02, 1, 1, .u8, 1, 0, .imm, .any, fun _ _ => .num 16, 1, false⟩

/-- memory.ranks (Table 11-10). -/
def memoryRanks : Obj := ⟨0x2B00, 0x03, 1, 1, .u8, 1, 0, .imm, .any, fun _ _ => .num 2, 1, false⟩

/-- memory.data_rate_max (Table 11-10). -/
def memoryDataRateMax : Obj := ⟨0x2B00, 0x04, 1, 1, .u16, 1, 4, .rst, .among [(4800, 4800, 1), (6400, 6400, 1), (9600, 9600, 1)], fun _ _ => .num 9600, 2, false⟩

/-- memory.data_rate (Table 11-10). -/
def memoryDataRate : Obj := ⟨0x2B00, 0x05, 1, 1, .u16, 1, 0, .imm, .any, fun _ _ => .num 9600, 2, false⟩

/-- memory.hash_profile (Table 11-10). -/
def memoryHashProfile : Obj := ⟨0x2B00, 0x06, 1, 1, .u8, 1, 4, .rst, .among [(0, 4, 1)], fun _ _ => .num 1, 1, false⟩

/-- memory.hash_active (Table 11-10). -/
def memoryHashActive : Obj := ⟨0x2B00, 0x07, 1, 1, .domain, 1, 0, .imm, .raw 64 64 1, fun _ _ => .raw [], 64, false⟩

/-- memory.rh_threshold (Table 11-10). -/
def memoryRhThreshold : Obj := ⟨0x2B00, 0x08, 1, 1, .u16, 1, 4, .pit, .among [(512, 8192, 1)], fun _ _ => .num 2048, 2, false⟩

/-- memory.refresh_postpone (Table 11-10). -/
def memoryRefreshPostpone : Obj := ⟨0x2B00, 0x09, 1, 1, .u8, 1, 4, .rst, .among [(0, 8, 1)], fun _ _ => .num 8, 1, false⟩

/-- memory.imbalance_warn (Table 11-10). -/
def memoryImbalanceWarn : Obj := ⟨0x2B00, 0x0A, 1, 1, .u16, 1, 4, .pit, .among [(150, 1600, 1)], fun _ _ => .num 400, 2, false⟩

/-- memory.frame_ecc (Table 11-10). -/
def memoryFrameEcc : Obj := ⟨0x2B00, 0x0B, 1, 1, .bool, 1, 4, .rst, .any, fun _ _ => .num 0, 1, false⟩

/-- memory.scrub_period (Table 11-10). -/
def memoryScrubPeriod : Obj := ⟨0x2B00, 0x0C, 1, 1, .u16, 1, 4, .pit, .among [(1, 168, 1)], fun _ _ => .num 12, 2, false⟩

/-- memory.regions (Table 11-10). -/
def memoryRegions : Obj := ⟨0x2B00, 0x0D, 1, 1, .domain, 1, 0, .imm, .raw 64 64 1, fun _ _ => .raw [], 64, false⟩

/-- memory.ecc_corrected (Table 11-10). -/
def memoryEccCorrected : Obj := ⟨0x2B00, 0x0E, 1, 1, .u64, 1, 0, .imm, .any, fun _ _ => .num 0, 8, false⟩

/-- memory.read_lasting (Table 11-10). -/
def memoryReadLasting : Obj := ⟨0x2B00, 0x0F, 1, 1, .u32, 1, 0, .imm, .any, fun _ _ => .num 0, 4, false⟩

/-- memory.spare_rows_free (Table 11-10). -/
def memorySpareRowsFree : Obj := ⟨0x2B00, 0x10, 1, 1, .u32, 1, 0, .imm, .any, fun _ _ => .num 0, 4, false⟩

/-- The objects of this part, in the order of the chapters. -/
def part2 : List Obj :=
  [headOutState, headWbSkipped, headTimingActive, compositionLayerShadow, compositionLayerActive, compositionLayerInfo, compositionSlots, compositionSlotStatus, compositionSparePipes, groupCommit, groupCommitState, groupArmedToken, groupAppliedToken, groupAppliedAt, groupCommits, groupRefusal, groupDeadlineLines, groupPreset, groupHeads, pipeState, pipeHead0, pipeHead1, pipeLoad, pipeTransientFaults, pipeWritebackHead, coefData, coefLoaded, coefBuiltinData, toneData, toneLoaded, toneBuiltinData, headLinestoreNeed, pipeLinestoreNeed, pipeLinestoreSpare, bivouacEnable, bivouacCapacity, bivouacUsed, bivouacCopies, bivouacDeferred, bivouacBuilds] ++
  [bivouacBuildQueue, bivouacSpareBanks, bivouacEvictions, headLaneCount, headMaxRate, headLinkState, headRateNow, headLanesNow, headLaneFailed, headDegraded, headRetrain, headRestoreInterval, headRetryIn, headHpd, headSinkCaps, headEdid, headDrive, headSymbolErrors, headTrainings, lanesCalInterval, laneUse, laneState, laneRate, laneFom, laneEyeWidth, laneCalAccepted, laneCalRejected, ropeEnable, ropeMaxSpeed, ropeFomFloor, ropeIdleDelay, ropeState, ropeSpeed, ropeTxLanes, ropeRxLanes, ropeReplays, ropeCrcErrors, ropeRetrain, encodeCapacity, encodeTotalLoad] ++
  [encodeSpareState, encEngineState, encEngineLoad, encEngineBusy, encEngineTransientFaults, encodeSourceMode, encodeSource, encodeCrop, encodeOutWidth, encodeOutHeight, encodeOrient, encodeGroup, encodeDivisor, encodeCodec, encodeRcMode, encodeBitrate, encodeFrameCap, encodeBufferMs, encodeQpQuality, encodeQpMin, encodeQpMax, encodeRefreshMode, encodeRefreshInterval, encodeGdrFrames, encodeLtrEnable, encodePriority, encodeEngine, encodePort, encodeDstAddr, encodeDstPort, encodeTtl, encodePayloadType, encodeMtu, encodePace, encodeSrTimescale, encodeState, encodeEngineNow, encodeLoad, encodeSsrc, encodeFrames] ++
  [encodeHeldRows, encodeInputsSkipped, encodeBytesLast, encodeBufferLevel, encodeRefreshes, touchPinMap, touchActions, touchActionCounts, touchEvents, touchEventsNext, touchEventsLost, panelEnable, panelHead, panelQuietMode, panelHScanLine, panelFreq0, panelFreq1, panelFreq2, panelFreq3, panelDriveMv, panelThreshold, panelExpiry, panelHold, panelPalmArea, panelPalmAspect, panelPitchDrive, panelPitchSense, panelCalMatrix, panelTest, panelState, panelFreqNow, panelNoise, panelResidual, panelQuality, panelContacts, panelOpenMask, panelScans, panelHops, panelRebaselines, memoryPresented] ++
  [memoryDensity, memoryRanks, memoryDataRateMax, memoryDataRate, memoryHashProfile, memoryHashActive, memoryRhThreshold, memoryRefreshPostpone, memoryImbalanceWarn, memoryFrameEcc, memoryScrubPeriod, memoryRegions, memoryEccCorrected, memoryReadLasting, memorySpareRowsFree]

end Sys2Proof.Machine.O
end

