-- ==== Sys2Proof/Machine/Objects3.lean ====
section
/-! DEFINITION. The dictionary objects of chapters 1 to 16, one definition each from the chapters' object maps
(part 3 of 3): index and sub-index, instances and consecutive sub-indices, type, read and write role, commit class,
range, default, largest value in bytes, whether the map notes it adjustable. A default the maps do not give is zero or
empty (DESIGN CHOICE, log 5), but for the values log 6 and 16 name. -/

namespace Sys2Proof.Machine.O

/-- memory.ppr_candidates (Table 11-10). -/
def memoryPprCandidates : Obj := ⟨0x2B00, 0x11, 1, 1, .domain, 1, 0, .imm, .raw 0 2048 8, fun _ _ => .raw [], 2048, false⟩

/-- memory.ppr_run (Table 11-10). -/
def memoryPprRun : Obj := ⟨0x2B00, 0x12, 1, 1, .u8, 1, 4, .svc, .among [(1, 1, 1)], fun _ _ => .num 0, 1, false⟩

/-- memory.ppr_results (Table 11-10). -/
def memoryPprResults : Obj := ⟨0x2B00, 0x13, 1, 1, .domain, 1, 0, .imm, .raw 0 2048 8, fun _ _ => .raw [], 2048, false⟩

/-- memory.class_bytes (Table 11-10). -/
def memoryClassBytes : Obj := ⟨0x2B00, 0x14, 1, 1, .domain, 1, 0, .imm, .raw 48 48 1, fun _ _ => .raw [], 48, false⟩

/-- memory.hash_mask[0] to [7] (Table 11-10). -/
def memoryHashMask : Obj := ⟨0x2B08, 0x01, 1, 8, .u64, 1, 4, .rst, .any, fun _ j => .num (profileMask 1 j), 8, false⟩

/-- chan[ch].state (Table 11-11). -/
def chanState : Obj := ⟨0x2B10, 0x01, 16, 1, .u8, 1, 0, .imm, .any, fun _ _ => .num 0, 1, false⟩

/-- chan[ch].refresh_mult (Table 11-11). -/
def chanRefreshMult : Obj := ⟨0x2B10, 0x02, 16, 1, .u8, 1, 0, .imm, .any, fun _ _ => .num 1, 1, false⟩

/-- chan[ch].refresh_owed (Table 11-11). -/
def chanRefreshOwed : Obj := ⟨0x2B10, 0x03, 16, 1, .u8, 1, 0, .imm, .any, fun _ _ => .num 0, 1, false⟩

/-- chan[ch].rfm_issued (Table 11-11). -/
def chanRfmIssued : Obj := ⟨0x2B10, 0x04, 16, 1, .u64, 1, 0, .imm, .any, fun _ _ => .num 0, 8, false⟩

/-- chan[ch].rh_overflow (Table 11-11). -/
def chanRhOverflow : Obj := ⟨0x2B10, 0x05, 16, 1, .u32, 1, 0, .imm, .any, fun _ _ => .num 0, 4, false⟩

/-- chan[ch].imbalance (Table 11-11). -/
def chanImbalance : Obj := ⟨0x2B10, 0x06, 16, 1, .u16, 1, 0, .imm, .any, fun _ _ => .num 100, 2, false⟩

/-- chan[ch].read_width (Table 11-11). -/
def chanReadWidth : Obj := ⟨0x2B10, 0x07, 16, 1, .u16, 1, 0, .imm, .any, fun _ _ => .num 0, 2, false⟩

/-- chan[ch].read_height (Table 11-11). -/
def chanReadHeight : Obj := ⟨0x2B10, 0x08, 16, 1, .u16, 1, 0, .imm, .any, fun _ _ => .num 0, 2, false⟩

/-- chan[ch].write_width (Table 11-11). -/
def chanWriteWidth : Obj := ⟨0x2B10, 0x09, 16, 1, .u16, 1, 0, .imm, .any, fun _ _ => .num 0, 2, false⟩

/-- chan[ch].write_height (Table 11-11). -/
def chanWriteHeight : Obj := ⟨0x2B10, 0x0A, 16, 1, .u16, 1, 0, .imm, .any, fun _ _ => .num 0, 2, false⟩

/-- chan[ch].ca_width (Table 11-11). -/
def chanCaWidth : Obj := ⟨0x2B10, 0x0B, 16, 1, .u16, 1, 0, .imm, .any, fun _ _ => .num 0, 2, false⟩

/-- chan[ch].retunes (Table 11-11). -/
def chanRetunes : Obj := ⟨0x2B10, 0x0C, 16, 1, .u32, 1, 0, .imm, .any, fun _ _ => .num 0, 4, false⟩

/-- chan[ch].link_ecc (Table 11-11). -/
def chanLinkEcc : Obj := ⟨0x2B10, 0x0D, 16, 1, .u32, 1, 0, .imm, .any, fun _ _ => .num 0, 4, false⟩

/-- chan[ch].class0_wait_max (Table 11-11). -/
def chanClass0WaitMax : Obj := ⟨0x2B10, 0x0E, 16, 1, .u32, 1, 0, .imm, .any, fun _ _ => .num 0, 4, false⟩

/-- chan[ch].bytes (Table 11-11). -/
def chanBytes : Obj := ⟨0x2B10, 0x0F, 16, 1, .u64, 1, 0, .imm, .any, fun _ _ => .num 0, 8, false⟩

/-- identity.error_register (Table 12-12). -/
def identityErrorRegister : Obj := ⟨0x1001, 0x00, 1, 1, .u8, 1, 0, .imm, .any, fun _ _ => .num 0, 1, false⟩

/-- can.heartbeat_consumer[0..3] (Table 12-12). -/
def canHeartbeatConsumer : Obj := ⟨0x1016, 0x01, 1, 4, .u32, 1, 4, .pit, .among [(0, 8388607, 1)], fun _ _ => .num 0, 4, false⟩

/-- can.heartbeat_period (Table 12-12). -/
def canHeartbeatPeriod : Obj := ⟨0x1017, 0x00, 1, 1, .u16, 1, 4, .pit, .any, fun _ _ => .num 1000, 2, false⟩

/-- identity.vendor_id (Table 12-12). -/
def identityVendorId : Obj := ⟨0x1018, 0x01, 1, 1, .u32, 1, 0, .imm, .any, fun _ _ => .num 0x4956444C, 4, false⟩

/-- identity.product_code (Table 12-12). -/
def identityProductCode : Obj := ⟨0x1018, 0x02, 1, 1, .u32, 1, 0, .imm, .any, fun _ _ => .num 0x3200, 4, false⟩

/-- identity.revision (Table 12-12). -/
def identityRevision : Obj := ⟨0x1018, 0x03, 1, 1, .u32, 1, 0, .imm, .any, fun _ _ => .num 0, 4, false⟩

/-- identity.serial_low (Table 12-12). -/
def identitySerialLow : Obj := ⟨0x1018, 0x04, 1, 1, .u32, 1, 0, .imm, .any, fun _ _ => .num 0, 4, false⟩

/-- identity.serial_number (Table 12-12). -/
def identitySerialNumber : Obj := ⟨0x1018, 0x05, 1, 1, .u64, 1, 0, .imm, .any, fun _ _ => .num 0, 8, false⟩

/-- identity.mac_base (Table 12-12). -/
def identityMacBase : Obj := ⟨0x1018, 0x06, 1, 1, .u64, 1, 0, .imm, .any, fun _ _ => .num 0, 8, false⟩

/-- dict.directory (Table 12-12). -/
def dictDirectory : Obj := ⟨0x1100, 0x01, 1, 1, .domain, 1, 0, .imm, .raw 0 16777216 16, fun _ _ => .raw [], 16777216, false⟩

/-- dict.entries (Table 12-12). -/
def dictEntries : Obj := ⟨0x1100, 0x02, 1, 1, .u16, 1, 0, .imm, .any, fun _ _ => .num 0, 2, false⟩

/-- dict.events (Table 12-12). -/
def dictEvents : Obj := ⟨0x1100, 0x03, 1, 1, .domain, 1, 0, .imm, .raw 0 2048 32, fun _ _ => .raw [], 2048, false⟩

/-- dict.events_last (Table 12-12). -/
def dictEventsLast : Obj := ⟨0x1100, 0x04, 1, 1, .u32, 1, 0, .imm, .any, fun _ _ => .num 0, 4, false⟩

/-- dict.events_lost (Table 12-12). -/
def dictEventsLost : Obj := ⟨0x1100, 0x05, 1, 1, .u32, 1, 0, .imm, .any, fun _ _ => .num 0, 4, false⟩

/-- dict.journal_used (Table 12-12). -/
def dictJournalUsed : Obj := ⟨0x1100, 0x06, 1, 1, .u32, 1, 0, .imm, .any, fun _ _ => .num 0, 4, false⟩

/-- dict.journal_discarded (Table 12-12). -/
def dictJournalDiscarded : Obj := ⟨0x1100, 0x07, 1, 1, .u32, 1, 0, .imm, .any, fun _ _ => .num 0, 4, false⟩

/-- qdp.port (Table 12-12). -/
def qdpPort : Obj := ⟨0x1110, 0x01, 1, 1, .u16, 1, 4, .rst, .among [(1024, 65535, 1)], fun _ _ => .num 28211, 2, false⟩

/-- qdp.ports (Table 12-12). -/
def qdpPorts : Obj := ⟨0x1110, 0x02, 1, 1, .u8, 1, 4, .rst, .among [(0, 15, 1)], fun _ _ => .num 0x0F, 1, false⟩

/-- qdp.idle_timeout (Table 12-12). -/
def qdpIdleTimeout : Obj := ⟨0x1110, 0x03, 1, 1, .u16, 1, 4, .pit, .among [(10, 3600, 1)], fun _ _ => .num 60, 2, false⟩

/-- qdp.max_datagram (Table 12-12). -/
def qdpMaxDatagram : Obj := ⟨0x1110, 0x04, 1, 1, .u16, 1, 4, .pit, .among [(576, 9146, 1)], fun _ _ => .num 1452, 2, false⟩

/-- qdp.sessions (Table 12-12). -/
def qdpSessions : Obj := ⟨0x1110, 0x05, 1, 1, .u8, 1, 0, .imm, .any, fun _ _ => .num 0, 1, false⟩

/-- qdp.auth_failures (Table 12-12). -/
def qdpAuthFailures : Obj := ⟨0x1110, 0x06, 1, 1, .u32, 1, 0, .imm, .any, fun _ _ => .num 0, 4, false⟩

/-- qdp.rejected (Table 12-12). -/
def qdpRejected : Obj := ⟨0x1110, 0x07, 1, 1, .u32, 1, 0, .imm, .any, fun _ _ => .num 0, 4, false⟩

/-- qdp.role_key[O, P, E, I] (Table 12-12). -/
def qdpRoleKey : Obj := ⟨0x1111, 0x01, 1, 4, .domain, 0, 4, .imm, .raw 32 32 1, fun _ _ => .raw [], 32, false⟩

/-- qdp.peer_key[0..1] (Table 12-12). -/
def qdpPeerKey : Obj := ⟨0x1112, 0x01, 1, 2, .domain, 0, 4, .imm, .raw 32 32 1, fun _ _ => .raw [], 32, false⟩

/-- can[p].enable (Table 12-12). -/
def canEnable : Obj := ⟨0x1120, 0x01, 2, 1, .bool, 1, 4, .rst, .any, fun _ _ => .num 0, 1, false⟩

/-- can[p].node_id (Table 12-12). -/
def canNodeId : Obj := ⟨0x1120, 0x02, 2, 1, .u8, 1, 4, .rst, .among [(1, 127, 1)], fun i _ => .num (0x20 + i), 1, false⟩

/-- can[p].nominal_rate (Table 12-12). -/
def canNominalRate : Obj := ⟨0x1120, 0x03, 2, 1, .u16, 1, 4, .rst, .among [(125, 125, 1), (250, 250, 1), (500, 500, 1), (1000, 1000, 1)], fun _ _ => .num 500, 2, false⟩

/-- can[p].data_rate (Table 12-12). -/
def canDataRate : Obj := ⟨0x1120, 0x04, 2, 1, .u16, 1, 4, .rst, .among [(1000, 1000, 1), (2000, 2000, 1), (4000, 4000, 1), (5000, 5000, 1)], fun _ _ => .num 2000, 2, false⟩

/-- can[p].role (Table 12-12). -/
def canRole : Obj := ⟨0x1120, 0x05, 2, 1, .u8, 1, 4, .rst, .among [(1, 2, 1)], fun _ _ => .num 1, 1, false⟩

/-- can[p].emcy_mask (Table 12-12). -/
def canEmcyMask : Obj := ⟨0x1120, 0x06, 2, 1, .u16, 1, 4, .pit, .any, fun _ _ => .num 0x7100, 2, false⟩

/-- can[p].nmt_state (Table 12-12). -/
def canNmtState : Obj := ⟨0x1120, 0x07, 2, 1, .u8, 1, 0, .imm, .any, fun _ _ => .num 0, 1, false⟩

/-- can[p].bus_state (Table 12-12). -/
def canBusState : Obj := ⟨0x1120, 0x08, 2, 1, .u8, 1, 0, .imm, .any, fun _ _ => .num 0, 1, false⟩

/-- can[p].rx_ignored (Table 12-12). -/
def canRxIgnored : Obj := ⟨0x1120, 0x09, 2, 1, .u32, 1, 0, .imm, .any, fun _ _ => .num 0, 4, false⟩

/-- services.spare_core (Table 13-15). -/
def servicesSpareCore : Obj := ⟨0x2C00, 0x01, 1, 1, .u8, 1, 0, .imm, .any, fun _ _ => .num 1, 1, false⟩

/-- proc[n].state (Table 13-15). -/
def procState : Obj := ⟨0x2C10, 0x01, 14, 1, .u8, 1, 0, .imm, .any, fun i _ => .num (if i = 8 then 1 else 0), 1, false⟩

/-- proc[n].tasks (Table 13-15). -/
def procTasks : Obj := ⟨0x2C10, 0x02, 14, 1, .u8, 1, 0, .imm, .any, fun i _ => .num (if i < 8 then 2 ^ i else 0), 1, false⟩

/-- proc[n].load (Table 13-15). -/
def procLoad : Obj := ⟨0x2C10, 0x03, 14, 1, .u8, 1, 0, .imm, .any, fun _ _ => .num 0, 1, false⟩

/-- proc[n].restarts (Table 13-15). -/
def procRestarts : Obj := ⟨0x2C10, 0x04, 14, 1, .u32, 1, 0, .imm, .any, fun _ _ => .num 0, 4, false⟩

/-- proc[n].epoch (Table 13-15). -/
def procEpoch : Obj := ⟨0x2C10, 0x05, 14, 1, .u16, 1, 0, .imm, .any, fun _ _ => .num 1, 2, false⟩

/-- mbx[m].kind (Table 13-16). -/
def mbxKind : Obj := ⟨0x2C20, 0x01, 32, 1, .u8, 1, 0, .imm, .any, fun i _ => .num (if i < 16 then 0 else if i < 24 then 1 else 2), 1, false⟩

/-- mbx[m].end_a (Table 13-16). -/
def mbxEndA : Obj := ⟨0x2C20, 0x02, 32, 1, .u8, 1, 0, .imm, .any, fun i _ => .num (if 16 ≤ i && i < 24 then 3 else 0), 1, false⟩

/-- mbx[m].end_b (Table 13-16). -/
def mbxEndB : Obj := ⟨0x2C20, 0x03, 32, 1, .u8, 1, 0, .imm, .any, fun i _ => .num (if i < 16 then 0 else if i < 24 then 0xFE else 0xFF), 1, false⟩

/-- mbx[m].ack_timeout (Table 13-16). -/
def mbxAckTimeout : Obj := ⟨0x2C20, 0x04, 32, 1, .u16, 1, 4, .pit, .among [(1, 10000, 1)], fun _ _ => .num 50, 2, false⟩

/-- mbx[m].epoch_a (Table 13-16). -/
def mbxEpochA : Obj := ⟨0x2C20, 0x05, 32, 1, .u16, 1, 0, .imm, .any, fun _ _ => .num 1, 2, false⟩

/-- mbx[m].epoch_b (Table 13-16). -/
def mbxEpochB : Obj := ⟨0x2C20, 0x06, 32, 1, .u16, 1, 0, .imm, .any, fun _ _ => .num 1, 2, false⟩

/-- mbx[m].posts (Table 13-16). -/
def mbxPosts : Obj := ⟨0x2C20, 0x07, 32, 1, .u64, 1, 0, .imm, .any, fun _ _ => .num 0, 8, false⟩

/-- mbx[m].collisions (Table 13-16). -/
def mbxCollisions : Obj := ⟨0x2C20, 0x08, 32, 1, .u32, 1, 0, .imm, .any, fun _ _ => .num 0, 4, false⟩

/-- mbx[m].timeouts (Table 13-16). -/
def mbxTimeouts : Obj := ⟨0x2C20, 0x09, 32, 1, .u32, 1, 0, .imm, .any, fun _ _ => .num 0, 4, false⟩

/-- mbx[m].aborts (Table 13-16). -/
def mbxAborts : Obj := ⟨0x2C20, 0x0A, 32, 1, .u32, 1, 0, .imm, .any, fun _ _ => .num 0, 4, false⟩

/-- mbx[m].acks_discarded (Table 13-16). -/
def mbxAcksDiscarded : Obj := ⟨0x2C20, 0x0B, 32, 1, .u32, 1, 0, .imm, .any, fun _ _ => .num 0, 4, false⟩

/-- mbx[m].service (Table 13-16). -/
def mbxService : Obj := ⟨0x2C20, 0x10, 32, 1, .u8, 1, 4, .rst, .among [(0, 2, 1)], fun _ _ => .num 0, 1, false⟩

/-- mbx[m].host_role (Table 13-16). -/
def mbxHostRole : Obj := ⟨0x2C20, 0x11, 32, 1, .u8, 1, 4, .pit, .among [(1, 4, 1)], fun _ _ => .num 3, 1, false⟩

/-- mbx[m].host_claim (Table 13-16). -/
def mbxHostClaim : Obj := ⟨0x2C20, 0x12, 32, 1, .u32, 1, 2, .imm, .among [(0, 1, 1)], fun _ _ => .num 0, 4, false⟩

/-- mbx[m].host_post (Table 13-16). -/
def mbxHostPost : Obj := ⟨0x2C20, 0x13, 32, 1, .domain, 0, 2, .imm, .raw 0 48 1, fun _ _ => .raw [], 48, false⟩

/-- mbx[m].host_result (Table 13-16). -/
def mbxHostResult : Obj := ⟨0x2C20, 0x14, 32, 1, .u64, 2, 0, .imm, .any, fun _ _ => .num 0, 8, false⟩

/-- mbx[m].host_inbound (Table 13-16). -/
def mbxHostInbound : Obj := ⟨0x2C20, 0x15, 32, 1, .domain, 2, 0, .imm, .raw 0 64 64, fun _ _ => .raw [], 64, false⟩

/-- mbx[m].host_take (Table 13-16). -/
def mbxHostTake : Obj := ⟨0x2C20, 0x16, 32, 1, .u32, 0, 2, .imm, .any, fun _ _ => .num 0, 4, false⟩

/-- mbx[m].host_ack (Table 13-16). -/
def mbxHostAck : Obj := ⟨0x2C20, 0x17, 32, 1, .u64, 0, 2, .imm, .any, fun _ _ => .num 0, 8, false⟩

/-- protect[n].region_shadow[0..15] (Table 13-17). -/
def protectRegionShadow : Obj := ⟨0x2C40, 0x01, 55, 16, .u64, 1, 4, .imm, .any, fun _ _ => .num 0, 8, false⟩

/-- protect[n].region_active[0..15] (Table 13-17). -/
def protectRegionActive : Obj := ⟨0x2C40, 0x11, 55, 16, .u64, 1, 0, .imm, .any, fun _ _ => .num 0, 8, false⟩

/-- protect[n].commit (Table 13-17). -/
def protectCommit : Obj := ⟨0x2C40, 0x21, 55, 1, .bool, 1, 4, .imm, .any, fun _ _ => .num 0, 1, false⟩

/-- protect[n].commit_state (Table 13-17). -/
def protectCommitState : Obj := ⟨0x2C40, 0x22, 55, 1, .u8, 1, 0, .imm, .any, fun _ _ => .num 0, 1, false⟩

/-- protect[n].refusal (Table 13-17). -/
def protectRefusal : Obj := ⟨0x2C40, 0x23, 55, 1, .u32, 1, 0, .imm, .any, fun _ _ => .num 0, 4, false⟩

/-- protect[n].violations (Table 13-17). -/
def protectViolations : Obj := ⟨0x2C40, 0x24, 55, 1, .u32, 1, 0, .imm, .any, fun _ _ => .num 0, 4, false⟩

/-- protect[n].last_fault (Table 13-17). -/
def protectLastFault : Obj := ⟨0x2C40, 0x25, 55, 1, .domain, 1, 0, .imm, .raw 16 16 1, fun _ _ => .raw [], 16, false⟩

/-- cvu[u].owner (Table 13-18). -/
def cvuOwner : Obj := ⟨0x2CA0, 0x01, 8, 1, .u8, 1, 0, .imm, .any, fun _ _ => .num 0xFF, 1, false⟩

/-- cvu[u].algorithm (Table 13-18). -/
def cvuAlgorithm : Obj := ⟨0x2CA0, 0x02, 8, 1, .u8, 1, 0, .imm, .any, fun _ _ => .num 0, 1, false⟩

/-- cvu[u].finishes (Table 13-18). -/
def cvuFinishes : Obj := ⟨0x2CA0, 0x03, 8, 1, .u64, 1, 0, .imm, .any, fun _ _ => .num 0, 8, false⟩

/-- twin.mode (Table 14-11). -/
def twinMode : Obj := ⟨0x2D00, 0x01, 1, 1, .u8, 1, 4, .rst, .among [(0, 2, 1)], fun _ _ => .num 0, 1, false⟩

/-- twin.unit_id (Table 14-11). -/
def twinUnitId : Obj := ⟨0x2D00, 0x02, 1, 1, .u8, 1, 4, .rst, .among [(0, 1, 1)], fun _ _ => .num 0, 1, false⟩

/-- twin.anchor_path (Table 14-11). -/
def twinAnchorPath : Obj := ⟨0x2D00, 0x03, 1, 1, .u8, 1, 4, .rst, .among [(0, 7, 1)], fun _ _ => .num 0x01, 1, false⟩

/-- twin.anchor_addr (Table 14-11). -/
def twinAnchorAddr : Obj := ⟨0x2D00, 0x04, 1, 1, .string, 1, 4, .rst, .raw 0 255 1, fun _ _ => .raw [], 255, false⟩

/-- twin.anchor_port (Table 14-11). -/
def twinAnchorPort : Obj := ⟨0x2D00, 0x05, 1, 1, .u16, 1, 4, .rst, .among [(1, 65535, 1)], fun _ _ => .num 28211, 2, false⟩

/-- twin.record_lead (Table 14-11). -/
def twinRecordLead : Obj := ⟨0x2D00, 0x06, 1, 1, .u16, 1, 4, .rst, .among [(2000, 65535, 1)], fun _ _ => .num 8000, 2, false⟩

/-- twin.pair_serials (Table 14-11). -/
def twinPairSerials : Obj := ⟨0x2D00, 0x07, 1, 1, .domain, 1, 4, .rst, .raw 16 16 1, fun _ _ => .raw [], 16, false⟩

/-- twin.handover (Table 14-11). -/
def twinHandover : Obj := ⟨0x2D00, 0x08, 1, 1, .bool, 1, 3, .imm, .any, fun _ _ => .num 0, 1, false⟩

/-- twin.role (Table 14-11). -/
def twinRole : Obj := ⟨0x2D00, 0x10, 1, 1, .u8, 1, 0, .imm, .any, fun _ _ => .num 0, 1, false⟩

/-- twin.epoch_held (Table 14-11). -/
def twinEpochHeld : Obj := ⟨0x2D00, 0x11, 1, 1, .u32, 1, 0, .imm, .any, fun _ _ => .num 0, 4, false⟩

/-- twin.epoch_known (Table 14-11). -/
def twinEpochKnown : Obj := ⟨0x2D00, 0x12, 1, 1, .u32, 1, 0, .imm, .any, fun _ _ => .num 0, 4, false⟩

/-- twin.lead_serial (Table 14-11). -/
def twinLeadSerial : Obj := ⟨0x2D00, 0x13, 1, 1, .u64, 1, 0, .imm, .any, fun _ _ => .num 0, 8, false⟩

/-- twin.anchor_contact (Table 14-11). -/
def twinAnchorContact : Obj := ⟨0x2D00, 0x14, 1, 1, .bool, 1, 0, .imm, .any, fun _ _ => .num 0, 1, false⟩

/-- twin.rope_valid (Table 14-11). -/
def twinRopeValid : Obj := ⟨0x2D00, 0x15, 1, 1, .bool, 1, 0, .imm, .any, fun _ _ => .num 0, 1, false⟩

/-- twin.cold_reason (Table 14-11). -/
def twinColdReason : Obj := ⟨0x2D00, 0x16, 1, 1, .u8, 1, 0, .imm, .any, fun _ _ => .num 0, 1, false⟩

/-- twin.record_applied (Table 14-11). -/
def twinRecordApplied : Obj := ⟨0x2D00, 0x17, 1, 1, .u32, 1, 0, .imm, .any, fun _ _ => .num 0, 4, false⟩

/-- twin.records_discarded (Table 14-11). -/
def twinRecordsDiscarded : Obj := ⟨0x2D00, 0x18, 1, 1, .u32, 1, 0, .imm, .any, fun _ _ => .num 0, 4, false⟩

/-- twin.compared_heads (Table 14-11). -/
def twinComparedHeads : Obj := ⟨0x2D00, 0x19, 1, 1, .u64, 1, 0, .imm, .any, fun _ _ => .num 0, 8, false⟩

/-- twin.crc_mismatches (Table 14-11). -/
def twinCrcMismatches : Obj := ⟨0x2D00, 0x1A, 1, 1, .u32, 1, 0, .imm, .any, fun _ _ => .num 0, 4, false⟩

/-- twin.checksum_mismatches (Table 14-11). -/
def twinChecksumMismatches : Obj := ⟨0x2D00, 0x1B, 1, 1, .u32, 1, 0, .imm, .any, fun _ _ => .num 0, 4, false⟩

/-- twin.digest_differences (Table 14-11). -/
def twinDigestDifferences : Obj := ⟨0x2D00, 0x1C, 1, 1, .u64, 1, 0, .imm, .any, fun _ _ => .num 0, 8, false⟩

/-- twin.partner_health (Table 14-11). -/
def twinPartnerHealth : Obj := ⟨0x2D00, 0x1D, 1, 1, .domain, 1, 0, .imm, .raw 28 28 1, fun _ _ => .raw [], 28, false⟩

/-- twin.last_takeover (Table 14-11). -/
def twinLastTakeover : Obj := ⟨0x2D00, 0x1E, 1, 1, .dtime, 1, 0, .imm, .any, fun _ _ => .num 0, 12, false⟩

/-- twin.fence_events (Table 14-11). -/
def twinFenceEvents : Obj := ⟨0x2D00, 0x1F, 1, 1, .u32, 1, 0, .imm, .any, fun _ _ => .num 0, 4, false⟩

/-- lifecycle.state (Table 15-7). -/
def lifecycleState : Obj := ⟨0x2000, 0x01, 1, 1, .u8, 1, 0, .imm, .any, fun _ _ => .num 0, 1, false⟩

/-- lifecycle.request (Table 15-7). -/
def lifecycleRequest : Obj := ⟨0x2000, 0x02, 1, 1, .u32, 0, 3, .imm, .any, fun _ _ => .num 0, 4, true⟩

/-- lifecycle.last_change (Table 15-7). -/
def lifecycleLastChange : Obj := ⟨0x2000, 0x03, 1, 1, .dtime, 1, 0, .imm, .any, fun _ _ => .num 0, 12, false⟩

/-- lifecycle.refusal (Table 15-7). -/
def lifecycleRefusal : Obj := ⟨0x2000, 0x04, 1, 1, .u8, 1, 0, .imm, .any, fun _ _ => .num 0, 1, false⟩

/-- lifecycle.boot_count (Table 15-7). -/
def lifecycleBootCount : Obj := ⟨0x2000, 0x05, 1, 1, .u32, 1, 0, .imm, .any, fun _ _ => .num 0, 4, false⟩

/-- health.report (Table 15-8). -/
def healthReport : Obj := ⟨0x2E00, 0x01, 1, 1, .domain, 1, 0, .imm, .raw 256 256 1, fun _ _ => .raw [], 256, false⟩

/-- health.transient_limit (Table 15-8). -/
def healthTransientLimit : Obj := ⟨0x2E00, 0x02, 1, 1, .u8, 1, 4, .pit, .among [(2, 32, 1)], fun _ _ => .num 8, 1, false⟩

/-- health.bist_period (Table 15-8). -/
def healthBistPeriod : Obj := ⟨0x2E00, 0x03, 1, 1, .u16, 1, 4, .pit, .among [(10, 3600, 1)], fun _ _ => .num 60, 2, false⟩

/-- health.test (Table 15-8). -/
def healthTest : Obj := ⟨0x2E00, 0x04, 1, 1, .u32, 1, 3, .imm, .any, fun _ _ => .num 0, 4, true⟩

/-- health.retest (Table 15-8). -/
def healthRetest : Obj := ⟨0x2E00, 0x05, 1, 1, .u32, 1, 4, .imm, .any, fun _ _ => .num 0, 4, false⟩

/-- health.refuse (Table 15-8). -/
def healthRefuse : Obj := ⟨0x2E00, 0x06, 1, 1, .bool, 1, 5, .svc, .any, fun _ _ => .num 0, 1, false⟩

/-- health.retired (Table 15-8). -/
def healthRetired : Obj := ⟨0x2E00, 0x07, 1, 1, .domain, 1, 0, .imm, .raw 152 152 1, fun _ _ => .raw [], 152, false⟩

/-- health.fault_log (Table 15-8). -/
def healthFaultLog : Obj := ⟨0x2E00, 0x08, 1, 1, .domain, 1, 0, .imm, .raw 0 4096 64, fun _ _ => .raw [], 4096, false⟩

/-- health.fault_next (Table 15-8). -/
def healthFaultNext : Obj := ⟨0x2E00, 0x09, 1, 1, .u32, 1, 2, .imm, .any, fun _ _ => .num 1, 4, false⟩

/-- health.fault_last (Table 15-8). -/
def healthFaultLast : Obj := ⟨0x2E00, 0x0A, 1, 1, .u32, 1, 0, .imm, .any, fun _ _ => .num 0, 4, false⟩

/-- health.shed_heads (Table 15-8). -/
def healthShedHeads : Obj := ⟨0x2E00, 0x0B, 1, 1, .u32, 1, 0, .imm, .any, fun _ _ => .num 0, 4, false⟩

/-- health.shed_streams (Table 15-8). -/
def healthShedStreams : Obj := ⟨0x2E00, 0x0C, 1, 1, .domain, 1, 0, .imm, .raw 16 16 1, fun _ _ => .raw [], 16, false⟩

/-- health.bist_runs (Table 15-8). -/
def healthBistRuns : Obj := ⟨0x2E00, 0x0D, 1, 1, .u64, 1, 0, .imm, .any, fun _ _ => .num 0, 8, false⟩

/-- reset.cause (Table 16-6). -/
def resetCause : Obj := ⟨0x2010, 0x01, 1, 1, .u8, 1, 0, .imm, .any, fun _ _ => .num 1, 1, false⟩

/-- reset.request (Table 16-6). -/
def resetRequest : Obj := ⟨0x2010, 0x02, 1, 1, .u8, 0, 3, .imm, .among [(1, 2, 1)], fun _ _ => .num 0, 1, true⟩

/-- reset.last_stop (Table 16-6). -/
def resetLastStop : Obj := ⟨0x2010, 0x03, 1, 1, .u16, 1, 0, .imm, .any, fun _ _ => .num 0, 2, false⟩

/-- reset.startup_ms (Table 16-6). -/
def resetStartupMs : Obj := ⟨0x2010, 0x04, 1, 1, .u32, 1, 0, .imm, .any, fun _ _ => .num 0, 4, false⟩

/-- boot.fw_slot (Table 16-6). -/
def bootFwSlot : Obj := ⟨0x2011, 0x01, 1, 1, .u8, 1, 0, .imm, .any, fun _ _ => .num 0, 1, false⟩

/-- boot.fw_version (Table 16-6). -/
def bootFwVersion : Obj := ⟨0x2011, 0x02, 1, 1, .u32, 1, 0, .imm, .any, fun _ _ => .num 0, 4, false⟩

/-- boot.fw_min_version (Table 16-6). -/
def bootFwMinVersion : Obj := ⟨0x2011, 0x03, 1, 1, .u32, 1, 0, .imm, .any, fun _ _ => .num 0, 4, false⟩

/-- boot.fw_min_commit (Table 16-6). -/
def bootFwMinCommit : Obj := ⟨0x2011, 0x04, 1, 1, .bool, 1, 5, .svc, .any, fun _ _ => .num 0, 1, false⟩

/-- boot.fw_image (Table 16-6). -/
def bootFwImage : Obj := ⟨0x2011, 0x05, 1, 1, .domain, 0, 4, .svc, .raw 129 16777216 1, fun _ _ => .raw [], 16777216, false⟩

/-- boot.config_slot (Table 16-6). -/
def bootConfigSlot : Obj := ⟨0x2011, 0x06, 1, 1, .u8, 1, 0, .imm, .any, fun _ _ => .num 0xFF, 1, false⟩

/-- boot.config_version (Table 16-6). -/
def bootConfigVersion : Obj := ⟨0x2011, 0x07, 1, 1, .u32, 1, 0, .imm, .any, fun _ _ => .num 0, 4, false⟩

/-- boot.config_digest (Table 16-6). -/
def bootConfigDigest : Obj := ⟨0x2011, 0x08, 1, 1, .domain, 1, 0, .imm, .raw 0 32 32, fun _ _ => .raw [], 32, false⟩

/-- boot.config_image (Table 16-6). -/
def bootConfigImage : Obj := ⟨0x2011, 0x09, 1, 1, .domain, 4, 4, .rst, .raw 129 16777216 1, fun _ _ => .raw [], 16777216, false⟩

/-- boot.config_key (Table 16-6). -/
def bootConfigKey : Obj := ⟨0x2011, 0x0A, 1, 1, .domain, 1, 4, .rst, .raw 64 64 1, fun _ _ => .raw [], 64, false⟩

/-- power.rail_faults (Table 16-7). -/
def powerRailFaults : Obj := ⟨0x2020, 0x01, 1, 1, .u32, 1, 0, .imm, .any, fun _ _ => .num 0, 4, false⟩

/-- thermal.temp (Table 16-7). -/
def thermalTemp : Obj := ⟨0x2021, 0x01, 1, 1, .i16, 1, 0, .imm, .any, fun _ _ => .num 0, 2, false⟩

/-- thermal.sensors (Table 16-7). -/
def thermalSensors : Obj := ⟨0x2021, 0x02, 1, 1, .domain, 1, 0, .imm, .raw 36 36 1, fun _ _ => .raw [], 36, false⟩

/-- thermal.warn (Table 16-7). -/
def thermalWarn : Obj := ⟨0x2021, 0x03, 1, 1, .u8, 1, 4, .pit, .among [(70, 105, 1)], fun _ _ => .num 95, 1, false⟩

/-- thermal.throttle (Table 16-7). -/
def thermalThrottle : Obj := ⟨0x2021, 0x04, 1, 1, .u8, 1, 4, .pit, .among [(90, 105, 1)], fun _ _ => .num 105, 1, false⟩

/-- thermal.step (Table 16-7). -/
def thermalStep : Obj := ⟨0x2021, 0x05, 1, 1, .u8, 1, 0, .imm, .any, fun _ _ => .num 0, 1, false⟩

/-- thermal.throttled_s (Table 16-7). -/
def thermalThrottledS : Obj := ⟨0x2021, 0x06, 1, 1, .u32, 1, 0, .imm, .any, fun _ _ => .num 0, 4, false⟩

/-- standby.request (Table 16-7). -/
def standbyRequest : Obj := ⟨0x2030, 0x01, 1, 1, .bool, 0, 3, .imm, .any, fun _ _ => .num 0, 1, true⟩

/-- standby.wake_after (Table 16-7). -/
def standbyWakeAfter : Obj := ⟨0x2030, 0x02, 1, 1, .u32, 1, 3, .imm, .among [(0, 0, 1), (1, 31536000, 1)], fun _ _ => .num 0, 4, false⟩

/-- standby.wake_source (Table 16-7). -/
def standbyWakeSource : Obj := ⟨0x2030, 0x03, 1, 1, .u8, 1, 0, .imm, .any, fun _ _ => .num 0, 1, false⟩

/-- energy.composition_uj (Table 16-8). -/
def energyCompositionUj : Obj := ⟨0x2040, 0x01, 1, 1, .u64, 1, 0, .imm, .any, fun _ _ => .num 0, 8, false⟩

/-- energy.decode_uj (Table 16-8). -/
def energyDecodeUj : Obj := ⟨0x2040, 0x02, 1, 1, .u64, 1, 0, .imm, .any, fun _ _ => .num 0, 8, false⟩

/-- energy.encode_uj (Table 16-8). -/
def energyEncodeUj : Obj := ⟨0x2040, 0x03, 1, 1, .u64, 1, 0, .imm, .any, fun _ _ => .num 0, 8, false⟩

/-- energy.lanes_uj (Table 16-8). -/
def energyLanesUj : Obj := ⟨0x2040, 0x04, 1, 1, .u64, 1, 0, .imm, .any, fun _ _ => .num 0, 8, false⟩

/-- energy.other_uj (Table 16-8). -/
def energyOtherUj : Obj := ⟨0x2040, 0x05, 1, 1, .u64, 1, 0, .imm, .any, fun _ _ => .num 0, 8, false⟩

/-- energy.total_mw (Table 16-8). -/
def energyTotalMw : Obj := ⟨0x2040, 0x06, 1, 1, .u32, 1, 0, .imm, .any, fun _ _ => .num 0, 4, false⟩

/-- energy.composition_njpx (Table 16-8). -/
def energyCompositionNjpx : Obj := ⟨0x2040, 0x07, 1, 1, .real32, 1, 0, .imm, .any, fun _ _ => .num 0, 4, false⟩

/-- energy.decode_njpx (Table 16-8). -/
def energyDecodeNjpx : Obj := ⟨0x2040, 0x08, 1, 1, .real32, 1, 0, .imm, .any, fun _ _ => .num 0, 4, false⟩

/-- energy.encode_njpx (Table 16-8). -/
def energyEncodeNjpx : Obj := ⟨0x2040, 0x09, 1, 1, .real32, 1, 0, .imm, .any, fun _ _ => .num 0, 4, false⟩

/-- energy.lanes_pjbit (Table 16-8). -/
def energyLanesPjbit : Obj := ⟨0x2040, 0x0A, 1, 1, .real32, 1, 0, .imm, .any, fun _ _ => .num 0, 4, false⟩

/-- energy.valid (Table 16-8). -/
def energyValid : Obj := ⟨0x2040, 0x0B, 1, 1, .u8, 1, 0, .imm, .any, fun _ _ => .num 0x1F, 1, false⟩

/-- RPDO COB-ID (R346). -/
def rpdoCob : Obj := ⟨0x1400, 0x01, 16, 1, .u32, 1, 4, .pit, .any, fun i _ => .num (if i % 8 < 4 then 0x200 + 0x100 * (i % 8 : Nat) + 0x20 + (i / 8 : Nat) else 0x80000000), 4, false⟩

/-- RPDO transmission type (R346). -/
def rpdoType : Obj := ⟨0x1400, 0x02, 16, 1, .u8, 1, 4, .pit, .among [(254, 254, 1)], fun _ _ => .num 254, 1, false⟩

/-- RPDO mapping count (R346). -/
def rpdoCount : Obj := ⟨0x1600, 0x00, 16, 1, .u8, 1, 4, .pit, .among [(0, 64, 1)], fun _ _ => .num 0, 1, false⟩

/-- RPDO mapping entry (R346). -/
def rpdoMap : Obj := ⟨0x1600, 0x01, 16, 64, .u32, 1, 4, .pit, .any, fun _ _ => .num 0, 4, false⟩

/-- TPDO COB-ID (R346). -/
def tpdoCob : Obj := ⟨0x1800, 0x01, 16, 1, .u32, 1, 4, .pit, .any, fun i _ => .num (if i % 8 < 4 then 0x180 + 0x100 * (i % 8 : Nat) + 0x20 + (i / 8 : Nat) else 0x80000000), 4, false⟩

/-- TPDO transmission type (R346). -/
def tpdoType : Obj := ⟨0x1800, 0x02, 16, 1, .u8, 1, 4, .pit, .among [(254, 254, 1)], fun _ _ => .num 254, 1, false⟩

/-- TPDO period (R346). -/
def tpdoPeriod : Obj := ⟨0x1800, 0x05, 16, 1, .u16, 1, 4, .pit, .among [(1, 65535, 1)], fun _ _ => .num 1000, 2, false⟩

/-- TPDO mapping count (R346). -/
def tpdoCount : Obj := ⟨0x1A00, 0x00, 16, 1, .u8, 1, 4, .pit, .among [(0, 64, 1)], fun _ _ => .num 0, 1, false⟩

/-- TPDO mapping entry (R346). -/
def tpdoMap : Obj := ⟨0x1A00, 0x01, 16, 64, .u32, 1, 4, .pit, .any, fun _ _ => .num 0, 4, false⟩

/-- The objects of this part, in the order of the chapters. -/
def part3 : List Obj :=
  [memoryPprCandidates, memoryPprRun, memoryPprResults, memoryClassBytes, memoryHashMask, chanState, chanRefreshMult, chanRefreshOwed, chanRfmIssued, chanRhOverflow, chanImbalance, chanReadWidth, chanReadHeight, chanWriteWidth, chanWriteHeight, chanCaWidth, chanRetunes, chanLinkEcc, chanClass0WaitMax, chanBytes, identityErrorRegister, canHeartbeatConsumer, canHeartbeatPeriod, identityVendorId, identityProductCode, identityRevision, identitySerialLow, identitySerialNumber, identityMacBase, dictDirectory, dictEntries, dictEvents, dictEventsLast, dictEventsLost, dictJournalUsed, dictJournalDiscarded, qdpPort, qdpPorts, qdpIdleTimeout, qdpMaxDatagram] ++
  [qdpSessions, qdpAuthFailures, qdpRejected, qdpRoleKey, qdpPeerKey, canEnable, canNodeId, canNominalRate, canDataRate, canRole, canEmcyMask, canNmtState, canBusState, canRxIgnored, servicesSpareCore, procState, procTasks, procLoad, procRestarts, procEpoch, mbxKind, mbxEndA, mbxEndB, mbxAckTimeout, mbxEpochA, mbxEpochB, mbxPosts, mbxCollisions, mbxTimeouts, mbxAborts, mbxAcksDiscarded, mbxService, mbxHostRole, mbxHostClaim, mbxHostPost, mbxHostResult, mbxHostInbound, mbxHostTake, mbxHostAck, protectRegionShadow] ++
  [protectRegionActive, protectCommit, protectCommitState, protectRefusal, protectViolations, protectLastFault, cvuOwner, cvuAlgorithm, cvuFinishes, twinMode, twinUnitId, twinAnchorPath, twinAnchorAddr, twinAnchorPort, twinRecordLead, twinPairSerials, twinHandover, twinRole, twinEpochHeld, twinEpochKnown, twinLeadSerial, twinAnchorContact, twinRopeValid, twinColdReason, twinRecordApplied, twinRecordsDiscarded, twinComparedHeads, twinCrcMismatches, twinChecksumMismatches, twinDigestDifferences, twinPartnerHealth, twinLastTakeover, twinFenceEvents, lifecycleState, lifecycleRequest, lifecycleLastChange, lifecycleRefusal, lifecycleBootCount, healthReport, healthTransientLimit] ++
  [healthBistPeriod, healthTest, healthRetest, healthRefuse, healthRetired, healthFaultLog, healthFaultNext, healthFaultLast, healthShedHeads, healthShedStreams, healthBistRuns, resetCause, resetRequest, resetLastStop, resetStartupMs, bootFwSlot, bootFwVersion, bootFwMinVersion, bootFwMinCommit, bootFwImage, bootConfigSlot, bootConfigVersion, bootConfigDigest, bootConfigImage, bootConfigKey, powerRailFaults, thermalTemp, thermalSensors, thermalWarn, thermalThrottle, thermalStep, thermalThrottledS, standbyRequest, standbyWakeAfter, standbyWakeSource, energyCompositionUj, energyDecodeUj, energyEncodeUj, energyLanesUj, energyOtherUj] ++
  [energyTotalMw, energyCompositionNjpx, energyDecodeNjpx, energyEncodeNjpx, energyLanesPjbit, energyValid, rpdoCob, rpdoType, rpdoCount, rpdoMap, tpdoCob, tpdoType, tpdoPeriod, tpdoCount, tpdoMap]

end Sys2Proof.Machine.O
end

