-- ==== Sys2Proof/Machine/Table.lean ====
section
/-! DEFINITION. Sparse tables by number: a list of (number, record) pairs in rising order, with a value for what is
not listed. Every set of like units of the device (heads, streams, layers, lanes) is held in one. -/

namespace Sys2Proof.Machine

variable {α : Type}

/-- The entry of number `k`, when one is listed. -/
def tfind : List (Nat × α) → Nat → Option α
  | [], _ => none
  | (k', v) :: r, k => if k' = k then some v else tfind r k

/-- The record of number `k`, `d` when none is listed. -/
def tget (d : α) (t : List (Nat × α)) (k : Nat) : α := (tfind t k).getD d

/-- Record `v` under number `k`, keeping the numbers in rising order. -/
def tset : List (Nat × α) → Nat → α → List (Nat × α)
  | [], k, v => [(k, v)]
  | (k', v') :: r, k, v =>
    if k < k' then (k, v) :: (k', v') :: r
    else if k = k' then (k, v) :: r
    else (k', v') :: tset r k v

/-- Drop number `k`. -/
def tdel : List (Nat × α) → Nat → List (Nat × α)
  | [], _ => []
  | (k', v) :: r, k => if k' = k then tdel r k else (k', v) :: tdel r k

end Sys2Proof.Machine
end

