-- ==== Sys2Proof/Machine/Ops.lean ====
section
/-! DEFINITION. The named operations every meaning is built from: device time, dictionary values in effect and last
accepted (R16 to R19), free values, posting to transmit rings, raising a code (R341). -/

namespace Sys2Proof.Machine

/-! ### Time -/

/-- Device time in ns (R127: the accumulator counts 2^-48 ns). -/
def Dev.now (d : Dev) : Nat := d.clock / 2 ^ 48

/-- The CLK_CTRL cycle, of 2.5 ns, that holds an instant (Table 1-3). -/
def cycleOf (ns : Nat) : Nat := ns * 2 / 5

/-- A quotient whose rounding the spec does not state (DESIGN CHOICE, log 9): down or up. -/
def openRound (tag a b : Nat) : Nat := a / b + if a % b = 0 then 0 else (Config.unstated tag [a, b]).toNat % 2

/-- Device time reaches instant `t`; it never runs back by the passing of time (DESIGN CHOICE, log 1). -/
def Dev.tick (d : Dev) (t : Nat) : Dev := { d with clock := max d.clock (t * 2 ^ 48) }

/-- A command is the effect of `f` on the device at instant `t`: the queue and DRAM are as they were. -/
def State.run (s : State) (t : Nat) (f : Dev → Dev) : Host.Outcome State Fault Refusal :=
  .next { s with dev := f (s.dev.tick t) }

/-- The same for a command that also acts on DRAM. -/
def State.runMem (s : State) (t : Nat) (f : Dev → List Host.Cell → Dev × List Host.Cell) :
    Host.Outcome State Fault Refusal :=
  let r := f (s.dev.tick t) s.dram
  .next { s with dev := r.1, dram := r.2 }

/-- Apply `f` when `b` holds (DESIGN CHOICE, log 3: an event whose precondition is absent changes nothing but the time). -/
def Dev.when (d : Dev) (b : Bool) (f : Dev → Dev) : Dev := if b then f d else d

/-- Processors released: hardware units run (Table 16-5, DEDUCED, log 4). -/
def Dev.alive (d : Dev) : Bool :=
  d.power.phase == .released || d.power.phase == .running || d.power.phase == .stoppingHeads

/-- The dictionary is reachable (R452). -/
def Dev.running (d : Dev) : Bool := d.power.phase == .running || d.power.phase == .stoppingHeads

/-! ### Free values -/

/-- The next free value of the run, 64 bits (DESIGN CHOICE, log 9). -/
def Dev.fresh (d : Dev) : Nat × Dev := ((Config.freeWord d.freeCtr).toNat, { d with freeCtr := d.freeCtr + 1 })

/-- `n` free bytes (DESIGN CHOICE, log 9). -/
def Dev.freshBytes (d : Dev) (n : Nat) : Bytes × Dev :=
  ((List.range n).map fun i => Config.freeByte (d.freeCtr + i), { d with freeCtr := d.freeCtr + n })

/-! ### The register file -/

/-- The number of a value; 0 for a byte string. -/
def Val.int : Val → Int
  | .num v => v
  | .raw _ => 0

/-- The bytes of a value; none for a number. -/
def Val.bytes : Val → Bytes
  | .num _ => []
  | .raw b => b

/-- The value in effect of an entry. -/
def Dev.effV (d : Dev) (o : Obj) (i : Nat := 0) (j : Nat := 0) : Val :=
  (tfind d.dict.eff (o.key i j)).getD (o.dflt i j)

/-- The value in effect as a natural number. -/
def Dev.rn (d : Dev) (o : Obj) (i : Nat := 0) (j : Nat := 0) : Nat := (d.effV o i j).int.toNat

/-- The value in effect as an integer. -/
def Dev.ri (d : Dev) (o : Obj) (i : Nat := 0) (j : Nat := 0) : Int := (d.effV o i j).int

/-- The bytes in effect. -/
def Dev.rb (d : Dev) (o : Obj) (i : Nat := 0) (j : Nat := 0) : Bytes := (d.effV o i j).bytes

/-- A BOOL in effect. -/
def Dev.rf (d : Dev) (o : Obj) (i : Nat := 0) : Bool := d.rn o i != 0

/-- Store a value in effect under a key. -/
def Dev.setKey (d : Dev) (key : Nat) (v : Val) : Dev := { d with dict := { d.dict with eff := tset d.dict.eff key v } }

/-- Store a value in effect. -/
def Dev.setV (d : Dev) (o : Obj) (i : Nat) (v : Val) (j : Nat := 0) : Dev := d.setKey (o.key i j) v

/-- Store a number in effect. -/
def Dev.setN (d : Dev) (o : Obj) (i : Nat) (v : Int) (j : Nat := 0) : Dev := d.setV o i (.num v) j

/-- Store bytes in effect. -/
def Dev.setB (d : Dev) (o : Obj) (i : Nat) (b : Bytes) : Dev := d.setV o i (.raw b)

/-- Add to a counter: a counter of 4 bytes or fewer saturates; what a U64 counter shows past its largest value is not
stated and is free (DESIGN CHOICE, log 9). -/
def Dev.bumpBy (d : Dev) (o : Obj) (i n : Nat) : Dev :=
  let v := d.rn o i + n
  if v < 2 ^ (8 * o.size) then d.setN o i v
  else if o.size < 8 then d.setN o i ((2 : Int) ^ (8 * o.size) - 1)
  else d.fresh.2.setN o i d.fresh.1

/-- Add 1 to a counter. -/
def Dev.bump (d : Dev) (o : Obj) (i : Nat := 0) : Dev := d.bumpBy o i 1

/-- The pending writes of a commit class (1 GRP, 2 PIT, 3 RST, 4 SVC), oldest first. -/
def Dev.pendOf (d : Dev) (cls : Nat) : List PendW := tget [] d.dict.pend cls

/-- Replace the pending writes of a class. -/
def Dev.setPend (d : Dev) (cls : Nat) (l : List PendW) : Dev :=
  { d with dict := { d.dict with pend := tset d.dict.pend cls l } }

/-- The newest pending value of a key in a list of pending writes. -/
def pendFind (l : List PendW) (key : Nat) : Option Val := (l.reverse.find? fun w => w.key == key).map (·.val)

/-- The last accepted value of an entry (R19): pending, else in effect. -/
def Dev.lastV (d : Dev) (o : Obj) (i : Nat := 0) (j : Nat := 0) : Val :=
  (pendFind (d.pendOf o.cls.code) (o.key i j)).getD (d.effV o i j)

/-- The last accepted value as a number. -/
def Dev.ln (d : Dev) (o : Obj) (i : Nat := 0) : Nat := (d.lastV o i).int.toNat

/-- The last accepted bytes. -/
def Dev.lb (d : Dev) (o : Obj) (i : Nat := 0) : Bytes := (d.lastV o i).bytes

/-- Put pending writes of one class into effect: those accepted before the cycle `c` (R18); the last one wins (R17). -/
def Dev.effect (d : Dev) (cls c : Nat) (own : Nat → Bool) : Dev :=
  let due := (d.pendOf cls).filter fun w => own w.key && w.cycle < c
  let rest := (d.pendOf cls).filter fun w => !(own w.key && w.cycle < c)
  due.foldl (fun d w => d.setKey w.key w.val) (d.setPend cls rest)

/-- One CLK_CTRL cycle passes: the device adds time.increment to its time (R127). This is what the block does on an
empty queue (DESIGN CHOICE, log 2). -/
def Dev.idle (d : Dev) : Dev := { d with clock := d.clock + d.rn O.timeIncrement }

/-- The command at the front of the queue, with the queue's rest behind it. -/
def State.front (s : State) : Option (Instr × State) :=
  match s.pending with
  | [] => none
  | c :: q => some (c, { s with pending := q })

/-! ### Units -/

/-- Head `h`. -/
def Dev.hd (d : Dev) (h : Nat) : Head := tget {} d.heads h
/-- Change head `h`. -/
def Dev.modHd (d : Dev) (h : Nat) (f : Head → Head) : Dev := { d with heads := tset d.heads h (f (d.hd h)) }
/-- Layer number `n` as the Cairn unit holds it. -/
def Dev.ly (d : Dev) (n : Nat) : Layer := tget {} d.layers n
/-- Change layer `n`. -/
def Dev.modLy (d : Dev) (n : Nat) (f : Layer → Layer) : Dev := { d with layers := tset d.layers n (f (d.ly n)) }
/-- Descriptor `n` in effect. -/
def Dev.desc (d : Dev) (n : Nat) : Desc := tget {} d.activeT n
/-- Pipe `k`; pipes 16 and 17 are the spares (R24), a pipe above the grade is fused off (R4, DESIGN CHOICE, log 6). -/
def Dev.pp (d : Dev) (k : Nat) : Pipe := tget { state := if k < 16 then .active else .spare } d.pipes k
/-- Change pipe `k`. -/
def Dev.modPp (d : Dev) (k : Nat) (f : Pipe → Pipe) : Dev := { d with pipes := tset d.pipes k (f (d.pp k)) }
/-- Ingest state of stream `s`. -/
def Dev.ing (d : Dev) (s : Nat) : Ingest := tget {} d.ingest s
/-- Change the ingest state of stream `s`. -/
def Dev.modIng (d : Dev) (s : Nat) (f : Ingest → Ingest) : Dev := { d with ingest := tset d.ingest s (f (d.ing s)) }
/-- Decode context `s`. -/
def Dev.cx (d : Dev) (s : Nat) : Ctx := tget {} d.ctxs s
/-- Change decode context `s`. -/
def Dev.modCx (d : Dev) (s : Nat) (f : Ctx → Ctx) : Dev := { d with ctxs := tset d.ctxs s (f (d.cx s)) }
/-- Decode engine `e`; engine 8 is the spare (R24). -/
def Dev.eng (d : Dev) (e : Nat) : Engine := tget { state := if e < 8 then .active else .spare } d.engines e
/-- Change decode engine `e`. -/
def Dev.modEng (d : Dev) (e : Nat) (f : Engine → Engine) : Dev := { d with engines := tset d.engines e (f (d.eng e)) }
/-- Commit group `g`. -/
def Dev.grp (d : Dev) (g : Nat) : Group := tget {} d.groups g
/-- Change commit group `g`. -/
def Dev.modGrp (d : Dev) (g : Nat) (f : Group → Group) : Dev := { d with groups := tset d.groups g (f (d.grp g)) }
/-- Head link `h`. -/
def Dev.lk (d : Dev) (h : Nat) : Link := tget {} d.links h
/-- Change head link `h`. -/
def Dev.modLk (d : Dev) (h : Nat) (f : Link → Link) : Dev := { d with links := tset d.links h (f (d.lk h)) }
/-- Lane `n`. -/
def Dev.ln72 (d : Dev) (n : Nat) : Lane := tget {} d.lanes n
/-- Change lane `n`. -/
def Dev.modLn (d : Dev) (n : Nat) (f : Lane → Lane) : Dev := { d with lanes := tset d.lanes n (f (d.ln72 n)) }
/-- Ring `n`. -/
def Dev.ring (d : Dev) (n : Nat) : Ring := tget {} d.rings n
/-- Change ring `n`. -/
def Dev.modRing (d : Dev) (n : Nat) (f : Ring → Ring) : Dev := { d with rings := tset d.rings n (f (d.ring n)) }
/-- Port `p`. -/
def Dev.port (d : Dev) (p : Nat) : Port := tget {} d.ports p
/-- Change port `p`. -/
def Dev.modPort (d : Dev) (p : Nat) (f : Port → Port) : Dev := { d with ports := tset d.ports p (f (d.port p)) }
/-- Encode context `c`. -/
def Dev.ec (d : Dev) (c : Nat) : EncCtx := tget {} d.enc c
/-- Change encode context `c`. -/
def Dev.modEc (d : Dev) (c : Nat) (f : EncCtx → EncCtx) : Dev := { d with enc := tset d.enc c (f (d.ec c)) }
/-- Encode engine `e`; engine 4 is the spare (R24). -/
def Dev.ee (d : Dev) (e : Nat) : EncEngine := tget { state := if e < 4 then .active else .spare } d.encEngines e
/-- Change encode engine `e`. -/
def Dev.modEe (d : Dev) (e : Nat) (f : EncEngine → EncEngine) : Dev :=
  { d with encEngines := tset d.encEngines e (f (d.ee e)) }
/-- Panel `n`. -/
def Dev.pn (d : Dev) (n : Nat) : Panel := tget {} d.panels n
/-- Change panel `n`. -/
def Dev.modPn (d : Dev) (n : Nat) (f : Panel → Panel) : Dev := { d with panels := tset d.panels n (f (d.pn n)) }
/-- Memory channel `ch`. -/
def Dev.ch (d : Dev) (ch : Nat) : Channel := tget {} d.chans ch
/-- Change memory channel `ch`. -/
def Dev.modCh (d : Dev) (ch : Nat) (f : Channel → Channel) : Dev := { d with chans := tset d.chans ch (f (d.ch ch)) }
/-- CAN port `p`. -/
def Dev.can (d : Dev) (p : Nat) : CanPort := tget {} d.canPorts p
/-- Change CAN port `p`. -/
def Dev.modCan (d : Dev) (p : Nat) (f : CanPort → CanPort) : Dev :=
  { d with canPorts := tset d.canPorts p (f (d.can p)) }
/-- Processor `c`; core 8 is the spare (R24); service core n runs task bit n (Table 13-1). -/
def Dev.proc (d : Dev) (c : Nat) : Proc :=
  tget { state := if c = 8 then 1 else 0, tasks := if c < 8 then [c] else [] } d.procs c
/-- Change processor `c`. -/
def Dev.modProc (d : Dev) (c : Nat) (f : Proc → Proc) : Dev := { d with procs := tset d.procs c (f (d.proc c)) }
/-- The codec controller that parses stream `s` (R141, R164). -/
def Dev.ctrlOf (d : Dev) (s : Nat) : Nat := (d.cx s).ctrl.getD (s % 4)
/-- Whether it is there to parse. -/
def Dev.parses (d : Dev) (s : Nat) : Bool := d.ctrlOf s < 4 && (d.proc (9 + d.ctrlOf s)).state == 0
/-- Mailbox channel `m`: the twin channels have service core 3 as end A (Table 13-2). -/
def Dev.mb (d : Dev) (m : Nat) : Mbx :=
  tget { endA := if m < 16 then 0 else if m < 24 then 3 else 0, endB := if m < 16 then 0 else if m < 24 then 0xFE else 0xFF }
    d.mbx m
/-- Change mailbox channel `m`. -/
def Dev.modMb (d : Dev) (m : Nat) (f : Mbx → Mbx) : Dev := { d with mbx := tset d.mbx m (f (d.mb m)) }
/-- Protection unit `n`. -/
def Dev.prot (d : Dev) (n : Nat) : Prot := tget {} d.prots n
/-- Change protection unit `n`. -/
def Dev.modProt (d : Dev) (n : Nat) (f : Prot → Prot) : Dev := { d with prots := tset d.prots n (f (d.prot n)) }
/-- Check-value unit `u`. -/
def Dev.cvu (d : Dev) (u : Nat) : Cvu := tget {} d.cvus u
/-- Change check-value unit `u`. -/
def Dev.modCvu (d : Dev) (u : Nat) (f : Cvu → Cvu) : Dev := { d with cvus := tset d.cvus u (f (d.cvu u)) }

/-! ### Sending -/

/-- Append to the trace of what left the device (DESIGN CHOICE, log 8). -/
def Dev.emit (d : Dev) (o : Out) : Dev := { d with sent := d.sent ++ [o] }

/-- Whether an address literal is IPv6: it holds a colon. -/
def isV6 (a : Bytes) : Bool := a.any fun b => b == 0x3A

/-- Frame length of a UDP datagram, FCS excluded, before padding (R108: the sender writes the IP and UDP headers). -/
def udpFrameLen (dst : Bytes) (n : Nat) : Nat := 14 + (if isV6 dst then 40 else 20) + 8 + n

/-- Why a descriptor is refused (R111): length outside 14 to 9,212, ts_format 5 to 7, inserted field past the end. -/
def TxDesc.malformed (x : TxDesc) : Bool :=
  let size := [0, 10, 12, 6, 8].getD x.tsFormat 0
  x.frameLen < 14 || 9212 < x.frameLen || 5 ≤ x.tsFormat ||
    (x.tsFormat != 0 && x.frameLen < x.tsOffset + size)

/-- Complete a transmit descriptor with a status (Table 4-4). -/
def Dev.complete (d : Dev) (ring : Nat) (x : TxDesc) (status departure : Nat) : Dev :=
  (d.modRing ring fun r => { r with done := r.done ++ [{ id := x.id, status := status, departure := departure }] }).bump
    O.ringFrames ring

/-- Whether the hardware gate of R395 is closed. -/
def Dev.gated (d : Dev) : Bool := d.twin.gate

/-- A descriptor the gate of R395 refuses: a relay packet, or a FORWARD datagram. -/
def TxDesc.gateable (x : TxDesc) (ring : Nat) : Bool :=
  12 ≤ ring % 16 || (ring % 16 == 9 && beAt x.payload 0 2 == 0x5144 && beAt x.payload 3 1 == 0x30)

/-- Whether a compare with a 48-bit target fires at an instant (R135): the difference, read as signed, is zero or
negative. -/
def compareFires (target ns : Nat) : Bool :=
  let v := (target % 2 ^ 48 + 2 ^ 48 - ns % 2 ^ 48) % 2 ^ 48
  v == 0 || 2 ^ 47 ≤ v

/-- Post a transmit descriptor to a ring (R106, R109, R111, R395): while the link is down it completes at once with status
5; a malformed one, and one the closed gate refuses, with status 4. A launch time already past counts as late (R135). -/
def Dev.post (d : Dev) (ring : Nat) (x : TxDesc) : Dev :=
  let d := if x.launchEn && compareFires x.launch d.now then d.bump O.timeTriggersLate else d
  if !(d.port (ring / 16)).linkUp then d.complete ring x 5 0
  else if x.malformed || (d.gated && x.gateable ring) then d.complete ring x 4 0
  else d.modRing ring fun r => { r with tx := r.tx ++ [x] }

/-- Send a UDP datagram on a ring. -/
def Dev.sendUdp (d : Dev) (ring : Nat) (dst : Bytes) (dport : Nat) (payload : Bytes) : Dev :=
  let r := d.fresh
  r.2.post ring { id := r.1, dst := dst, dport := dport, payload := payload, frameLen := udpFrameLen dst payload.length }

/-- A QDP datagram (Table 12-4, R333): header, body, and the first 16 bytes of the HMAC under the session key; a zero
tag when there is no key. -/
def qdpDatagram (key : Bytes) (typ session seq : Nat) (seg : Bool) (body : Bytes) : Bytes :=
  let hdr := be 2 0x5144 ++ [1, byteOf typ] ++ be 4 session ++ be 4 seq ++
    be 2 (if seg then 0xFFFF else body.length) ++ [0, 0]
  hdr ++ body ++ (if key.isEmpty then zeros 16 else (hmac key (hdr ++ body)).take 16)

/-- Replace session `i` of the list. -/
def Dev.setSession (d : Dev) (se : Session) : Dev :=
  { d with dict := { d.dict with sessions := d.dict.sessions.map fun x => if x.id = se.id then se else x } }

/-- Send a message in a session with the next sequence number (R335), on ring q of its port. -/
def Dev.sendQdp (d : Dev) (se : Session) (q typ : Nat) (body : Bytes) : Dev :=
  (d.setSession { se with sendSeq := se.sendSeq + 1 }).sendUdp (16 * se.port + q) se.addr se.udp
    (qdpDatagram se.key typ se.id se.sendSeq false body)

/-! ### Raising a code -/

/-- The 32 bytes of an event record (Table 12-7). -/
def EventRec.bytes (e : EventRec) : Bytes :=
  let ns := e.time / 2 ^ 48
  le 2 e.code ++ le 2 e.p0 ++ le 2 e.p1 ++ zeros 2 ++ le 4 e.seq ++
    le 6 (ns / 1000000000) ++ le 4 (ns % 1000000000) ++ le 2 (e.time / 2 ^ 32 % 65536) ++ le 4 e.p2 ++ le 4 e.p3

/-- The sequence after `n`: after 0xFFFFFFFF comes 1 (R341). -/
def nextSeq32 (n : Nat) : Nat := if 0xFFFFFFFF ≤ n then 1 else n + 1

/-- Append a record to dict.events, a ring of 4,096 (R341). -/
def Dev.appendEvent (d : Dev) (code p0 p1 p2 p3 : Nat) : Dev :=
  let e : EventRec := ⟨code, p0 % 2 ^ 16, p1 % 2 ^ 16, p2 % 2 ^ 32, p3 % 2 ^ 32, d.dict.evNext, d.clock⟩
  let all := d.dict.events ++ [e]
  let d' := { d with dict := { d.dict with
    events := if 4096 < all.length then all.drop 1 else all, evNext := nextSeq32 d.dict.evNext } }
  let d' := d'.setN O.dictEventsLast 0 e.seq
  if 4096 < all.length then d'.bump O.dictEventsLost else d'

/-- Whether a code may be raised again: the last raise under this key is at least `ns` ago. -/
def Dev.mayRaise (d : Dev) (key ns : Nat) : Bool :=
  match tfind d.dict.once key with
  | some t => t + ns ≤ d.now
  | none => true

/-- Remember a raise under a key. -/
def Dev.noteRaise (d : Dev) (key : Nat) : Dev := { d with dict := { d.dict with once := tset d.dict.once key d.now } }

/-- The EMCY message of a record (R348): 0xFF00, the error register, then code and parameters. -/
def emcyData (e : EventRec) : Bytes :=
  le 2 0xFF00 ++ [1] ++ le 2 e.code ++ le 2 e.p0 ++ le 2 e.p1 ++ le 4 e.p2 ++ le 4 e.p3

/-- Whether a CAN port can send: enabled and not bus-off (R349). -/
def Dev.canUp (d : Dev) (p : Nat) : Bool := d.rf O.canEnable p && (d.can p).bus != 2

/-- Send the newest record as EMCY on the CAN ports whose mask selects its nibble and whose NMT state is
pre-operational or operational (R348). -/
def Dev.emcy (d : Dev) (e : EventRec) (p : Nat) : Dev :=
  let st := (d.can p).nmt
  if d.canUp p && (st == 1 || st == 2) && d.rn O.canEmcyMask p / 2 ^ (e.code / 4096) % 2 == 1 then
    ((d.modCan p fun c => { c with emcyUntil := d.now + 10000000000 }).emit
      (.can ⟨p, 0x80 + d.rn O.canNodeId p, emcyData e⟩))
  else d

/-- Deliver the newest record to the sessions subscribed to its nibble (R341) and as EMCY. -/
def Dev.deliver (d : Dev) : Dev :=
  match d.dict.events.getLast? with
  | none => d
  | some e =>
    let d := d.dict.sessions.foldl (fun d se =>
      if se.phase == 1 && se.mask / 2 ^ (e.code / 4096) % 2 == 1 then
        d.sendQdp se 9 0x21 ([1, 0, 0, 0] ++ e.bytes)
      else d) d
    (d.emcy e 0).emcy e 1

/-- Raise a code with its parameters (R341): the record is appended and delivered; when the ring overwrites a record,
DICT_EVENTS_LOST follows at most once per second. -/
def Dev.raise (d : Dev) (code : Nat) (p0 p1 p2 p3 : Nat := 0) : Dev :=
  let full := d.dict.events.length == 4096
  let d := (d.appendEvent code p0 p1 p2 p3).deliver
  if full && d.mayRaise Code.dictEventsLost 1000000000 then
    ((d.noteRaise Code.dictEventsLost).appendEvent Code.dictEventsLost 0 0 0 0).deliver
  else d

/-- Raise a code at most once per `ns` for a unit; a suppressed raise is not appended (R341). -/
def Dev.raiseOnce (d : Dev) (ns unit code : Nat) (p0 p1 p2 p3 : Nat := 0) : Dev :=
  let key := code * 65536 + unit
  if d.mayRaise key ns then (d.noteRaise key).raise code p0 p1 p2 p3 else d

/-- One second in ns. -/
abbrev sec : Nat := 1000000000

end Sys2Proof.Machine
end

