-- ==== Sys2Proof/Machine/Operands.lean ====
section
/-! DEFINITION. What the operands of the rules are computed from: grid instants (R136), head timing (R165 to R167), the
geometry of layers (Table 6-3, R191, R194), loads (R37, R151, R166), badge boxes (R70), tiles, contributors and the
two-pass split (R182, R183), line-store needs (R199), contexts' settings. -/

namespace Sys2Proof.Machine

/-- Division rounded up. -/
def cdiv (a b : Nat) : Nat := (a + b - 1) / b

/-- Division rounded half up. -/
def rdiv (a b : Nat) : Nat := (2 * a + b) / (2 * b)

/-- Signed division by a positive number, rounded half up. -/
def rdivI (a : Int) (b : Nat) : Int := (2 * a + b) / (2 * b)

/-- Bit `k` of a number. -/
def bit (n k : Nat) : Bool := n / 2 ^ k % 2 == 1

/-- A number with the bits of a list of positions set. -/
def mask (l : List Nat) : Nat := l.foldl (fun m b => m ||| 2 ^ b) 0

/-- Restrict an integer to an interval. -/
def clampI (lo hi v : Int) : Int := max lo (min hi v)

/-- The greatest of a list; 0 of none. -/
def maxL (l : List Nat) : Nat := l.foldl max 0

/-- The sum of a list. -/
def sumL (l : List Nat) : Nat := l.foldl (· + ·) 0

/-- Insert into a list ordered by a Boolean comparison. -/
def insertBy {α : Type} (le : α → α → Bool) (x : α) : List α → List α
  | [] => [x]
  | y :: r => if le x y then x :: y :: r else y :: insertBy le x r

/-- Order a list by a Boolean comparison, keeping the order of equals. -/
def sortBy {α : Type} (le : α → α → Bool) (l : List α) : List α := l.foldr (insertBy le) []

/-- DTIME in units of 2^-16 ns from ns. -/
def dtime (ns : Nat) : Int := (ns * 65536 : Nat)

/-- The 48-bit nanosecond count of an instant (R135). -/
def ns48 (ns : Nat) : Nat := ns % 2 ^ 48

/-! ### Grade (R3, R6) -/

/-- Heads in use of the grade (Table 0-1; DESIGN CHOICE, log 6). -/
def Dev.gradeHeads (d : Dev) : Nat :=
  if d.rn O.identityProductCode = 0x1600 then 16 else if d.rn O.identityProductCode = 0x2400 then 24 else 32

/-- Stream contexts of the grade. -/
def Dev.gradeStreams (d : Dev) : Nat := 4 * d.gradeHeads

/-- The heads in use. -/
def Dev.allHeads (d : Dev) : List Nat := List.range d.gradeHeads

/-- The stream contexts in use. -/
def Dev.allStreams (d : Dev) : List Nat := List.range d.gradeStreams

/-- State of a pipe: those above the grade's limit are fused off (R4). -/
def Dev.pipeState (d : Dev) (k : Nat) : UnitState :=
  if d.gradeHeads / 2 ≤ k && k < 16 then .fusedOff else (d.pp k).state

/-- State of a decode engine. -/
def Dev.engState (d : Dev) (e : Nat) : UnitState :=
  if d.gradeHeads / 4 ≤ e && e < 8 then .fusedOff else (d.eng e).state

/-- The codes of Tables 5-9 and 6-12. -/
def UnitState.code : UnitState → Nat
  | .active => 0 | .spare => 1 | .retired => 2 | .fusedOff => 3

/-! ### The grid (R136) -/

/-- Grid instant k of group g. -/
def Dev.gridAt (d : Dev) (g : Nat) (k : Int) : Int :=
  d.rn O.gridPhase g + k * ((d.rn O.gridRateDen g * 10 ^ 9 : Nat) : Int) / (d.rn O.gridRateNum g : Int)

/-- The greatest k whose grid instant is at or before an instant. -/
def Dev.gridK (d : Dev) (g t : Nat) : Int :=
  (((t : Int) - d.rn O.gridPhase g + 1) * (d.rn O.gridRateNum g : Int) - 1) / ((d.rn O.gridRateDen g * 10 ^ 9 : Nat) : Int)

/-- The first grid instant after an instant whose k is a multiple of n (R167). -/
def Dev.gridNext (d : Dev) (g t n : Nat) : Nat :=
  (d.gridAt g ((d.gridK g t / (n : Int) + 1) * (n : Int))).toNat

/-- The grid period in ns, rounded down (the greatest phase plus 1 by Table 4-10). -/
def Dev.gridPeriod (d : Dev) (g : Nat) : Nat := d.rn O.gridRateDen g * 10 ^ 9 / d.rn O.gridRateNum g

/-- The start of pitch n counted from an instant: pitches are the grid periods of group 0 (R174). -/
def Dev.nextPitch (d : Dev) : Nat := d.gridNext 0 d.now 1

/-! ### Head timing -/

/-- The group of head h in effect. -/
def Dev.groupOf (d : Dev) (h : Nat) : Nat := d.rn O.headGroup h

/-- The heads of group g. -/
def Dev.headsOf (d : Dev) (g : Nat) : List Nat := d.allHeads.filter fun h => d.groupOf h == g

/-- Head h is enabled. -/
def Dev.headOn (d : Dev) (h : Nat) : Bool := h < d.gradeHeads && d.rf O.headEnable h

/-- Active width and height. -/
def Dev.headW (d : Dev) (h : Nat) : Nat := d.rn O.headHActive h
/-- See `headW`. -/
def Dev.headH (d : Dev) (h : Nat) : Nat := d.rn O.headVActive h

/-- The code of head[h].link_state (Table 8-4). -/
def LinkState.code : LinkState → Nat
  | .disabled => 0 | .absent => 1 | .reading => 2 | .training => 3 | .running => 4 | .untrained => 5 | .down => 6

/-- Whether the head runs its fallback timing (R167): bit 1 of head[h].degraded (R231). -/
def Dev.inFallback (d : Dev) (h : Nat) : Bool := bit (d.lk h).degraded 1

/-- The divisor of the head's frame rate: 1, or fallback_divisor. -/
def Dev.headDiv (d : Dev) (h : Nat) : Nat := if d.inFallback h then d.rn O.headFallbackDivisor h else 1

/-- The divisor that holds for a frame that starts at an instant: fallback frames start where k is a multiple of the
divisor (R167). -/
def Dev.divAt (d : Dev) (h t : Nat) : Nat :=
  if d.gridK (d.groupOf h) t % (d.headDiv h : Int) == 0 then d.headDiv h else 1

/-- Line length in CLK_PIPE cycles of a frame that starts at an instant (R167). -/
def Dev.lineCycles (d : Dev) (h t : Nat) : Nat := d.rn O.headLineCycles h * d.divAt h t

/-- Whether the timing objects of a head are valid (R165). -/
def Dev.timingOk (d : Dev) (h : Nat) : Bool :=
  let ht := d.rn O.headHTotal h; let vt := d.rn O.headVTotal h
  let ha := d.headW h; let va := d.headH h
  ha + 80 ≤ ht && va + 8 ≤ vt &&
    d.rn O.headHSync h ≤ d.rn O.headHStart h && d.rn O.headHStart h + ha ≤ ht &&
    d.rn O.headVSync h ≤ d.rn O.headVStart h && d.rn O.headVStart h + va ≤ vt &&
    2 * ht ≤ d.rn O.headLineCycles h

/-- Full trim capacity in cycles at a line length (R137). -/
def Dev.trimCap (d : Dev) (h lc : Nat) : Nat :=
  lc * d.rn O.gridTrimLimit (d.groupOf h) / 1000 * (d.rn O.headVTotal h - d.headH h)

/-- Whether the nominal frame length fits the grid (R138): |v_total · line_cycles − period · 1.2| ≤ capacity, with the
period den · 10^9 / num ns taken exactly. -/
def Dev.gridFits (d : Dev) (h : Nat) : Bool :=
  let g := d.groupOf h; let lc := d.rn O.headLineCycles h
  let num := d.rn O.gridRateNum g
  let nominal : Int := (d.rn O.headVTotal h * lc * num : Nat)
  let period : Int := (d.rn O.gridRateDen g * 1200000000 : Nat)
  (nominal - period).natAbs ≤ d.trimCap h lc * num

/-- An instant in sixths of a ns. -/
def six (ns : Nat) : Nat := 6 * ns

/-- The instant, in sixths of a ns, of active line y of a frame that starts at `start` with lines of `lc` cycles (R45,
R46): a CLK_PIPE cycle is five sixths of a ns. -/
def lineAt (start lc y : Nat) : Nat := six start + 5 * lc * y

/-! ### Layers (Tables 6-3 to 6-5) -/

/-- A rectangle: columns x0 to x1 − 1, lines y0 to y1 − 1. -/
structure Rect where
  x0 : Nat
  y0 : Nat
  x1 : Nat
  y1 : Nat
deriving DecidableEq, Repr

/-- Whether two rectangles share a pixel. -/
def Rect.meets (a b : Rect) : Bool := a.x0 < b.x1 && b.x0 < a.x1 && a.y0 < b.y1 && b.y0 < a.y1

/-- Whether a rectangle holds a pixel. -/
def Rect.holds (a : Rect) (x y : Nat) : Bool := a.x0 ≤ x && x < a.x1 && a.y0 ≤ y && y < a.y1

/-- Control bits of Table 6-4. -/
def Desc.enabled (e : Desc) : Bool := bit e.control 15
/-- See `Desc.enabled`. -/
def Desc.locked (e : Desc) : Bool := bit e.control 14
/-- See `Desc.enabled`. -/
def Desc.holdClean (e : Desc) : Bool := bit e.control 11
/-- See `Desc.enabled`. -/
def Desc.fit (e : Desc) : Nat := e.control / 512 % 4
/-- See `Desc.enabled`. -/
def Desc.bivouacOk (e : Desc) : Bool := bit e.control 8
/-- See `Desc.enabled`. -/
def Desc.mirrorH (e : Desc) : Bool := bit e.control 7
/-- See `Desc.enabled`. -/
def Desc.mirrorV (e : Desc) : Bool := bit e.control 6

/-- Class live, of Table 6-3. -/
def Desc.live (e : Desc) : Bool := e.cls == 2
/-- Class live or informative: evaluated by the Cairn unit (R65). -/
def Desc.evaluated (e : Desc) : Bool := e.cls == 1 || e.cls == 2
/-- Opaque by R182. -/
def Desc.opaque? (e : Desc) : Bool := e.blend == 0 || (e.blend == 1 && e.planeAlpha == 1023)
/-- A fetched kind: video, graphic or write-back. -/
def Desc.fetched (e : Desc) : Bool := e.kind < 3

/-- Whether two descriptors have the same fields, the tag excepted (R212). -/
def Desc.sameShape (a b : Desc) : Bool := { a with tag := 0 } == { b with tag := 0 }

/-- The visible destination rectangle on an active area W × H, none when clipped away entirely. -/
def Desc.vis (e : Desc) (W H : Nat) : Option Rect :=
  let x0 := max 0 e.dstX; let y0 := max 0 e.dstY
  let x1 := min (W : Int) (e.dstX + e.dstW); let y1 := min (H : Int) (e.dstY + e.dstH)
  if x0 < x1 && y0 < y1 then some ⟨x0.toNat, y0.toNat, x1.toNat, y1.toNat⟩ else none

/-- The visible rectangle of a descriptor on its head in the table in effect. -/
def Dev.visOf (d : Dev) (e : Desc) : Option Rect := e.vis (d.headW e.head) (d.headH e.head)

/-- The descriptors in effect that name head h, by number. -/
def Dev.descsOn (d : Dev) (h : Nat) : List (Nat × Desc) := d.activeT.filter fun p => p.2.head == h

/-- The enabled layers of head h, in z order, lowest first. -/
def Dev.layersOn (d : Dev) (h : Nat) : List (Nat × Desc) :=
  sortBy (fun a b => a.2.z ≤ b.2.z) ((d.descsOn h).filter fun p => p.2.enabled)

/-- The device with a group's table in place of what is in effect: what the device would be after that commit. -/
def Dev.withTable (d : Dev) (tb : GTable) : Dev :=
  let d := tb.objs.foldl (fun d o => d.setKey o.1 o.2) d
  { d with activeT := tb.descs.foldl (fun t e => tset t e.1 e.2) d.activeT }

/-- A head of a Blank device that shows diagnostic patterns and nothing else (R426; DEDUCED, log 39). -/
def Dev.diagnostic (d : Dev) (h : Nat) : Bool :=
  d.power.life == 0 && !(d.layersOn h).isEmpty && (d.layersOn h).all fun p => p.2.kind == 4

/-- A head that is to show the card of R169: it is shed, or no configuration image is in effect (R448). -/
def Dev.onCard (d : Dev) (h : Nat) : Bool := (d.hd h).shed || (d.flash.cfgInEffect.isNone && !d.diagnostic h)

/-- Whether the life-cycle state lets a head emit frames (R426). -/
def Dev.mayEmit (d : Dev) (h : Nat) : Bool := d.power.life != 4 && (d.power.life != 0 || d.diagnostic h)

/-- A record of composition.slots (R186): width, height, format, buffers, base, stride. -/
structure SlotDef where
  w : Nat
  h : Nat
  format : Nat
  bufs : Nat
  base : Nat
  stride : Nat
deriving DecidableEq, Repr

/-- Content slot n as composition.slots in effect describes it. -/
def Dev.slotDef (d : Dev) (n : Nat) : SlotDef :=
  let b := slice (d.rb O.compositionSlots) (32 * n) 32
  ⟨leAt b 0 2, leAt b 2 2, leAt b 4 1, leAt b 5 1, leAt b 8 8, leAt b 16 4⟩

/-- Size of the source of a layer (Table 6-5). -/
def Dev.srcSize (d : Dev) (e : Desc) : Nat × Nat :=
  if e.kind = 0 then (d.rn O.streamMaxWidth e.source, d.rn O.streamMaxHeight e.source)
  else if e.kind = 1 then ((d.slotDef e.source).w, (d.slotDef e.source).h)
  else (d.headW e.source, d.headH e.source)

/-- The effective source crop: width and height 0 read as the whole source (R191). -/
def Dev.cropOf (d : Dev) (e : Desc) : Rect :=
  let s := d.srcSize e
  let w := if e.srcW = 0 then s.1 else e.srcW
  let h := if e.srcH = 0 then s.2 else e.srcH
  ⟨e.srcX, e.srcY, e.srcX + w, e.srcY + h⟩

/-- The pre-decimation factor of R194: the smallest of 1, 2, 4, 8 with source ≤ 2 · D · destination. -/
def decim (src dst : Nat) : Nat :=
  if src ≤ 2 * dst then 1 else if src ≤ 4 * dst then 2 else if src ≤ 8 * dst then 4 else 8

/-- The decimated size. -/
def decSize (src dst : Nat) : Nat := cdiv src (decim src dst)

/-- The step of R195. -/
def filterStep (src dst : Nat) : Nat := decSize src dst * 65536 / dst

/-- Whether the filter of a direction is bypassed (R195). -/
def bypass (src dst : Nat) : Bool := filterStep src dst == 65536 && decim src dst == 1

/-- The line-store need of a layer with so many vertical taps (R199). -/
def Dev.lsNeed (d : Dev) (e : Desc) (taps : Nat) : Nat :=
  match d.visOf e with
  | none => 0
  | some v =>
    if !e.fetched then 0
    else
      let c := d.cropOf e
      let h := c.y1 - c.y0
      let l := if bypass h e.dstH then 2 else taps + cdiv (decSize h e.dstH) e.dstH
      cdiv (v.x1 - v.x0) 64 * 64 * l

/-- Whether a layer is present on active line y (R199). -/
def Dev.lsPresent (d : Dev) (e : Desc) (y : Nat) : Bool :=
  match d.visOf e with
  | none => false
  | some v => v.y0 ≤ y + 64 && y < v.y1

/-- The taps of layer n: what a list says, else 6. -/
def tapsIn (l : List (Nat × Nat)) (n : Nat) : Nat := tget 6 l n

/-- The lines on which the sum of needs of a head can be greatest: those on which a layer becomes present. -/
def Dev.lsLines (d : Dev) (h : Nat) : List Nat :=
  0 :: (d.layersOn h).filterMap fun p => (d.visOf p.2).map fun v => v.y0 - 64

/-- The need of head h on line y with given taps (R199). -/
def Dev.lsOnLine (d : Dev) (h y : Nat) (taps : List (Nat × Nat)) : Nat :=
  if d.headOn h then
    sumL (((d.layersOn h).filter fun p => d.lsPresent p.2 y).map fun p => d.lsNeed p.2 (tapsIn taps p.1))
  else 0

/-- P_h, the line-store need of head h (R199). -/
def Dev.lsHead (d : Dev) (h : Nat) (taps : List (Nat × Nat)) : Nat := maxL ((d.lsLines h).map fun y => d.lsOnLine h y taps)

/-- The taps in effect of every layer. -/
def Dev.tapsNow (d : Dev) : List (Nat × Nat) := d.layers.map fun p => (p.1, p.2.taps)

/-! ### Badge boxes (R70) -/

/-- Badge height, padding and glyph height for a layer of so many destination lines. -/
def badgeH (lines : Nat) : Nat := max 24 (min 96 (lines / 8))

/-- Width of a badge box of height hb with n glyphs. -/
def badgeW (hb n : Nat) : Nat :=
  let p := hb / 8; let g := hb - 2 * p
  if n = 0 then 2 * p + g else 3 * p + g + n * (5 * g / 8)

/-- The badge box of a layer with n glyphs, clipped to its visible rectangle. -/
def Dev.badgeBox (d : Dev) (e : Desc) (n : Nat) : Option Rect :=
  (d.visOf e).map fun v =>
    let hb := badgeH e.dstH
    ⟨v.x0, v.y0, min v.x1 (v.x0 + badgeW hb n), min v.y1 (v.y0 + hb)⟩

/-! ### Tiles and contributors (R182, R183, R210) -/

/-- Tile columns and rows of a head. -/
def Dev.tileCols (d : Dev) (h : Nat) : Nat := cdiv (d.headW h) 64
/-- See `tileCols`. -/
def Dev.tileRows (d : Dev) (h : Nat) : Nat := cdiv (d.headH h) 64

/-- The pixels of a tile. -/
def Dev.tileRect (d : Dev) (h c r : Nat) : Rect :=
  ⟨64 * c, 64 * r, min (d.headW h) (64 * c + 64), min (d.headH h) (64 * r + 64)⟩

/-- A layer with its visible rectangle. -/
abbrev VLayer := Nat × Desc × Rect

/-- The enabled visible layers of a head, in z order. -/
def Dev.vlayers (d : Dev) (h : Nat) : List VLayer :=
  (d.layersOn h).filterMap fun p => (d.visOf p.2).map fun v => (p.1, p.2, v)

/-- The contributors of a pixel (R182), in z order. -/
def contributors (ls : List VLayer) (x y : Nat) : List VLayer :=
  let cov := ls.filter fun l => l.2.2.holds x y
  cov.foldl (fun acc l => if l.2.1.opaque? then [l] else acc ++ [l]) []

/-- Pixels at which the contributors of a tile take every combination they take in it: the tile's corner and where
layers begin or end in it. -/
def tilePoints (ls : List VLayer) (t : Rect) : List (Nat × Nat) :=
  let xs := (t.x0 :: ls.flatMap fun l => [l.2.2.x0, l.2.2.x1]).filter fun x => t.x0 ≤ x && x < t.x1
  let ys := (t.y0 :: ls.flatMap fun l => [l.2.2.y0, l.2.2.y1]).filter fun y => t.y0 ≤ y && y < t.y1
  ys.eraseDups.flatMap fun y => xs.eraseDups.map fun x => (x, y)

/-- A tile's list: its contributors in z order. -/
def tileList (ls : List VLayer) (t : Rect) : List VLayer :=
  let seen := (tilePoints ls t).map fun p => contributors ls p.1 p.2
  ls.filter fun l => seen.any fun c => c.any fun m => m.1 == l.1

/-- Whether a layer may be flattened (R210). -/
def Dev.flattenable (d : Dev) (e : Desc) : Bool :=
  d.rf O.bivouacEnable && e.enabled && e.bivouacOk && !e.live && (e.kind == 1 || e.kind == 3 || e.kind == 4)

/-- The longest sequence of members of a predicate that are neighbours in a list; the first of equals. -/
def longestRun {α : Type} (p : α → Bool) : List α → List α → List α → List α
  | [], cur, best => if best.length < cur.length then cur else best
  | x :: r, cur, best =>
    if p x then longestRun p r (cur ++ [x]) best
    else longestRun p r [] (if best.length < cur.length then cur else best)

/-- The run of a tile (R210): numbers of its members in z order; empty when there is none. -/
def Dev.tileRun (d : Dev) (ls : List VLayer) (t : Rect) : List Nat :=
  (longestRun (fun l : VLayer => d.flattenable l.2.1) (tileList ls t) [] []).map (·.1)

/-- The z values that the contributors of a pixel stand at, members of the run as one at the z of its topmost member
(R183). -/
def standing (ls : List VLayer) (run : List Nat) (x y : Nat) : List Nat :=
  let c := contributors ls x y
  let top := maxL ((ls.filter fun l => run.contains l.1).map (·.2.1.z))
  let own := (c.filter fun l => !run.contains l.1).map (·.2.1.z)
  if c.any fun l => run.contains l.1 then top :: own else own

/-- How a tile is drawn (R183): in one pass, in two passes split at Z, or not at all. -/
inductive Passes where
  | one
  | two (z : Nat)
  | none
deriving DecidableEq, Repr

/-- The passes of a tile and the greatest count of contributors in it. -/
def tilePasses (ls : List VLayer) (run : List Nat) (t : Rect) : Passes × Nat :=
  let pts := (tilePoints ls t).map fun p => standing ls run p.1 p.2
  let most := maxL (pts.map (·.length))
  if most ≤ 4 then (.one, most)
  else
    let low (z : Nat) := pts.all fun c => (c.filter fun v => v ≤ z).length ≤ 4
    let zs := ls.map (·.2.1.z)
    match (zs.filter low).max? with
    | Option.none => (.none, most)
    | some z => if pts.all fun c => (c.filter fun v => z < v).length ≤ 4 then (.two z, most) else (.none, most)

/-- The tiles of a head in raster order, with their run and passes. -/
def Dev.tiles (d : Dev) (h : Nat) : List (Nat × Nat × List Nat × Passes × Nat) :=
  let ls := d.vlayers h
  (List.range (d.tileRows h)).flatMap fun r => (List.range (d.tileCols h)).map fun c =>
    let t := d.tileRect h c r
    let run := d.tileRun ls t
    let p := tilePasses ls run t
    (c, r, run, p.1, p.2)

/-- The tiles of a head drawn in two passes. -/
def Dev.twoPass (d : Dev) (h : Nat) : List (Nat × Nat) :=
  (d.tiles h).filterMap fun t => match t.2.2.2.1 with
    | .two _ => some (t.1, t.2.1)
    | _ => none

/-- The pixels of the two-pass tiles (R184). -/
def Dev.twoPassPixels (d : Dev) (h : Nat) : Nat :=
  sumL ((d.twoPass h).map fun p => let t := d.tileRect h p.1 p.2; (t.x1 - t.x0) * (t.y1 - t.y0))

/-- The load of a head in kpx/s, rounded up (R166); a disabled head counts 0 (R170). -/
def Dev.headLoad (d : Dev) (h : Nat) : Nat :=
  if d.headOn h then
    cdiv ((d.rn O.headHTotal h * d.headH h + d.twoPassPixels h) * d.rn O.gridRateNum (d.groupOf h))
      (d.rn O.gridRateDen (d.groupOf h) * 1000)
  else 0

/-- The key of the copy of a tile's run (R212). -/
def Dev.copyKey (d : Dev) (h c r : Nat) (run : List Nat) : CopyKey :=
  { head := h, col := c, row := r
    members := run.map fun n => (n, { d.desc n with tag := 0 })
    geom := [d.headW h, d.headH h, d.rn O.headEncoding h, d.rn O.headTransfer h] }

/-! ### Ports of pipes (R170) -/

/-- The pipe and port of head h, a move it awaits counted as made (R171). -/
def Dev.pipeOf (d : Dev) (h : Nat) : Nat × Nat := (d.hd h).remap.getD (d.rn O.headPipe h, d.rn O.headPort h)

/-- The heads on a pipe's ports. -/
def Dev.onPipe (d : Dev) (k : Nat) : List Nat := d.allHeads.filter fun h => (d.pipeOf h).1 == k

/-- Put head h on port q of pipe k; a head that held the port loses it. -/
def Dev.place (d : Dev) (h k q : Nat) : Dev :=
  let d := d.allHeads.foldl (fun d o =>
    if o ≠ h && d.rn O.headPipe o == k && d.rn O.headPort o == q then (d.setN O.headPipe o 0xFF).setN O.headPort o 0xFF
    else d) d
  (d.setN O.headPipe h k).setN O.headPort h q

/-- Whether a port is free: no enabled, unshed head is assigned to it. -/
def Dev.portFree (d : Dev) (k q : Nat) : Bool :=
  !(d.allHeads.any fun h =>
    d.pipeOf h == (k, q) && d.headOn h && !(d.hd h).shed)

/-- The load of a pipe: its heads' loads (R37). -/
def Dev.pipeLoad (d : Dev) (k : Nat) : Nat :=
  sumL (((d.onPipe k).filter fun h => !(d.hd h).shed).map d.headLoad)

/-- The line-store need of a pipe with given taps (R199). -/
def Dev.lsPipe (d : Dev) (k : Nat) (taps : List (Nat × Nat)) : Nat :=
  sumL (((d.onPipe k).filter fun h => !(d.hd h).shed).map fun h => d.lsHead h taps)

/-! ### Work of an engine -/

/-- The intervals of work with one that ends now, those of the last second kept. -/
def workDone (l : List (Nat × Nat)) (since now : Nat) : List (Nat × Nat) :=
  (since, now) :: l.filter fun w => now < w.2 + 1000000000

/-- The share of the last second spent on intervals of work, in per cent. -/
def workShare (l : List (Nat × Nat)) (now : Nat) : Nat :=
  let from_ := now - 1000000000
  min 100 (openRound 147 (sumL (l.map fun w => w.2 - max from_ w.1)) 10000000)

/-! ### Action regions (Table 10-3) -/

/-- An action region. -/
structure Region where
  panel : Nat
  kind : Nat
  confirm : Nat
  hold : Nat
  action : Nat
  witness : Nat
  x : Nat
  y : Nat
  w : Nat
  h : Nat
deriving DecidableEq, Repr

/-- The key under which the register file holds record r of touch.actions, above the keys of the entries. -/
def actionKey (r : Nat) : Nat := 0x1000000 + r

/-- The fields of a record. -/
def regionOf (b : Bytes) : Region :=
  ⟨leAt b 2 1, leAt b 3 1, leAt b 4 1, leAt b 6 2, leAt b 8 2, leAt b 10 2, leAt b 12 2, leAt b 14 2, leAt b 16 2, leAt b 18 2⟩

/-- The bytes of an unused region (DEDUCED, log 35). -/
def noRegion (r : Nat) : Bytes := le 2 r ++ [0xFF] ++ zeros 7 ++ le 2 0xFFFF ++ zeros 20

/-- The bytes of region r in effect. -/
def Dev.regionBytes (d : Dev) (r : Nat) : Bytes := ((tfind d.dict.eff (actionKey r)).map Val.bytes).getD (noRegion r)

/-- Action region r in effect. -/
def Dev.actionRegion (d : Dev) (r : Nat) : Region := regionOf (d.regionBytes r)

/-! ### Decode contexts -/

/-- The load of stream s from values given as a function (R151). -/
def streamLoad (w h rate : Nat) : Nat := cdiv (w * h * rate) 100000

/-- The load of stream s in effect; 0 in UNBOUND and SHED. -/
def Dev.ctxLoad (d : Dev) (s : Nat) : Nat :=
  let c := d.cx s
  if c.state == .unbound || c.state == .shed then 0
  else streamLoad (d.rn O.streamMaxWidth s) (d.rn O.streamMaxHeight s) (d.rn O.streamFrameRate s)

/-- The contexts an engine serves. -/
def Dev.engCtxs (d : Dev) (e : Nat) : List Nat := d.allStreams.filter fun s => (d.cx s).engine == e

/-- The load of an engine. -/
def Dev.engLoad (d : Dev) (e : Nat) : Nat := sumL ((d.engCtxs e).map d.ctxLoad)

/-- The engines in use. -/
def Dev.activeEngines (d : Dev) : List Nat := (List.range 9).filter fun e => d.engState e == .active

/-- The active encode engines. -/
def Dev.activeEnc (d : Dev) : List Nat := (List.range 5).filter fun e => (d.ee e).state == .active

end Sys2Proof.Machine
end

