-- ==== Sys2Proof/Machine/CairnOps.lean ====
section
/-! DEFINITION. The Cairn unit's evaluation of a layer (R41 to R66): selection at the cut-off, age, bound, state, the
codes of Table 2-4. -/

namespace Sys2Proof.Machine

/-- The codes of cairn.layer_status byte 0. -/
def LState.code : LState → Nat
  | .none => 0 | .live => 1 | .stale => 2 | .suspectFrozen => 3 | .lost => 4 | .noLive => 5 | .impaired => 6

/-- The code raised on entering a state (Table 2-14). -/
def LState.event : LState → Nat
  | .none => 0 | .live => Code.layerToLive | .stale => Code.layerToStale
  | .suspectFrozen => Code.layerToSuspectFrozen | .lost => Code.layerToLost | .noLive => Code.layerToNoLive
  | .impaired => Code.layerToImpaired

/-- The states in which a live layer carries the hatch (Table 2-3). -/
def LState.hatched : LState → Bool
  | .stale | .suspectFrozen | .lost | .noLive => true
  | _ => false

/-- The number after an alive or pitch counter (R83): after 0xFFFFFFFF comes 1. -/
def aliveNext (n : Nat) : Nat := if 0xFFFFFFFF ≤ n then 1 else n + 1

/-- The bound of a layer in us (R50). -/
def Dev.boundOf (d : Dev) (e : Desc) : Nat :=
  1000 * (if e.ageBound ≠ 0 then e.ageBound
    else if e.kind = 0 then d.rn O.streamAgeBound e.source
    else if e.kind = 1 then d.rn O.cairnGraphicBound
    else d.rn O.cairnWritebackBound)

/-- Age in us, rounded up and saturated, from instants in sixths of a ns and an uncertainty in us (R45). -/
def ageUs (first6 time6 unc : Nat) : Nat := min 0xFFFFFFFF (cdiv (first6 + 6000 * unc - time6) 6000)

/-- Whether a stream is lost at an instant in sixths of a ns (R65). -/
def Dev.streamLost (d : Dev) (s : Nat) (at6 : Nat) : Bool :=
  let g := d.ing s
  six (max (g.lastEnd.getD 0) g.boundAt + 1000000 * d.rn O.streamLossTimeout s) ≤ at6

/-- Whether a tag belongs to the context's present run: stamped since its last binding or restart (R146). -/
def Dev.tagCurrent (d : Dev) (s : Nat) (t : Tag) : Bool := (d.ing s).boundAt = 0 || (d.ing s).boundAt < t.completion

/-- The slots of a stream that hold a picture eligible at a cut-off (R47). -/
def Dev.eligible (d : Dev) (s : Nat) (clean : Bool) (cutoff6 : Nat) : List (Nat × Tag) :=
  (d.cx s).slots.filterMap fun sl => match sl.tag with
    | some t =>
      if t.stream = s && six t.completion < cutoff6 && (!clean || t.integrity == .clean) && d.tagCurrent s t then
        some (sl.id, t)
      else none
    | none => none

/-- The newest of tagged slots: greatest sequence. -/
def newest (l : List (Nat × Tag)) : Option (Nat × Tag) :=
  l.foldl (fun b x => match b with
    | some y => if y.2.sequence < x.2.sequence then some x else b
    | none => some x) none

/-- Selection for a video layer (R47, R49): the picture kept from the previous frame must still satisfy the
taint policy, for under policy 1 only clean pictures are eligible (R61). -/
def Dev.selectVideo (d : Dev) (e : Desc) (prev : Option Shown) (cutoff6 : Nat) : Option Shown :=
  let kept : List (Nat × Tag) := match prev with
    | some (.pic s sl t) =>
      if s = e.source && d.tagCurrent s t && (!e.holdClean || t.integrity == .clean) then [(sl, t)] else []
    | _ => []
  (newest (kept ++ d.eligible e.source e.holdClean cutoff6)).map fun p => .pic e.source p.1 p.2

/-- The newest write-back frame of a head complete before a cut-off (R190). -/
def Dev.newestWb (d : Dev) (h cutoff6 : Nat) : Option WbBuf :=
  ((d.hd h).wb.filter fun b => match b.completion with
    | some c => six c < cutoff6
    | none => false).foldl (fun a b => match a with
      | some x => if x.started < b.started then some b else a
      | none => some b) none

/-- Selection for a write-back layer. -/
def Dev.selectWb (d : Dev) (e : Desc) (prev : Option Shown) (cutoff6 : Nat) : Option Shown :=
  match d.newestWb e.source cutoff6 with
  | some b => some (.frame e.source b.id b.carried)
  | none => match prev with
    | some (.frame h b c) => if h = e.source then some (.frame h b c) else none
    | _ => none

/-- The tile selection instant of a frame, 64 lines before its start, in sixths of a ns (R213). -/
def tileSel (start lc : Nat) : Nat := six start - 320 * lc

/-- The copy of a run in use in the frame with a tile selection instant: the newest completed before it (R213). -/
def Dev.copyAt (d : Dev) (key : CopyKey) (sel6 : Nat) : Option Copy :=
  (d.bivouac.copies.filter fun c => c.key == key && six c.completed < sel6).foldl (fun b c => match b with
    | some x => if x.completed ≤ c.completed then some c else b
    | none => some c) none

/-- The copies that contain layer n and are in use in a frame. -/
def Dev.copiesWith (d : Dev) (n sel6 : Nat) : List Copy :=
  d.bivouac.copies.filter fun c => (c.key.members.any fun m => m.1 == n && m.2.sameShape (d.desc n)) &&
    d.copyAt c.key sel6 == some c

/-- The data time of a copy: the oldest among its informative members (R211). -/
def Copy.dataTime (c : Copy) : Option Nat :=
  (c.posts.filterMap fun p =>
    if c.key.members.any fun m => m.1 == p.1 && m.2.cls == 1 then some p.2.2 else none).min?

/-- Selection for a graphic layer: its slot's newest post; for an informative member drawn from copies the data time is
the oldest of the copies' (R62, R187, R214). -/
def Dev.selectPost (d : Dev) (n : Nat) (e : Desc) (sel6 : Nat) : Option Shown :=
  match (d.slots.find? fun p => p.1 == e.source).bind (·.2.post) with
  | none => none
  | some (b, t) =>
    let ts := if e.cls = 1 then (d.copiesWith n sel6).filterMap Copy.dataTime else []
    some (.post e.source b (match ts.min? with
      | some m => m
      | none => t))

/-- The state of a layer by the order of R65. -/
def stateOf (noContent shed lost frozen stale impaired : Bool) : LState :=
  if noContent || shed then .noLive
  else if lost then .lost
  else if frozen then .suspectFrozen
  else if stale then .stale
  else if impaired then .impaired
  else .live

/-- The source class a loaded tone-map set is for (Table 7-6 byte 2). -/
def Dev.toneClass (d : Dev) (m : Nat) : Nat := leAt (d.rb O.toneData m) 2 1

/-- Colour classes in the codes of Table 7-6. -/
def ColourClass.code : ColourClass → Nat
  | .sdr709 => 0 | .sdr2020 => 1 | .pq => 2 | .hlg => 3

/-- The slot of a stream a shown picture lies in. -/
def Dev.slotOf (d : Dev) (s id : Nat) : Option Slot := (d.cx s).slots.find? fun sl => sl.id == id

/-- The evaluation of layer n, with descriptor e, for a frame of its head that starts at `start` with lines of `lc`
cycles (R45 to R66). None when no line of it is visible. Static layers select and are in no state. -/
def Dev.evalLayer (d : Dev) (n : Nat) (e : Desc) (prev : Option Shown) (start lc alive : Nat) : Option LEval :=
  match d.visOf e with
  | none => none
  | some v =>
    let first := lineAt start lc v.y0
    let cut := first - 320 * lc
    let sel := if e.kind = 0 then d.selectVideo e prev cut
      else if e.kind = 1 then d.selectPost n e (tileSel start lc)
      else if e.kind = 2 then d.selectWb e prev cut
      else none
    let bound := d.boundOf e
    let base : LEval :=
      { tFirst := first, cutoff := cut, tEnd := lineAt start lc v.y1, state := .none, age := 0, bound := bound,
        shown := sel, clamped := false, figure := 0, alive := alive, live := e.live, mismatch := false }
    if !e.evaluated then some base
    else match sel with
      | some (.pic s id t) =>
        let age := ageUs first (six t.cap.time) t.cap.uncertainty
        let st := stateOf false ((d.cx s).state == .shed) (d.streamLost s cut) t.frozen (bound < age)
          (t.integrity != .clean && !e.holdClean)
        let cls := ((d.slotOf s id).map fun sl => sl.colour.cls.code).getD 0
        some { base with state := st, age := age, clamped := t.cap.clamped
                         figure := if st == .suspectFrozen then ageUs first (six t.runStart) 0 else age
                         mismatch := e.tone != 0xFF && d.toneClass e.tone != cls }
      | some (.post _ _ tm) =>
        if tm = 0 then some { base with state := .noLive }
        else
          let late := cut < six tm
          let age := ageUs first (if late then cut else six tm) 0
          some { base with state := if bound < age then .stale else .live, age := age, clamped := late, figure := age }
      | some (.frame _ _ carried) =>
        let age := ageUs first (six carried) 0
        some { base with state := if bound < age then .stale else .live, age := age, figure := age }
      | none => some { base with state := .noLive }

/-- The newest evaluation of layer n. -/
def Dev.lastEval (d : Dev) (n : Nat) : Option LEval := (d.ly n).hist.head?

/-- What layer n showed in the frame before. -/
def Dev.lastShown (d : Dev) (n : Nat) : Option Shown := (d.lastEval n).bind (·.shown)

/-- Raise what an evaluation raises (R62, R66, R207): the state code once per transition, the clamp of a graphic data
time and the tone mismatch at most once per second. -/
def Dev.raiseEval (d : Dev) (n h : Nat) (slot : Nat) (prev : LState) (ev : LEval) : Dev :=
  let d := match ev.shown with
    | some (.post _ _ _) => if ev.clamped then d.raiseOnce sec slot Code.graphicTimeAhead slot else d
    | _ => d
  let d := if ev.mismatch then d.raiseOnce sec n Code.pixToneMismatch h n else d
  if ev.state == prev || ev.state == .none then d
  else d.raise ev.state.event h n prev.code ev.age

/-- Take an evaluation as layer n's newest, with its codes. -/
def Dev.takeEval (d : Dev) (n h slot : Nat) (ev : LEval) : Dev :=
  let prev := ((d.lastEval n).map (·.state)).getD .none
  (d.raiseEval n h slot prev ev).modLy n fun l => { l with
    hist := (ev :: l.hist).take 8
    notLive := if ev.state == .live then l.notLive else (ev.tFirst :: l.notLive).take 4 }

/-- The pending table of a group that is due at an instant (R176). -/
def Dev.dueTable (d : Dev) (g : Nat) (start : Nat) : Option GTable :=
  match (d.grp g).due with
  | some t => if t.due.getD 0 ≤ start then some t else none
  | none => none

/-- The start of head h's next frame. -/
def Dev.nextStart (d : Dev) (h : Nat) : Nat :=
  match (d.hd h).nextStart with
  | some t => t
  | none => d.gridNext (d.groupOf h) d.now 1

/-- A head is composed (R168, R169): enabled and not shed. -/
def Dev.composed (d : Dev) (h : Nat) : Bool := d.headOn h && !(d.hd h).shed

/-- Distance of two numbers. -/
def gapOf (a b : Nat) : Nat := (a - b) + (b - a)

/-- The evaluation of layer n for head h's present frame, under the table in effect. -/
def Dev.evalNow (d : Dev) (n : Nat) : Option LEval :=
  let e := d.desc n
  let hd := d.hd e.head
  if e.enabled && e.head < 32 && d.composed e.head && hd.inFrame then
    d.evalLayer n e (d.lastShown n) hd.start hd.lineCycles (hd.alive.getD 0)
  else none

/-- Whether a descriptor binds its layer anew (R49): another head, kind, source or class, or enabled from disabled
(DEDUCED, log 23). -/
def Desc.rebinds (old new : Desc) : Bool :=
  old.head != new.head || old.kind != new.kind || old.source != new.source || old.cls != new.cls ||
    (!old.enabled && new.enabled)

/-- The alive counter of a frame of head h that starts at an instant (R83): 0 where output starts, else one more. A
Second goes on from what its records say. -/
def Dev.aliveFor (d : Dev) (h t : Nat) : Nat :=
  match (d.hd h).alive with
  | some a =>
    if (d.lk h).state == .running && !(d.hd h).emitting && d.divAt h t == d.headDiv h && d.twin.role != .second then 0
    else aliveNext a
  | none => 0

/-- The evaluation of layer n for its head's next frame under `dv`, the device with the table that governs it. -/
def Dev.evalNext (dv : Dev) (n : Nat) (prev : Option Shown) : Option LEval :=
  let e := dv.desc n
  if e.enabled && e.head < 32 && dv.composed e.head then
    dv.evalLayer n e prev (dv.nextStart e.head) (dv.lineCycles e.head (dv.nextStart e.head))
      (dv.aliveFor e.head (dv.nextStart e.head))
  else none

/-- The device as the next frame of head h sees it: with the group's due table when it applies by then, and whether it
does. -/
def Dev.governing (d : Dev) (h : Nat) : Dev × Bool :=
  match (d.hd h).late with
  | some t => (d.withTable t, true)
  | none => match d.dueTable (d.groupOf h) (d.nextStart h) with
    | some t => (d.withTable t, true)
    | none => (d, false)

/-- The head layer n belongs to under the table that governs the next frame: its group's due table, else the table in
effect. -/
def Dev.headOfNext (d : Dev) (n : Nat) : Nat :=
  match ((List.range 8).filterMap fun g => (d.grp g).due).findSome? fun t => tfind t.descs n with
  | some e => e.head
  | none => match (d.heads.filterMap fun p => p.2.late).findSome? fun t => tfind t.descs n with
    | some e => e.head
    | none => (d.desc n).head

/-- The evaluation of layer n for its head's next frame, under the table that governs it. -/
def Dev.evalAhead (d : Dev) (n : Nat) : Option LEval :=
  let dv := (d.governing (d.headOfNext n)).1
  dv.evalNext n (if (d.desc n).rebinds (dv.desc n) then none else d.lastShown n)

/-- The cut-off of layer n (R47, R65): the evaluation belongs to the frame whose cut-off of the layer is nearest to
this instant. One made for the frame a due table governs is held until the table's instant (R173). -/
def Dev.cutOff (d : Dev) (n : Nat) : Dev :=
  let gv := d.governing (d.headOfNext n)
  let a := d.evalNow n
  let b := d.evalAhead n
  let pick := match a, b with
    | some x, some y => if gapOf x.cutoff (six d.now) ≤ gapOf y.cutoff (six d.now) then (some x, none) else (none, some y)
    | some x, none => (some x, none)
    | none, y => (none, y)
  match pick with
  | (some x, _) => d.takeEval n (d.desc n).head (d.desc n).source x
  | (none, some y) =>
    if gv.2 then d.modLy n fun l => { l with heldEval := some y }
    else d.takeEval n (d.desc n).head (d.desc n).source y
  | _ => d

/-- Whether a slot is pinned (R44): some layer shows its picture in a frame whose last line of the layer has not left,
or in its newest evaluation, or an encode engine holds it. -/
def Dev.picPinned (d : Dev) (s id : Nat) : Bool :=
  let shows : Option Shown → Bool := fun x => match x with
    | some (.pic s' i _) => s' == s && i == id
    | _ => false
  (d.layers.any fun p => shows (p.2.heldEval.bind (·.shown)) || shows (p.2.hist.head?.bind (·.shown)) ||
      p.2.hist.any fun ev => shows ev.shown && six d.now < ev.tEnd) ||
    (d.enc.any fun p => match p.2.pend with
      | some { input := .pic s' i _, .. } => s' == s && i == id
      | _ => false) ||
    d.encEngines.any fun p => match p.2.busy with
      | some (_, { input := .pic s' i _, .. }, _) => s' == s && i == id
      | _ => false

/-- Layer n is bound anew: what it showed before no longer counts (R49). -/
def Dev.rebindLayer (d : Dev) (n : Nat) : Dev := d.modLy n fun l => { l with hist := [], heldEval := none }

end Sys2Proof.Machine
end

