-- ==== Sys2Proof/Machine/Memory.lean ====
section
/-! DEFINITION. The content of DRAM: a list of (address, byte) pairs with strictly rising addresses and no byte that
equals what an unlisted address reads as, which is 0 (DESIGN CHOICE, log 15). Every memory operation is one of these. -/

namespace Sys2Proof.Machine

/-- What an address with no entry reads as (R431: the wipe writes zeros; DESIGN CHOICE, log 15). -/
def Memory.blank : Byte := 0

/-- The byte at an address. -/
def Memory.peek : List Host.Cell → Nat → Byte
  | [], _ => Memory.blank
  | (k, v) :: r, a => if k = a then v else Memory.peek r a

/-- Write one byte, keeping the canonical form. -/
def Memory.poke : List Host.Cell → Nat → Byte → List Host.Cell
  | [], a, b => if b = Memory.blank then [] else [(a, b)]
  | (k, v) :: r, a, b =>
    if a < k then (if b = Memory.blank then (k, v) :: r else (a, b) :: (k, v) :: r)
    else if a = k then (if b = Memory.blank then r else (a, b) :: r)
    else (k, v) :: Memory.poke r a b

/-- `n` bytes from an address. -/
def Memory.read (m : List Host.Cell) (a n : Nat) : Bytes := (List.range n).map fun i => Memory.peek m (a + i)

/-- Write bytes from an address upwards. -/
def Memory.write : List Host.Cell → Nat → Bytes → List Host.Cell
  | m, _, [] => m
  | m, a, b :: r => Memory.write (Memory.poke m a b) (a + 1) r

/-- Write zeros to the addresses of a region: its entries go. -/
def Memory.clear (m : List Host.Cell) (lo hi : Nat) : List Host.Cell := m.filter fun c => !(lo ≤ c.1 && c.1 < hi)

/-- The canonical form: addresses strictly rise from a bound, no entry is blank. -/
def Memory.above : Nat → List Host.Cell → Bool
  | _, [] => true
  | lo, (k, v) :: r => lo ≤ k && v != Memory.blank && Memory.above (k + 1) r

/-- The canonical form of the content of DRAM. -/
def Memory.wf (m : List Host.Cell) : Bool := Memory.above 0 m

end Sys2Proof.Machine
end

