-- ==== Sys2Proof/Machine/Pixel.lean ====
section
/-! DEFINITION. The pixel path (chapter 7, R191 to R209), whiteout and badges (R68 to R71), head-level overdraws and the
out-of-service card (R35, R59, R169, R171), and the emitted components of a frame (R80, R209). Everything is a function
of one pixel's place. -/

namespace Sys2Proof.Machine

/-- R′, G′, B′ (or Y, Cb, Cr) as 10-bit code values. -/
abbrev Rgb := Nat × Nat × Nat

/-- A colour and its alpha, 10 bits each. -/
abbrev Rgba := Rgb × Nat

/-- A packed colour (R69). -/
def unpackRgb (v : Nat) : Rgb := (v / 2 ^ 20 % 1024, v / 1024 % 1024, v % 1024)

/-- Apply a function to each component. -/
def map3 (f : Nat → Nat) (c : Rgb) : Rgb := (f c.1, f c.2.1, f c.2.2)

/-- Apply a function to the components of two colours. -/
def zip3 (f : Nat → Nat → Nat) (a b : Rgb) : Rgb := (f a.1 b.1, f a.2.1 b.2.1, f a.2.2 b.2.2)

/-- Restrict to a 10-bit code value. -/
def clamp10 (v : Int) : Nat := (clampI 0 1023 v).toNat

/-! ### Stages 1 and 2: fetch and chroma upsampling -/

/-- A sample of a plane; beyond its edge the edge sample (R193). -/
def sampleAt (rows : List (List Nat)) (x y : Int) : Nat :=
  let row := rows.getD (clampI 0 (rows.length - 1) y).toNat []
  row.getD (clampI 0 (row.length - 1) x).toNat 0

/-- A sample in 10 bits: 8-bit samples are shifted left by 2. -/
def to10 (depth v : Nat) : Nat := if depth = 8 then v * 4 else v

/-- The chroma of column c at luma line y: three quarters of the nearer chroma line (R193). -/
def chromaLine (depth : Nat) (rows : List (List Nat)) (c : Int) (y : Nat) : Nat :=
  let near : Int := (y / 2 : Nat)
  let far : Int := if y % 2 = 0 then near - 1 else near + 1
  (3 * to10 depth (sampleAt rows c near) + to10 depth (sampleAt rows c far) + 2) / 4

/-- Chroma at a luma place (R193). -/
def chromaAt (depth : Nat) (rows : List (List Nat)) (x y : Nat) : Nat :=
  let c : Int := (x / 2 : Nat)
  if x % 2 = 0 then chromaLine depth rows c y
  else (chromaLine depth rows c y + chromaLine depth rows (c + 1) y + 1) / 2

/-- Y, Cb, Cr of a picture in 4:4:4 and 10 bits; 0 in every component beyond the picture (R180). -/
def planesAt (p : Planes) (x y : Nat) : Rgb :=
  if x < p.w && y < p.h then
    (to10 p.depth (sampleAt p.y x y), chromaAt p.depth p.cb x y, chromaAt p.depth p.cr x y)
  else (0, 0, 0)

/-- An 8-bit component or alpha in 10 bits (R208). -/
def expand8 (v : Nat) : Nat := v * 4 + v / 64

/-- A 2-bit alpha in 10 bits (R208). -/
def expand2 (v : Nat) : Nat := 341 * v

/-- A pixel of a graphic buffer (R186): bytes R, G, B, A, or a 32-bit word with R in bits 9:0 (DESIGN CHOICE, log 24). -/
def graphicAt (dram : List Host.Cell) (sd : SlotDef) (buf x y : Nat) : Rgba :=
  let b := Memory.read dram (sd.base + buf * sd.stride * sd.h + y * sd.stride + 4 * x) 4
  if sd.format = 0 then ((expand8 (leAt b 0 1), expand8 (leAt b 1 1), expand8 (leAt b 2 1)), expand8 (leAt b 3 1))
  else
    let v := ofLe b
    ((v % 1024, v / 1024 % 1024, v / 2 ^ 20 % 1024), expand2 (v / 2 ^ 30 % 4))

/-! ### Stages 3 to 6: pre-decimation and the scaler -/

/-- A source as a function of a place in the mirrored crop, with its size. -/
structure Src where
  w : Nat
  h : Nat
  px : Nat → Nat → Rgba

/-- The mean of pixels, each component rounded half up. -/
def meanPx (l : List Rgba) : Rgba :=
  let n := l.length
  ((rdiv (sumL (l.map (·.1.1))) n, rdiv (sumL (l.map (·.1.2.1))) n, rdiv (sumL (l.map (·.1.2.2))) n),
    rdiv (sumL (l.map (·.2))) n)

/-- Group `i` of D samples, cut at the size. -/
def groupOf (D size i : Nat) : List Nat := (List.range D).filterMap fun j => if i * D + j < size then some (i * D + j) else none

/-- Stage 3: box averaging by D_h × D_v, horizontally and then vertically (R194, DESIGN CHOICE, log 24). -/
def Src.decimate (s : Src) (dh dv : Nat) : Src :=
  let ph := fun x y => if dh = 1 then s.px x y else meanPx ((groupOf dh s.w x).map fun i => s.px i y)
  let pv := fun x y => if dv = 1 then ph x y else meanPx ((groupOf dv s.h y).map fun i => ph x i)
  ⟨cdiv s.w dh, cdiv s.h dv, pv⟩

/-- Position and phase of destination sample i (R195). -/
def filterPos (step i : Nat) : Int × Nat :=
  let x : Int := (i * step + step / 2 : Nat) - 32768
  (x / 65536, (x / 1024 % 64).toNat)

/-- The sum of products of a filter, rounded and clamped (R195). -/
def filterSum (l : List (Int × Nat)) : Nat := clamp10 ((l.foldl (fun a p => a + p.1 * (p.2 : Int)) 0 + 256) / 512)

/-- Filter the samples of a line with taps of an offset. -/
def filterPx (taps a : Nat) (coef : Nat → Nat → Int) (size step i : Nat) (f : Nat → Rgba) : Rgba :=
  let np := filterPos step i
  let l := (List.range taps).map fun k =>
    (coef np.2 k, f (clampI 0 ((size : Int) - 1) (np.1 + k - a)).toNat)
  let one (g : Rgba → Nat) := filterSum (l.map fun p => (p.1, g p.2))
  ((one (·.1.1), one (·.1.2.1), one (·.1.2.2)), one (·.2))

/-- The class of a built-in coefficient set for a decimated size and a destination (R196). -/
def coefClass (src' dst : Nat) : Nat :=
  if src' ≤ dst then 0 else if 4 * src' ≤ 5 * dst then 1 else if 2 * src' ≤ 3 * dst then 2 else 3

/-- A two's-complement 16-bit word. -/
def s16 (v : Nat) : Int := if 2 ^ 15 ≤ v then (v : Int) - 2 ^ 16 else v

/-- Offset of a table of Table 7-3 by its taps. -/
def coefOffset (taps : Nat) : Nat :=
  if taps = 8 then 16 else if taps = 6 then 1040 else if taps = 4 then 1808 else 2320

/-- Coefficient k of phase p with so many taps: of a loaded set, or of the built-in class (R196, R197; DESIGN CHOICE, log 18). -/
def Dev.coefOf (d : Dev) (set cls taps p k : Nat) : Int :=
  if set = 0xFF then Config.coefBuiltin cls taps p k
  else s16 (leAt (d.rb O.coefData set) (coefOffset taps + (p * taps + k) * 2) 2)

/-- Stages 4 to 6 on a decimated source (R195). -/
def Dev.scale (d : Dev) (e : Desc) (orig : Rect) (s : Src) (taps : Nat) : Src :=
  let ow := orig.x1 - orig.x0; let oh := orig.y1 - orig.y0
  let hs := filterStep ow e.dstW; let vs := filterStep oh e.dstH
  let ph := fun x y =>
    if bypass ow e.dstW then s.px x y
    else filterPx 8 3 (d.coefOf e.coef (coefClass s.w e.dstW) 8) s.w hs x fun i => s.px i y
  let pv := fun x y =>
    if bypass oh e.dstH then ph x y
    else filterPx taps (taps / 2 - 1) (d.coefOf e.coef (coefClass s.h e.dstH) taps) s.h vs y fun i => ph x i
  ⟨e.dstW, e.dstH, pv⟩

/-! ### Stage 7: conversion to R′G′B′, and its reverse (R203, R209; PRESUMED, log 25) -/

/-- K_r and K_b of a matrix in units of 10^-4. -/
def matrixK (m2020 : Bool) : Int × Int := if m2020 then (2627, 593) else (2126, 722)

/-- YCbCr to R′G′B′, each component rounded half up. -/
def yuvToRgb (m2020 full : Bool) (c : Rgb) : Rgb :=
  let k := matrixK m2020
  let kg := 10000 - k.1 - k.2
  let sy : Int := if full then 1023 else 876
  let sc : Int := if full then 1023 else 896
  let y : Int := (c.1 : Int) - (if full then 0 else 64)
  let u : Int := (c.2.1 : Int) - 512
  let v : Int := (c.2.2 : Int) - 512
  let den := sy * sc * 10000
  let r := 1023 * (y * sc * 10000 + 2 * (10000 - k.1) * v * sy)
  let b := 1023 * (y * sc * 10000 + 2 * (10000 - k.2) * u * sy)
  let g := 1023 * (y * sc * 10000 * kg - 2 * k.2 * (10000 - k.2) * u * sy - 2 * k.1 * (10000 - k.1) * v * sy)
  (clamp10 (rdivI r den.toNat), clamp10 (rdivI g (den * kg).toNat), clamp10 (rdivI b den.toNat))

/-- R′G′B′ to YCbCr at narrow range, rounded half up. -/
def rgbToYuv (m2020 : Bool) (c : Rgb) : Rgb :=
  let k := matrixK m2020
  let kg := 10000 - k.1 - k.2
  let y10 : Int := k.1 * c.1 + kg * c.2.1 + k.2 * c.2.2
  let y := 64 + rdivI (876 * y10) (10000 * 1023)
  let cb := 512 + rdivI (896 * (10000 * (c.2.2 : Int) - y10)) (2 * (10000 - k.2) * 1023).toNat
  let cr := 512 + rdivI (896 * (10000 * (c.1 : Int) - y10)) (2 * (10000 - k.1) * 1023).toNat
  ((clampI 64 940 y).toNat, (clampI 64 960 cb).toNat, (clampI 64 960 cr).toNat)

/-! ### Stage 8: tone mapping (R203 to R207) -/

/-- Head signal codes: SDR-709, PQ, HLG. The built-in table of a pairing (Table 7-5), none for equal ones. -/
def builtinTone (cls signal : Nat) : Option Nat :=
  match cls, signal with
  | 0, 1 => some 0 | 0, 2 => some 1 | 1, 0 => some 2 | 1, 1 => some 3 | 1, 2 => some 4
  | 2, 0 => some 5 | 2, 2 => some 6 | 3, 0 => some 7 | 3, 1 => some 8
  | _, _ => none

/-- Tetrahedral interpolation of one output component (R206): `node i j k` is the cube. -/
def tetra (node : Nat → Nat → Nat → Nat) (r g b : Nat) : Nat :=
  let cr := r / 4096; let cg := g / 4096; let cb := b / 4096
  let axes := sortBy (fun (p q : Nat × Nat) => q.2 ≤ p.2) [(0, r % 4096), (1, g % 4096), (2, b % 4096)]
  let f (i : Nat) := (axes.getD i (0, 0)).2
  let a (i : Nat) := (axes.getD i (0, 0)).1
  let go (l : List Nat) := node (cr + l.count 0) (cg + l.count 1) (cb + l.count 2)
  rdiv ((4096 - f 0) * go [] + (f 0 - f 1) * go [a 0] + (f 1 - f 2) * go [a 0, a 1] + f 2 * go [a 0, a 1, a 2]) 4096

/-- A table of Table 7-6 applied to a pixel (R206): `w` gives the 16-bit word at a byte offset. -/
def toneApply (w : Nat → Nat) (c : Rgb) : Rgb :=
  let inp (i v : Nat) := w (32 + 2048 * i + 2 * v)
  let r := inp 0 c.1; let g := inp 1 c.2.1; let b := inp 2 c.2.2
  let out (i : Nat) :=
    let u := tetra (fun x y z => w (6176 + ((x * 17 + y) * 17 + z) * 6 + 2 * i)) r g b
    let j := u / 64; let f := u % 64
    let e (n : Nat) := w (35654 + 2048 * i + 2 * min n 1023)
    (e j * (64 - f) + e (j + 1) * f + 32) / 64
  (out 0, out 1, out 2)

/-- Stage 8 of a layer of a source class on a head (R204, R205, R207). -/
def Dev.toneMap (d : Dev) (e : Desc) (cls signal : Nat) (c : Rgb) : Rgb :=
  let built := match builtinTone cls signal with
    | some m => toneApply (fun o => (Config.toneBuiltin m o).toNat) c
    | none => c
  if e.tone = 0xFF then built
  else if e.kind = 0 && d.toneClass e.tone != cls then built
  else toneApply (fun o => leAt (d.rb O.toneData e.tone) o 2) c

/-! ### Stage 9: whiteout and badge (R68 to R71) -/

/-- The hatch at a place of a head (R68). -/
def Dev.hatchAt (d : Dev) (x y : Nat) : Rgb :=
  unpackRgb (if (x + y) % 16 < 4 then d.rn O.cairnWhiteoutStripe else d.rn O.cairnWhiteoutGround)

/-- Icons by number: 1 stale, 2 frozen, 3 lost, 4 no live content, 5 impaired; a glyph is 100 and its ASCII code. -/
def LState.icon : LState → Nat
  | .stale => 1 | .suspectFrozen => 2 | .lost => 3 | .noLive => 4 | .impaired => 5 | _ => 0

/-- The characters of a figure in us (R71). -/
def figureText (us : Nat) : List Nat :=
  let tenths := us / 100000
  let dig (n : Nat) := 48 + n
  if 1000 ≤ tenths then [62, 57, 57, 115]
  else (if 100 ≤ tenths then [dig (tenths / 100)] else []) ++ [dig (tenths / 10 % 10), 46, dig (tenths % 10), 115]

/-- The colour of a badge at a place in its box of height hb: icon cell, then glyphs (R70). -/
def Dev.badgeAt (d : Dev) (hb icon : Nat) (text : List Nat) (x y : Nat) : Rgb :=
  let p := hb / 8; let g := hb - 2 * p; let wg := 5 * g / 8
  let gx := 2 * p + g
  let ink :=
    if y < p || p + g ≤ y then false
    else if p ≤ x && x < p + g then Config.badgeInk icon g (x - p) (y - p)
    else if gx ≤ x && x < gx + text.length * wg then
      Config.badgeInk (100 + text.getD ((x - gx) / wg) 0) g ((x - gx) % wg) (y - p)
    else false
  unpackRgb (d.rn (if ink then O.cairnBadgeGlyph else O.cairnBadgeBack))

/-- The figure a state shows (Table 2-6): none for NO_LIVE. -/
def LEval.text (ev : LEval) : List Nat := if ev.state == .noLive then [] else figureText ev.figure

/-- Whether an evaluation draws a badge, and whether the hatch (Table 2-3). -/
def LEval.badged (ev : LEval) : Bool := ev.state != .none && ev.state != .live
/-- See `LEval.badged`. -/
def LEval.hatched (ev : LEval) : Bool := ev.live && ev.state.hatched

/-- The overdraw of a layer at a head place, none where it draws nothing of its own. -/
def Dev.overdrawAt (d : Dev) (e : Desc) (ev : LEval) (x y : Nat) : Option Rgb :=
  let badge := if ev.badged then
      match d.badgeBox e ev.text.length with
      | some b => if b.holds x y then some (d.badgeAt (badgeH e.dstH) ev.state.icon ev.text (x - b.x0) (y - b.y0)) else none
      | none => none
    else none
  match badge with
  | some c => some c
  | none => if ev.hatched then some (d.hatchAt x y) else none

/-! ### One layer's pixel -/

/-- The source of a layer as fetched: what it shows, in the mirrored crop (stages 1 and 2). -/
def Dev.fetch (d : Dev) (dram : List Host.Cell) (e : Desc) (sh : Option Shown) : Option (Src × Colour × Bool) :=
  let c := d.cropOf e
  let w := c.x1 - c.x0; let h := c.y1 - c.y0
  let at_ (f : Nat → Nat → Rgba) : Src :=
    ⟨w, h, fun x y => f (c.x0 + (if e.mirrorH then w - 1 - x else x)) (c.y0 + (if e.mirrorV then h - 1 - y else y))⟩
  match sh with
  | some (.pic s id _) =>
    (d.slotOf s id).map fun sl => (at_ fun x y => (planesAt sl.planes x y, 1023), sl.colour, true)
  | some (.frame hs id _) =>
    ((d.hd hs).wb.find? fun b => b.id == id).map fun b =>
      let tr := d.rn O.headTransfer hs
      (at_ fun x y => (planesAt b.planes x y, 1023),
        { cls := if tr = 1 then .pq else if tr = 2 then .hlg else .sdr709, matrix2020 := tr != 0 }, true)
  | some (.post n b t) =>
    if t = 0 then none
    else some (at_ fun x y => graphicAt dram (d.slotDef n) b x y, {}, false)
  | none => none

/-- A layer's pixel at a head place before overdraw: colour and alpha in the head's signal (stages 1 to 8, and the
division of blend 3). -/
def Dev.layerPx (d : Dev) (dram : List Host.Cell) (n : Nat) (e : Desc) (sh : Option Shown) (x y : Nat) : Option Rgba :=
  let dx := ((x : Int) - e.dstX).toNat; let dy := ((y : Int) - e.dstY).toNat
  if e.kind = 3 then some (unpackRgb e.colour, 1023)
  else if e.kind = 4 then
    some (unpackRgb ((Config.unstated 180 [e.source, e.colour, dx, dy]).toNat % 2 ^ 30), 1023)
  else (d.fetch dram e sh).map fun f =>
    let c := d.cropOf e
    let s := f.1.decimate (decim (c.x1 - c.x0) e.dstW) (decim (c.y1 - c.y0) e.dstH)
    let p := (d.scale e c s (d.ly n).taps).px dx dy
    let rgb := if f.2.2 then yuvToRgb f.2.1.matrix2020 f.2.1.fullRange p.1 else p.1
    let rgb := if e.blend = 3 then map3 (fun v => if p.2 = 0 then 0 else min 1023 (rdiv (v * 1023) p.2)) rgb else rgb
    (d.toneMap e f.2.1.cls.code (d.rn O.headTransfer e.head) rgb, p.2)

/-- Stage 10 (R208): the layer's value s with its alpha onto the result below. -/
def blendPx (e : Desc) (s : Rgba) (below : Rgb) : Rgb :=
  if e.blend = 0 then s.1
  else
    let a := if e.blend = 1 then e.planeAlpha else (s.2 * e.planeAlpha + 511) / 1023
    zip3 (fun v b => (v * a + b * (1023 - a) + 511) / 1023) s.1 below

/-! ### A head's pixel -/

/-- The evaluation of layer n for the frame of its head that started at `start`. -/
def Dev.evalFor (d : Dev) (n : Nat) (e : Desc) (start lc : Nat) : Option LEval :=
  match d.visOf e with
  | some v => (d.ly n).hist.find? fun ev => ev.tFirst == lineAt start lc v.y0
  | none => none

/-- One layer onto the result below it, with its overdraw. -/
def Dev.drawLayer (d : Dev) (dram : List Host.Cell) (l : VLayer) (ev : Option LEval) (x y : Nat) (below : Rgb) : Rgb :=
  let e := l.2.1
  match ev.bind fun v => d.overdrawAt e v x y with
  | some c => c
  | none => match d.layerPx dram l.1 e (ev.bind (·.shown)) x y with
    | some p => blendPx e p below
    | none => below

/-- How a tile's run is drawn (R211, R212): from its copy, from its members, or in the hatch. -/
inductive RunDraw where
  | copy (c : Copy)
  | direct
  | hatch
deriving DecidableEq, Repr

/-- See `RunDraw`. -/
def Dev.runDraw (d : Dev) (h start lc c r : Nat) (ls : List VLayer) (run : List Nat) : RunDraw :=
  match d.copyAt (d.copyKey h c r run) (tileSel start lc) with
  | some cp => .copy cp
  | none => match (tilePasses ls [] (d.tileRect h c r)).1 with
    | .none => .hatch
    | _ => .direct

/-- A copy drawn as one layer (R211). -/
def Copy.draw (c : Copy) (x y : Nat) (below : Rgb) : Rgb :=
  match (c.pixels.getD (y % 64) [])[x % 64]? with
  | some (r, g, b, a) => zip3 (fun v w => v + (w * (1023 - a) + 511) / 1023) (r, g, b) below
  | none => below

/-- The pipe's output of head h at a pixel, R′G′B′: contributors in z order, the run of the tile in the place of its
topmost member (R182, R211). A line of a failed cache read is hatch (R216). -/
def Dev.pipePx (d : Dev) (dram : List Host.Cell) (h start lc : Nat) (x y : Nat) : Rgb :=
  let ls := d.vlayers h
  let c := x / 64; let r := y / 64
  let run := d.tileRun ls (d.tileRect h c r)
  let con := contributors ls x y
  let ev (l : VLayer) := d.evalFor l.1 l.2.1 start lc
  if (d.hd h).bivLines.any fun b => b.1 ≤ y && y ≤ b.2 then d.hatchAt x y
  else if run.isEmpty then con.foldl (fun b l => d.drawLayer dram l (ev l) x y b) (0, 0, 0)
  else
    let rd := d.runDraw h start lc c r ls run
    let members := con.filter fun l => run.contains l.1
    let top := (members.getLast?).map (·.1)
    con.foldl (fun b l =>
      if !run.contains l.1 then d.drawLayer dram l (ev l) x y b
      else match rd with
        | .direct => d.drawLayer dram l (ev l) x y b
        | .hatch => if top = some l.1 then d.hatchAt x y else b
        | .copy cp =>
          if top = some l.1 then
            members.foldl (fun b m => match (ev m).bind fun v => d.overdrawAt m.2.1 v x y with
              | some o => o
              | none => b) (cp.draw x y b)
          else b) (0, 0, 0)

/-- A head-level overdraw (R59, R171): the hatch with a badge 96 px high, centred. -/
def Dev.wholeHatch (d : Dev) (h icon : Nat) (text : List Nat) (x y : Nat) : Rgb :=
  let w := badgeW 96 text.length
  let x0 := (d.headW h - w) / 2; let y0 := (d.headH h - 96) / 2
  if x0 ≤ x && x < x0 + w && y0 ≤ y && y < y0 + 96 then d.badgeAt 96 icon text (x - x0) (y - y0) else d.hatchAt x y

/-- The out-of-service card (R169). -/
def Dev.cardAt (d : Dev) (h x y : Nat) : Rgb :=
  let x0 := (d.headW h - 96) / 2; let y0 := (d.headH h - 96) / 2
  let dx0 := (d.headW h - 90) / 2; let dy0 := y0 + 108
  let ink :=
    if x0 ≤ x && x < x0 + 96 && y0 ≤ y && y < y0 + 96 then Config.badgeInk 4 96 (x - x0) (y - y0)
    else if dx0 ≤ x && x < dx0 + 90 && dy0 ≤ y && y < dy0 + 72 then
      Config.badgeInk (148 + (if (x - dx0) / 45 = 0 then h / 10 else h % 10)) 72 ((x - dx0) % 45) (y - dy0)
    else false
  unpackRgb (d.rn (if ink then O.cairnBadgeGlyph else O.cairnBadgeBack))

/-- What head h emits at a pixel, R′G′B′: the card, a head-level overdraw, a late run, or the pipe's output. A pixel of a
late run is hatch or LOST badge, which of the two the spec does not place (R35, DEDUCED, log 26). -/
def Dev.emitPx (d : Dev) (h : Nat) (pipe : Nat → Nat → Rgb) (x y : Nat) : Rgb :=
  let hd := d.hd h
  if hd.card then d.cardAt h x y
  else if hd.overdraw.isSome then d.wholeHatch h 2 (figureText ((hd.start - hd.detSince) / 1000)) x y
  else if hd.wholeHatch || (match hd.faultLine with | some l => l ≤ y | none => false) then d.wholeHatch h 3 [] x y
  else if hd.under.any fun u => u.1 == y && u.2.1 ≤ x && x < u.2.2 then
    let u := (Config.unstated 35 [h, x, y]).toNat % 3
    if u = 0 then d.hatchAt x y
    else unpackRgb (d.rn (if u = 1 then O.cairnBadgeBack else O.cairnBadgeGlyph))
  else pipe x y

/-! ### The frame (R80, R188, R209) -/

/-- A head's components at a pixel after output conversion (R209). Encoding 3 carries on a pair the mean chroma. -/
def Dev.outPx (d : Dev) (h : Nat) (f : Nat → Nat → Rgb) (x y : Nat) : List Nat :=
  let enc := d.rn O.headEncoding h
  let m := d.rn O.headTransfer h != 0
  let c := f x y
  if enc = 0 then [c.1 / 4, c.2.1 / 4, c.2.2 / 4]
  else if enc = 1 then [c.1, c.2.1, c.2.2]
  else
    let u := rgbToYuv m c
    if enc = 2 then [u.1, u.2.1, u.2.2]
    else
      let a := rgbToYuv m (f (x / 2 * 2) y); let b := rgbToYuv m (f (x / 2 * 2 + 1) y)
      [u.1, if x % 2 = 0 then rdiv (a.2.1 + b.2.1) 2 else rdiv (a.2.2 + b.2.2) 2]

/-- CRC-32C over a frame in raster order, each component as 2 bytes (R80). -/
def frameCrc (w h : Nat) (px : Nat → Nat → List Nat) : Nat :=
  ((List.range h).foldl (fun c y => (List.range w).foldl (fun c x =>
    (px x y).foldl (fun c v => crcUpdate c (be 2 v)) c) c) 0xFFFFFFFF) ^^^ 0xFFFFFFFF

/-- The 4:2:0 planes of a write-back frame (R188). -/
def Dev.wbPlanes (d : Dev) (h : Nat) (f : Nat → Nat → Rgb) : Planes :=
  let enc := d.rn O.headEncoding h
  let eight := d.rn O.headWriteback h == 1
  let w := d.headW h; let ht := d.headH h
  let yuv (x y : Nat) : Rgb :=
    if enc < 2 then rgbToYuv (d.rn O.headTransfer h != 0) (f x y)
    else match d.outPx h f x y with
      | [a, b, c] => (a, b, c)
      | [a, b] => (a, b, b)
      | _ => (0, 0, 0)
  let q (v : Nat) := if eight then min 255 (rdiv v 4) else v
  let chroma (g : Rgb → Nat) (even : Bool) := (List.range (ht / 2)).map fun j => (List.range (w / 2)).map fun i =>
    let x := 2 * i; let y := 2 * j
    if enc = 3 then
      let xx := if even then x else x + 1
      q (rdiv (g (yuv xx y) + g (yuv xx (y + 1))) 2)
    else q (rdiv (g (yuv x y) + g (yuv (x + 1) y) + g (yuv x (y + 1)) + g (yuv (x + 1) (y + 1))) 4)
  { w := w, h := ht, depth := if eight then 8 else 10
    y := (List.range ht).map fun y => (List.range w).map fun x => q (yuv x y).1
    cb := chroma (·.2.1) true, cr := chroma (·.2.2) false }

end Sys2Proof.Machine
end

