-- ==== Sys2Proof/Machine/HealthOps.lean ====
section
/-! DEFINITION. The health service's shared operations (R411 to R416, R424): fault records, the classification of a
fault as transient or lasting, the engagement of spares. The units' own chapters call them. -/

namespace Sys2Proof.Machine

/-- The unit's own event: code and parameters, as a fault record keeps it (Table 15-3). -/
structure Own where
  code : Nat := 0
  p0 : Nat := 0
  p1 : Nat := 0
  p2 : Nat := 0
  p3 : Nat := 0
deriving DecidableEq, Repr

/-- Raise a unit's own event. -/
def Dev.raiseOwn (d : Dev) (o : Own) : Dev := d.raise o.code o.p0 o.p1 o.p2 o.p3

/-- twin.epoch_held as a fault record and a witness record carry it (Table 15-3, R96): 0 alone or without lead. -/
def Dev.leadEpoch (d : Dev) : Nat := if d.twin.role == .lead then d.twin.held else 0

/-- The key of a unit: kind · 65536 + instance (R411). -/
def unitKey (kind inst : Nat) : Nat := kind * 65536 + inst

/-- Append a fault record (R424): the ring holds 262,144; overwriting raises FAULT_LOG_WRAPPED at most once per hour. -/
def Dev.logFault (d : Dev) (cls kind inst : Nat) (own : Own) (reason action spare : Nat) : Dev :=
  let hs := d.health
  let r : FaultRec :=
    { seq := hs.logSeq, cls := cls, kind := kind, inst := inst, code := own.code, reason := reason, action := action,
      spare := spare, time := d.clock, pitch := d.pitch, epoch := d.leadEpoch, boot := d.rn O.lifecycleBootCount,
      p0 := own.p0 % 2 ^ 16, p1 := own.p1 % 2 ^ 16, p2 := own.p2 % 2 ^ 32, p3 := own.p3 % 2 ^ 32 }
  let all := hs.log ++ [r]
  let full := 262144 < all.length
  let d := { d with health := { hs with log := if full then all.drop 1 else all, logSeq := nextSeq32 hs.logSeq } }
  let d := d.setN O.healthFaultLast 0 r.seq
  if full then d.raiseOnce (3600 * sec) 0 Code.faultLogWrapped else d

/-- 24 hours in ns. -/
abbrev day : Nat := 86400 * sec

/-- The transient faults of a unit within the last 24 h. -/
def Dev.transientCount (d : Dev) (kind inst : Nat) : Nat :=
  (d.health.transients.filter fun t => t.1 == kind && t.2.1 == inst && d.now < t.2.2 + day).length

/-- Whether the unit's next transient fault is classified lasting (R414). -/
def Dev.transientOver (d : Dev) (kind inst : Nat) : Bool := d.rn O.healthTransientLimit ≤ d.transientCount kind inst

/-- Classify a fault transient (R413): record and HEALTH_TRANSIENT. -/
def Dev.noteTransient (d : Dev) (kind inst : Nat) (own : Own) (reason : Nat := 0) : Dev :=
  let d := { d with health := { d.health with
    transients := (kind, inst, d.now) :: d.health.transients.filter fun t => d.now < t.2.2 + day } }
  (d.logFault 0 kind inst own reason 0 0xFFFF).raiseOnce sec (unitKey kind inst) Code.healthTransient kind inst own.code

/-- Enter a unit in the health record as retired (R416). -/
def Dev.recordRetired (d : Dev) (kind inst : Nat) : Dev :=
  { d with health := { d.health with
    retired := if d.health.retired.contains (kind, inst) then d.health.retired else d.health.retired ++ [(kind, inst)] } }

/-- Classify a fault lasting (R413, R415): record, HEALTH_LASTING, and for the kinds with spares HEALTH_SPARE_ENGAGED
or HEALTH_NO_SPARE; `left` is the number of spares still left after this engagement. -/
def Dev.noteLasting (d : Dev) (kind inst : Nat) (own : Own) (reason : Nat) (spare : Option Nat) (left : Nat)
    (action : Nat) : Dev :=
  let d := { d with health := { d.health with lasting := d.health.lasting + 1, lastLasting := own.code } }
  let d := d.logFault 1 kind inst own reason action (spare.getD 0xFFFF)
  let d := d.raise Code.healthLasting kind inst own.code (spare.getD 0xFFFFFFFF)
  match spare with
  | some s =>
    let d := d.raise Code.healthSpareEngaged kind inst s
    if left = 0 then d.raise Code.healthNoSpare kind inst 0 else d
  | none => d.raise Code.healthNoSpare kind inst 1

/-- Log a shedding (class 2) or a reinstatement (class 3) of a head or stream (R418 to R420). -/
def Dev.logShed (d : Dev) (restored : Bool) (kind inst code p1 : Nat) : Dev :=
  d.logFault (if restored then 3 else 2) kind inst { code := code, p0 := inst, p1 := p1 } 0 (if restored then 0 else 8) 0xFFFF

/-- HEALTH_RESTORED (R417, R418, R420): p0 0 unit, 1 head, 2 stream. -/
def Dev.restored (d : Dev) (what kind inst : Nat) : Dev :=
  (d.logFault 3 kind inst { code := Code.healthRestored, p0 := what, p1 := if what = 0 then kind else 0, p2 := inst }
    0 0 0xFFFF).raise Code.healthRestored what (if what = 0 then kind else 0) inst

/-- A self-test of a unit is abandoned when the unit is needed (R415). -/
def Dev.abandonTest (d : Dev) (kind inst : Nat) : Dev :=
  { d with health := { d.health with tests := d.health.tests.filter fun b => !(b.kind == kind && b.inst == inst) } }

end Sys2Proof.Machine
end

