-- ==== Sys2Proof/Machine/WitnessOps.lean ====
section
/-! DEFINITION. Witness records and the summit register (R87 to R102): requests, record content, the chain, forwarding. -/

namespace Sys2Proof.Machine

/-- The unit holds lead, or runs without a twin (Table 3-3 bit 3, R87). -/
def Dev.holdsLead (d : Dev) : Bool := d.twin.role == .lead || d.twin.role == .alone || d.twin.role == .anchor

/-- DTIME as a big-endian format carries it (R78), from ns. -/
def dtimeBe (ns : Nat) : Bytes := be 6 (ns / 10 ^ 9) ++ be 4 (ns % 10 ^ 9) ++ be 2 0

/-- The unexported records of the ring. -/
def Dev.unexported (d : Dev) : Nat := d.witness.nextSeq - d.witness.exportNext

/-- Whether one more record can be appended without overwriting an unexported one (R87, R99), those on their way
counted. -/
def Dev.summitRoom (d : Dev) : Bool := d.unexported + d.witness.requests.length < d.witness.capacity

/-- The content of a record (Table 3-5) but for sequence and prev_chain. -/
def Dev.content (d : Dev) (r : Request) (alive pitch crc : Nat) : Bytes :=
  let pic : Option Tag := match r.eval.bind (·.shown) with
    | some (.pic _ _ t) => some t
    | _ => none
  let reached := r.kind = 1 || r.reason = 2 || r.reason = 5 || (r.reason = 3 && r.eval.any fun v => v.state == .live)
  let hasLayer := r.reason != 6
  let tag := if reached then pic else none
  let flags := mask ((if tag.any (·.cap.arrivalTimed) then [0] else []) ++ (if r.hold then [1] else []) ++
    (if tag.any (·.cap.clamped) then [2] else []) ++ (if tag.any fun t => t.integrity != .clean then [3] else []))
  let age := match tag with
    | some t => ageUs (six r.tc) (six t.cap.time) t.cap.uncertainty
    | none => 0
  be 2 1 ++ [byteOf r.kind, byteOf (if r.kind = 2 then r.reason else 0)] ++ be 8 0 ++ be 4 r.epoch ++
    be 8 (d.rn O.identitySerialNumber) ++ be 2 r.region ++ be 2 r.action ++
    [byteOf r.panel, byteOf (if hasLayer then r.head else 0)] ++ be 2 (if hasLayer then r.layer else 0) ++
    be 2 ((if hasLayer then pic.map (·.stream) else none).getD 0) ++ [byteOf flags, byteOf (d.rn O.witnessKeySlot)] ++
    dtimeBe r.tc ++ dtimeBe ((tag.map (·.cap.time)).getD 0) ++ be 4 ((tag.map (·.cap.uncertainty)).getD 0) ++
    be 4 age ++ be 4 (if reached then (r.eval.map (·.bound)).getD 0 else 0) ++
    be 8 ((tag.map (·.sequence)).getD 0) ++ be 4 ((tag.map (·.signature)).getD 0) ++
    be 4 alive ++ be 4 pitch ++ be 4 crc ++ zeros 32

/-- A content with its sequence and the chain hash before it. -/
def withChain (c : Bytes) (seq : Nat) (prev : Bytes) : Bytes :=
  c.take 4 ++ be 8 seq ++ slice c 12 84 ++ fit 32 prev

/-- Sign a content (R93): r then s. -/
def Dev.signRecord (d : Dev) (c : Bytes) : Bytes :=
  be 64 (Config.ecdsaSign (d.rn O.witnessKeySlot) d.witness.keyGen c).toNat

/-- The chain hash of a record after a chain head (R97). -/
def chainHash (prev record : Bytes) : Bytes := sha256 (fit 32 prev ++ record)

/-- Publish the register's figures (Table 3-9) and raise SUMMIT_NEARLY_FULL once when the level is reached (R99). -/
def Dev.summitPublish (d : Dev) : Dev :=
  let w := d.witness
  let d := ((d.setN O.summitLastSeq 0 (w.nextSeq - 1 : Nat)).setN O.summitExportNext 0 w.exportNext)
  let d := (d.setN O.summitUnexported 0 d.unexported).setB O.summitChainHead 0 w.chainHead
  let high := d.rn O.summitWarnLevel * w.capacity ≤ 100 * d.unexported
  let d' := { d with witness := { d.witness with nearFull := high } }
  if high && !w.nearFull then d'.raise Code.summitNearlyFull 0 0 d.unexported else d'

/-- Append a content, signed, to the register (R97, R99): the slot of the lowest sequence when the ring is full. -/
def Dev.appendRecord (d : Dev) (c : Bytes) : Dev :=
  let w := d.witness
  let full := withChain c w.nextSeq w.chainHead
  let rec_ := full ++ d.signRecord full
  let h := chainHash w.chainHead rec_
  let kept := if w.capacity ≤ w.ring.length then w.ring.drop 1 else w.ring
  ({ d with witness := { w with
      ring := kept ++ [(⟨w.nextSeq, rec_, h⟩ : Entry)], nextSeq := w.nextSeq + 1, chainHead := h }
    }).summitPublish

/-- Start a new chain with a kind 3 record (R101). -/
def Dev.newChain (d : Dev) (capacity : Nat) : Dev :=
  let d := { d with witness := { d.witness with
    ring := [], nextSeq := 0, exportNext := 0, lastRead := none, nearFull := false, capacity := capacity, chainHead := []
    forwards := [], requests := [] } }
  let c := be 2 1 ++ [3, 0] ++ be 8 0 ++ be 4 d.leadEpoch ++ be 8 (d.rn O.identitySerialNumber) ++ zeros 12 ++ dtimeBe d.now ++ zeros 80
  (((d.appendRecord c).setN O.summitChainStart 0 (dtime d.now)).setN O.summitCapacityActive 0 capacity).raise
    Code.summitNewChain

/-- The open session with a peer: 'G' the station gateway, 'A' the Anchor (R337). -/
def Dev.peerSession (d : Dev) (role : Nat) : Option Session :=
  d.dict.sessions.find? fun se => se.role == role && se.phase == 1

/-- Send a forwarded record (R94): a new datagram in the gateway session, or the same one again while that session
lasts (R95). The hardware gate of R395 refuses it. -/
def Dev.sendForward (d : Dev) (f : Forward) : Dev × Forward :=
  let f := { f with time := d.now }
  match d.peerSession 0x47 with
    | none => (d, f)
    | some se =>
      match f.sentIn with
      | some (id, q) =>
        if id = se.id then
          (d.sendUdp (16 * se.port + 9) se.addr se.udp (qdpDatagram se.key 0x30 se.id q false f.record), f)
        else (d.sendQdp se 9 0x30 f.record, { f with sentIn := some (se.id, se.sendSeq) })
      | none => (d.sendQdp se 9 0x30 f.record, { f with sentIn := some (se.id, se.sendSeq) })

/-- The action counts of a region (Table 10-7): 0 fired, 1 cancelled, 2 refused. -/
def Dev.bumpAction (d : Dev) (region what : Nat) : Dev :=
  let e := (d.touch.counts.find? fun c => c.1 == region).getD (region, 0, 0, 0)
  let up (k n : Nat) := if k = what then min 0xFFFFFFFF (n + 1) else n
  let e' := (e.1, up 0 e.2.1, up 1 e.2.2.1, up 2 e.2.2.2)
  { d with touch := { d.touch with counts := tset d.touch.counts region e'.2 } }

/-- Post a touch record with an event and a reason (R283): the ring of 1,024 overwrites its oldest. -/
def Dev.postTouch (d : Dev) (r : Bytes) (event reason : Nat) : Dev :=
  let r := r.take 2 ++ [byteOf event, byteOf reason] ++ r.drop 4
  let t := d.touch
  let full := 1024 ≤ t.ring.length
  let lost := full && d.rn O.touchEventsNext ≤ t.first
  let d := { d with touch := { t with
    ring := (if full then t.ring.drop 1 else t.ring) ++ [r], first := if full then t.first + 1 else t.first, next := t.next + 1 } }
  if lost then (d.bump O.touchEventsLost).raiseOnce sec 0 Code.touchEventsLost else d

/-- A request refused with a code: counted, the code raised with panel and region, event 6 posted (R75, R87, R91,
R285). -/
def Dev.refuseRequest (d : Dev) (r : Request) (code p2 : Nat) : Dev :=
  (((d.bumpAction r.region 2).bump O.witnessRefused).raise code r.panel r.region p2).postTouch r.record 6 0

/-- A refusal under R75: raised with its reason, and recorded when there is room (R88). -/
def Dev.refuseLive (d : Dev) (r : Request) (reason : Nat) : Dev :=
  let d := d.refuseRequest r Code.liveRequiredRefused reason
  if d.summitRoom && !d.witness.signBroken then
    let r := { r with kind := 2, reason := reason, epoch := d.leadEpoch }
    { d with witness := { d.witness with requests := d.witness.requests ++ [{ r with content := some (d.content r 0 0 0) }] } }
  else d.bump O.summitUnrecorded

/-- A request that passed the interlock (R87, R91): refused without lead, without room or without a signer; otherwise it
waits for the end of the frame on glass, whose content is formed at once when it has ended (R92). -/
def Dev.acceptRequest (d : Dev) (r : Request) : Dev :=
  if !d.holdsLead then d.refuseRequest r Code.witnessNotLead 0
  else if !d.summitRoom then d.refuseRequest r Code.witnessFull 0
  else if d.witness.signBroken then d.refuseRequest r Code.witnessSignFault 0
  else
    let r := { r with kind := 1, epoch := d.leadEpoch }
    let r := match (d.hd r.head).frames.find? fun f => f.start == r.frameStart with
      | some f => { r with content := some (d.content r f.alive f.pitch f.crc) }
      | none => r
    { d with witness := { d.witness with requests := d.witness.requests ++ [r] } }

/-- At the end of a frame of head h, the content of the accepted requests on it is formed (R92). -/
def Dev.formContent (d : Dev) (h start alive pitch crc : Nat) : Dev :=
  { d with witness := { d.witness with requests := d.witness.requests.map fun r =>
      if r.kind == 1 && r.content.isNone && r.head == h && r.frameStart == start then
        { r with content := some (d.content r alive pitch crc) }
      else r } }

/-- The security core's fault is lasting (R91, R354): it has no spare; what waits for signing is refused. -/
def Dev.signerLost (d : Dev) (reason : Nat) : Dev :=
  let rs := d.witness.requests
  let d := { d with witness := { d.witness with requests := [], signBroken := true } }
  let d := rs.foldl (fun d r =>
    if r.kind = 1 then d.refuseRequest r Code.witnessSignFault 0 else d.bump O.summitUnrecorded) d
  (d.recordRetired 3 0).noteLasting 3 0 { code := Code.witnessSignFault } reason none 0 1

end Sys2Proof.Machine
end

