-- ==== Sys2Proof/Machine/ComposeOps.lean ====
section
/-! DEFINITION. Commits and allocation (R170 to R178, R185, R190, R191, R194, R196, R199 to R202, R205): the validation
order of Table 6-7, the line-store fit, the placing of heads on ports, pipe faults and their verdicts, shedding. -/

namespace Sys2Proof.Machine

/-! ### The line store (R199 to R201) -/

/-- A pipe's line store in pixels and its load limit in kpx/s (R36, R37). -/
abbrev lineStore : Nat := 98304
/-- See `lineStore`. -/
abbrev pipeLimit : Nat := 1200000

/-- The layers of heads that may be reduced and their present taps: fit_policy 1, a need that depends on taps (R200). -/
def Dev.reducible (d : Dev) (heads : List Nat) (taps : List (Nat × Nat)) (from_ : Nat) : List Nat :=
  (heads.flatMap fun h => d.layersOn h).filterMap fun p =>
    let c := d.cropOf p.2
    if p.2.fit = 1 && p.2.fetched && (d.visOf p.2).isSome && !bypass (c.y1 - c.y0) p.2.dstH && tapsIn taps p.1 = from_ then
      some p.1
    else none

/-- The need of a pipe's own heads and of a fixed part. -/
def Dev.lsSum (d : Dev) (own : List Nat) (fixed : Nat) (taps : List (Nat × Nat)) : Nat :=
  fixed + sumL (own.map fun h => d.lsHead h taps)

/-- Reduce taps one step at a time until the pipe fits (R200); none when it cannot. -/
def Dev.lsFit (d : Dev) (own : List Nat) (fixed : Nat) : Nat → List (Nat × Nat) → Option (List (Nat × Nat))
  | 0, taps => if d.lsSum own fixed taps ≤ lineStore then some taps else none
  | n + 1, taps =>
    if d.lsSum own fixed taps ≤ lineStore then some taps
    else match (d.reducible own taps 6).max?, (d.reducible own taps 4).max? with
      | some l, _ => d.lsFit own fixed n (tset taps l 4)
      | none, some l => d.lsFit own fixed n (tset taps l 2)
      | none, none => none

/-- The need that a head of another group counts with: the greater of in effect and under its armed or due table. -/
def Dev.lsOther (d : Dev) (h : Nat) : Nat :=
  let g := d.grp (d.groupOf h)
  maxL (d.lsHead h d.tapsNow :: ([g.armed, g.due].filterMap fun t => t.map fun t => (d.withTable t).lsHead h t.taps))

/-! ### Placing heads (R170, R172, R201) -/

/-- The load a head of another group counts with (R177). -/
def Dev.loadOther (d : Dev) (h : Nat) : Nat :=
  let g := d.grp (d.groupOf h)
  maxL (d.headLoad h :: ([g.armed, g.due].filterMap fun t => t.map fun t => (d.withTable t).headLoad h))

/-- The heads of a pipe that count: not shed. -/
def Dev.counted (d : Dev) (k : Nat) : List Nat := (d.onPipe k).filter fun h => !(d.hd h).shed

/-- Whether pipe k has room for head h (R172, R201): load, and line store for the table in effect and for the armed or
due tables of the head's group. -/
def Dev.roomOn (d : Dev) (h k : Nat) : Bool :=
  let hs := h :: (d.counted k).filter (· != h)
  let fits (dv : Dev) : Bool := (dv.lsFit hs 0 1024 []).isSome
  let g := d.grp (d.groupOf h)
  sumL (hs.map d.headLoad) ≤ pipeLimit && fits d &&
    [g.armed, g.due].all fun t => match t with
      | some t => fits (d.withTable t)
      | none => true

/-- The port head h is placed on: the lowest-numbered active pipe with a free port and room (R172). -/
def Dev.findPort (d : Dev) (h : Nat) : Option (Nat × Nat) :=
  (List.range 18).findSome? fun k =>
    if d.pipeState k == .active && d.roomOn h k then
      if d.portFree k 0 then some (k, 0) else if d.portFree k 1 then some (k, 1) else none
    else none

/-- Heads in the order of head[h].priority and then number (R172). -/
def Dev.byPriority (d : Dev) (hs : List Nat) : List Nat :=
  sortBy (fun a b => d.rn O.headPriority a < d.rn O.headPriority b ||
    (d.rn O.headPriority a == d.rn O.headPriority b && a ≤ b)) hs

/-! ### Validation (Table 6-7) -/

/-- The classes a kind may take (Table 6-5). -/
def kindClasses (kind : Nat) : List Nat :=
  if kind = 0 then [1, 2] else if kind = 1 then [0, 1, 2] else if kind = 2 then [1, 2] else [0]

/-- The greatest source of a kind. -/
def kindSource (kind : Nat) : Nat :=
  if kind = 0 then 127 else if kind = 1 then 255 else if kind = 2 then 31 else if kind = 3 then 0 else 3

/-- The first failing field of one direction of a crop (R191): the offsets of start and size. -/
def cropField (start size whole o1 o2 : Nat) : Option Nat :=
  let n := if size = 0 then whole else size
  if whole ≤ start then some o1 else if whole < start + n || 4096 < n then some o2 else none

/-- The first of a list of checks that fails: its offset. -/
def firstBad (l : List (Nat × Bool)) : Option Nat := (l.find? fun p => !p.2).map (·.1)

/-- The byte offset of the first field of a descriptor that step 4 refuses (Tables 6-3 to 6-5, R180, R191). -/
def Dev.badField (d : Dev) (e : Desc) : Option Nat :=
  let s := d.srcSize e
  let crop := if e.kind < 2 then
      match cropField e.srcX e.srcW s.1 12 16 with
      | some o => some o
      | none => cropField e.srcY e.srcH s.2 14 18
    else none
  match firstBad [(2, e.head ≤ 31), (3, e.z ≤ 63), (4, e.kind ≤ 4), (5, (kindClasses e.kind).contains e.cls),
      (6, e.fit ≤ 1), (8, e.source ≤ kindSource e.kind), (10, e.coef ≤ 15 || e.coef == 0xFF),
      (11, e.tone ≤ 7 || e.tone == 0xFF), (16, e.srcW ≤ 4096), (18, e.srcH ≤ 4096)] with
  | some o => some o
  | none => match crop with
    | some o => some o
    | none => firstBad [(20, -4096 ≤ e.dstX && e.dstX < d.headW e.head), (22, -4096 ≤ e.dstY && e.dstY < d.headH e.head),
        (24, 1 ≤ e.dstW && e.dstW ≤ 4096), (26, 1 ≤ e.dstH && e.dstH ≤ 4096),
        (28, e.ageBound == 0 || (50 ≤ e.ageBound && e.ageBound ≤ 60000)),
        (36, e.planeAlpha ≤ 1023 && (!e.live || e.blend != 1 || 768 ≤ e.planeAlpha)),
        (38, e.blend ≤ 3 && (!e.live || e.blend ≤ 1))]

/-- Whether a write-back layer's effective crop is whole (R191). -/
def Dev.cropOk (d : Dev) (e : Desc) : Bool :=
  let s := d.srcSize e
  (cropField e.srcX e.srcW s.1 12 16).isNone && (cropField e.srcY e.srcH s.2 14 18).isNone

/-- The byte offset of the first field that step 5 refuses: sets and scale ratios (R194, R196, R205). -/
def Dev.badScale (d : Dev) (e : Desc) : Option Nat :=
  let c := d.cropOf e
  let ratio (src dst : Nat) : Bool := src ≤ 16 * dst && dst ≤ 8 * src
  firstBad [(10, e.coef == 0xFF || d.rf O.coefLoaded e.coef),
    (11, e.tone == 0xFF || (d.rf O.toneLoaded e.tone && leAt (d.rb O.toneData e.tone) 3 1 == d.rn O.headTransfer e.head &&
      (e.kind != 1 || d.toneClass e.tone == 0))),
    (24, !e.fetched || (e.kind == 2 && !d.cropOk e) || ratio (c.x1 - c.x0) e.dstW),
    (26, !e.fetched || (e.kind == 2 && !d.cropOk e) || ratio (c.y1 - c.y0) e.dstH)]

/-- A refusal by code, with what it names. -/
def refuse68 (code : Nat) (layer : Nat := 0xFFFF) (head : Nat := 0xFF) (value : Nat := 0) : Refusal68 :=
  { code := code, layer := layer, head := head, value := value }

/-- The descriptors of a table that name a head, by number. -/
def GTable.named (tb : GTable) : List (Nat × Desc) := tb.descs.filter fun p => p.2.head != 0xFF

/-- Steps 2 and 3: grade and group (R6, R174). -/
def Dev.checkNames (d : Dev) (tb : GTable) : Option Refusal68 :=
  let absent := tb.named.find? fun p =>
    let e := p.2
    (d.gradeHeads ≤ e.head && e.head ≤ 31) || (e.kind == 0 && d.gradeStreams ≤ e.source && e.source ≤ 127) ||
      (e.kind == 2 && d.gradeHeads ≤ e.source && e.source ≤ 31)
  match absent with
  | some p => some (refuse68 Code.objAbsentGrade p.1 p.2.head)
  | none => (tb.named.find? fun p =>
      let a := d.desc p.1
      a.head != 0xFF && d.groupOf a.head != d.groupOf p.2.head).map fun p => refuse68 Code.commitGroupCross p.1 p.2.head

/-- Steps 4 and 5. -/
def Dev.checkFields (dv : Dev) (tb : GTable) : Option Refusal68 :=
  let step (f : Desc → Option Nat) := tb.named.findSome? fun p =>
    (f p.2).map fun o => refuse68 Code.commitLayerField p.1 p.2.head o
  match step dv.badField with
  | some r => some r
  | none => step dv.badScale

/-- Steps 6 and 7. -/
def Dev.checkHeads (dv : Dev) (hs : List Nat) : Option Refusal68 :=
  match hs.find? fun h => 64 < (dv.descsOn h).length with
  | some h => some (refuse68 Code.commitHeadLayers 0xFFFF h)
  | none => ((dv.activeT.filter fun p => hs.contains p.2.head).find? fun p =>
      (dv.descsOn p.2.head).any fun q => q.1 != p.1 && q.2.z == p.2.z).map fun p =>
        refuse68 Code.commitZDuplicate p.1 p.2.head

/-- Steps 8 and 9: timing, grid objects, frame length (R138, R165, R479). -/
def Dev.checkTiming (dv : Dev) (g : Nat) (hs : List Nat) : Option Refusal68 :=
  match hs.find? fun h => dv.headOn h && !dv.timingOk h with
  | some h => some (refuse68 Code.commitTiming 0xFFFF h)
  | none =>
    if dv.rn O.gridRateDen g * 10 ^ 9 ≤ dv.rn O.gridPhase g * dv.rn O.gridRateNum g ||
        240 * dv.rn O.gridRateDen g < dv.rn O.gridRateNum g then
      some (refuse68 Code.commitTiming)
    else (hs.find? fun h => dv.headOn h && !dv.gridFits h).map fun h => refuse68 Code.timeGridMismatch 0xFFFF h

/-- At most one head per pipe has write-back (R190). -/
def Dev.checkWbPipes (dv : Dev) (hs : List Nat) : Option Refusal68 :=
  hs.findSome? fun h =>
    let k := (dv.pipeOf h).1
    if dv.rn O.headWriteback h != 0 && k < 18 &&
        (dv.onPipe k).any fun o => o != h && dv.rn O.headWriteback o != 0 then
      some { refuse68 Code.commitWriteback 0xFFFF h with pipe := k }
    else none

/-- Step 10: write-back sources and limits (R190, R191), of the layers on the group's heads and of those elsewhere that
take one of the group's heads as their source (DEDUCED, log 43). -/
def Dev.checkWb (dv : Dev) (hs : List Nat) : Option Refusal68 :=
  match dv.activeT.find? fun p =>
      let e := p.2
      e.kind == 2 && e.enabled && e.head != 0xFF && (hs.contains e.head || hs.contains e.source) &&
        !(e.source != e.head && dv.rn O.headWriteback e.source != 0 && dv.headOn e.source &&
          !((dv.layersOn e.source).any fun q => q.2.kind == 2) && dv.cropOk e) with
  | some p => some (refuse68 Code.commitWriteback p.1 p.2.head)
  | none => dv.checkWbPipes hs

/-- Step 11: badge boxes (R72). -/
def Dev.checkBadges (dv : Dev) (tb : GTable) : Option Refusal68 :=
  tb.named.findSome? fun p =>
    let e := p.2
    if dv.headOn e.head && e.enabled && e.evaluated then
      match dv.badgeBox e 5 with
      | some b => ((dv.layersOn e.head).find? fun q => e.z < q.2.z && match dv.visOf q.2 with
          | some v => v.meets b
          | none => false).map fun q => { refuse68 Code.cairnBadgeCovered p.1 e.head with layer2 := q.1 }
      | none => none
    else none

/-- Step 12: the overlap budget (R183). -/
def Dev.checkOverlap (dv : Dev) (hs : List Nat) : Option Refusal68 :=
  hs.findSome? fun h =>
    if dv.headOn h then
      ((dv.tiles h).find? fun t => t.2.2.2.1 == .none).map fun t =>
        { refuse68 Code.commitOverlap 0xFFFF h t.2.2.2.2 with col := t.1, row := t.2.1 }
    else none

/-- The pipes that serve heads of a list, in order of number. -/
def Dev.pipesOf (d : Dev) (hs : List Nat) : List Nat := (List.range 18).filter fun k => hs.any fun h => (d.pipeOf h).1 == k

/-- The layer a line-store refusal names (R200): greatest need present at the worst line of the head. -/
def Dev.lsWorst (dv : Dev) (h : Nat) : Nat :=
  let p := dv.lsHead h []
  let y := ((dv.lsLines h).filter fun y => dv.lsOnLine h y [] == p).min?.getD 0
  let here := (sortBy (fun a b => a.1 ≤ b.1) (dv.layersOn h)).filter fun q => dv.lsPresent q.2 y
  let most := maxL (here.map fun q => dv.lsNeed q.2 6)
  ((here.find? fun q => dv.lsNeed q.2 6 == most).map (·.1)).getD 0xFFFF

/-- Step 13 for one pipe: the taps that make it fit, or the refusal. -/
def Dev.checkLsPipe (d dv : Dev) (hs : List Nat) (k : Nat) : Except Refusal68 (List (Nat × Nat)) :=
  let own := (dv.counted k).filter hs.contains
  let fixed := sumL (((dv.counted k).filter fun h => !hs.contains h).map d.lsOther)
  match dv.lsFit own fixed 1024 [] with
  | some taps => .ok taps
  | none =>
    let worst := own.foldl (fun b h => match b with
      | some x => if dv.lsHead x [] < dv.lsHead h [] then some h else some x
      | none => some h) none
    .error { refuse68 Code.commitLinestore ((worst.map dv.lsWorst).getD 0xFFFF) (worst.getD 0xFF)
      (dv.lsSum own fixed [] - lineStore) with pipe := k }

/-- Place the heads that a table enables without a port (R170). -/
def Dev.placeEnabled (d dv : Dev) (hs : List Nat) : Except Refusal68 (List (Nat × Nat × Nat)) :=
  let need := dv.byPriority (hs.filter fun h =>
    dv.headOn h && !d.headOn h && (dv.pipeOf h).1 == 0xFF && !(dv.hd h).shed)
  (need.foldl (fun (st : Except Refusal68 (Dev × List (Nat × Nat × Nat))) h => match st with
    | .error r => .error r
    | .ok (dv, l) => match dv.findPort h with
      | some (k, q) => .ok (dv.place h k q, l ++ [(h, k, q)])
      | none => .error { refuse68 Code.commitPipeLoad 0xFFFF h with pipe := 0xFF }) (.ok (dv, []))).map (·.2)

/-- Step 14: pipe loads (R37, R177). -/
def Dev.checkLoad (d dv : Dev) (hs : List Nat) : Option Refusal68 :=
  (dv.pipesOf hs).findSome? fun k =>
    let load := sumL ((dv.counted k).map fun h => if hs.contains h then dv.headLoad h else d.loadOther h)
    if pipeLimit < load then some { refuse68 Code.commitPipeLoad 0xFFFF 0xFF (load - pipeLimit) with pipe := k } else none

/-- The first refusal of a list of checks. -/
def firstRefusal (l : List (Option Refusal68)) : Option Refusal68 := l.findSome? id

/-- Validation of a table of group g (R185): the table with its taps and placements, or the refusal. -/
def Dev.validate (d : Dev) (g : Nat) (tb : GTable) : Except Refusal68 GTable :=
  let dv := d.withTable tb
  let hs := d.headsOf g
  match firstRefusal [d.checkNames tb, dv.checkFields tb, dv.checkHeads hs, dv.checkTiming g hs, dv.checkWb hs,
      dv.checkBadges tb, dv.checkOverlap hs] with
  | some r => .error r
  | none =>
    let ls := (dv.pipesOf hs).foldl (fun (st : Except Refusal68 (List (Nat × Nat))) k => match st with
      | .error r => .error r
      | .ok l => (d.checkLsPipe dv hs k).map (l ++ ·)) (.ok [])
    match ls with
    | .error r => .error r
    | .ok taps => match d.placeEnabled dv hs with
      | .error r => .error r
      | .ok places =>
        let dp := places.foldl (fun dv p => dv.place p.1 p.2.1 p.2.2) dv
        match d.checkLoad dp hs with
        | some r => .error r
        | none => .ok { tb with taps := taps, places := places }

/-- The check of a due commit at its instant after an allocation change (R173): pipe load and write-back limit. -/
def Dev.recheckDue (d : Dev) (g : Nat) (tb : GTable) : Option Refusal68 :=
  let hs := d.headsOf g
  let dv := tb.places.foldl (fun dv p => dv.place p.1 p.2.1 p.2.2) (d.withTable tb)
  firstRefusal [d.checkLoad dv hs, dv.checkWbPipes hs]

/-- The 16 bytes of a refusal record (Table 6-8). -/
def Refusal68.bytes (r : Refusal68) : Bytes :=
  le 2 r.code ++ le 2 r.layer ++ le 2 r.layer2 ++ [byteOf r.head, byteOf r.pipe] ++ le 2 r.col ++ le 2 r.row ++ le 4 r.value

/-- Raise a refusal of a commit (R175). -/
def Dev.raiseRefusal (d : Dev) (g token : Nat) (r : Refusal68) : Dev := d.raise r.code g r.layer token r.value

/-- commit_state of a group as it stands. -/
def Group.settle (g : Group) (refused : Bool) : Group :=
  { g with cstate := if g.validating.isSome || g.revalidate then 1 else if refused then 3
      else if g.armed.isSome || g.due.isSome then 2 else 0 }

/-- A commit is refused: state 3, record, code (R175). -/
def Dev.refuseCommit (d : Dev) (g token : Nat) (r : Refusal68) : Dev :=
  ((d.modGrp g fun x => { x with refusal := r }).setB O.groupRefusal g r.bytes).raiseRefusal g token r

/-! ### What a group's commit covers (R174, R175) -/

/-- The commit group of a panel's head (R284). -/
def Dev.panelGroup (d : Dev) (n : Nat) : Option Nat :=
  if n < 4 && d.rn O.panelHead n < 32 then some (d.groupOf (d.rn O.panelHead n)) else none

/-- Whether a pending GRP value belongs to group g: objects of its heads, of the group and of its grid, and the action
regions of its panels, by what they name now or then. -/
def Dev.ownedBy (d : Dev) (g : Nat) (key : Nat) (val : Val) : Bool :=
  let ix := key / 256
  (0x1000000 ≤ key && (d.panelGroup (d.actionRegion (key - 0x1000000)).panel == some g ||
    d.panelGroup (regionOf val.bytes).panel == some g)) ||
  (0x2700 ≤ ix && ix < 0x2720 && d.groupOf (ix - 0x2700) == g) || ix == 0x2808 + g || ix == 0x2110 + g

/-- The snapshot of a group's shadow (R174, R175). -/
def Dev.snapshot (d : Dev) (g token : Nat) : GTable :=
  let mine (e : Desc) : Bool := e.head < 32 && d.groupOf e.head == g
  let nums := ((d.shadow.map (·.1)) ++ (d.activeT.map (·.1))).eraseDups
  let descs := (sortBy (fun a b => a ≤ b) nums).filterMap fun n =>
    let sh := tget {} d.shadow n
    if mine sh || mine (d.desc n) then some (n, sh) else none
  { token := token, descs := descs
    objs := ((d.pendOf 1).filter fun w => d.ownedBy g w.key w.val).map fun w => (w.key, w.val) }

/-- A commit is requested (R175, R177): refused with COMMIT_BUSY while the group validates. -/
def Dev.requestCommit (d : Dev) (g token : Nat) : Dev :=
  if (d.grp g).cstate = 1 then d.raiseRefusal g token (refuse68 Code.commitBusy)
  else d.modGrp g fun x => { x with cstate := 1, validating := some (d.snapshot g token) }

/-- An allocation change sends every armed commit back to validation and has every due one checked at its instant
(R173). -/
def Dev.revalidateAll (d : Dev) : Dev :=
  (List.range 8).foldl (fun d g =>
    let x := d.grp g
    let d := if x.armed.isSome then d.modGrp g fun x => { x with revalidate := true, cstate := 1 } else d
    if x.due.isSome then d.modGrp g fun x => { x with due := x.due.map fun t => { t with recheck := true } } else d) d

/-! ### Pipe faults (R171, R172, R202) and shedding (R418) -/

/-- A head is shed (R418). -/
def Dev.shedHead (d : Dev) (h kind : Nat) : Dev :=
  let pr := d.rn O.headPriority h
  ((d.modHd h fun x => { x with shed := true, remap := none }).logShed false kind h Code.healthHeadShed pr).raise
    Code.healthHeadShed h pr

/-- A head is placed on a free port or shed (R172). -/
def Dev.placeOrShed (d : Dev) (h : Nat) : Dev :=
  let d := d.modHd h fun x => { x with remap := some (0xFF, 0xFF) }
  match d.findPort h with
  | some p => d.modHd h fun x => { x with remap := some p, wholeHatch := true }
  | none => (d.shedHead h 6).place h 0xFF 0xFF

/-- The spare pipes left. -/
def Dev.sparePipes (d : Dev) : List Nat := [16, 17].filter fun k => d.pipeState k == .spare

/-- A head that is not composed moves at once; the others at their next frame start (R171). -/
def Dev.remapHead (d : Dev) (h k q : Nat) : Dev :=
  if d.composed h then d.modHd h fun x => { x with remap := some (k, q), wholeHatch := true } else d.place h k q

/-- A pipe is retired (R171, R172): a spare takes its heads on the same ports, or they are placed or shed. -/
def Dev.retirePipe (d : Dev) (k reason : Nat) : Dev :=
  let hs := d.onPipe k
  let first := (hs.filter d.composed).headD 0xFF
  let own : Own := { code := Code.pipeRetired, p0 := k, p1 := first }
  let d := (d.modPp k fun p => { p with state := .retired, retry := none }).recordRetired 6 k
  let d := d.raiseOwn own
  let d : Dev := match d.sparePipes with
    | s :: rest =>
      let d := ((d.modPp s fun p => { p with state := .active }).abandonTest 6 s).raise Code.pipeSpareEngaged s k
      let d := hs.foldl (fun (d : Dev) h => d.remapHead h s (d.pipeOf h).2) d
      d.noteLasting 6 k own reason (some s) rest.length 7
    | [] =>
      let d := (hs.filter fun h => !d.composed h).foldl (fun (d : Dev) h => d.place h 0xFF 0xFF) d
      let d := (d.byPriority (hs.filter d.composed)).foldl (fun (d : Dev) h => d.placeOrShed h) d
      d.noteLasting 6 k own reason none 0 5
  d.revalidateAll

/-- A lasting pipe fault: a named line-store bank is spared while the pipe's spare bank is unused (R202), else the pipe is
retired. -/
def Dev.pipeLasting (d : Dev) (k reason : Nat) (bank : Option Nat) : Dev :=
  match bank with
  | some b =>
    if (d.pp k).bankUsed.isNone then
      let own : Own := { code := Code.linestoreBankSpared, p0 := k, p1 := b }
      let d := (d.modPp k fun p => { p with bankUsed := some b, retry := none }).recordRetired 7 (17 * k + b)
      ((d.setN O.pipeLinestoreSpare k 0).raiseOwn own).noteLasting 7 (17 * k + b) own reason (some (17 * k + 16)) 0 3
    else d.retirePipe k reason
  | none => d.retirePipe k reason

/-- The retry frames of a pipe have completed without a fault (R171, R414). -/
def Dev.pipeRetryOk (d : Dev) (k : Nat) (r : PipeRetry) : Dev :=
  let d := d.modPp k fun p => { p with retry := none }
  let unit : Nat × Nat := match r.bank with
    | some b => (7, 17 * k + b)
    | none => (6, k)
  if d.transientOver unit.1 unit.2 then d.pipeLasting k 2 r.bank
  else
    let own : Own := { code := Code.pipeTransient, p0 := k, p1 := r.head }
    ((d.bump O.pipeTransientFaults k).raiseOwn own).noteTransient unit.1 unit.2 own

/-- A pipe fault on heads (R171): the first starts the retry, one in a retry frame is lasting, more of it in a faulted
frame change nothing. `now_` are the heads whose present frame is the faulted one; `quiet` when the fault's own
code has been raised (HEAD_FROZEN, R59). -/
def Dev.pipeFault (d : Dev) (k : Nat) (hs now_ : List Nat) (bank : Option Nat) (quiet : Bool := false) : Dev :=
  let raiseAll (d : Dev) : Dev :=
    if quiet then d
    else if hs.isEmpty then d.raise Code.pipeFault k 0xFF else hs.foldl (fun d h => d.raise Code.pipeFault k h) d
  match (d.pp k).retry with
  | none =>
    let r : PipeRetry := { faulted := now_, retrying := hs, bank := bank, head := hs.headD 0xFF }
    let d := raiseAll d
    if hs.isEmpty then d.pipeRetryOk k r else d.modPp k fun p => { p with retry := some r }
  | some r =>
    if hs.any fun h => r.retrying.contains h && !r.faulted.contains h then (raiseAll d).pipeLasting k 1 bank
    else if hs.all fun h => r.faulted.contains h then d
    else (raiseAll d).modPp k fun p => { p with retry := some { r with
      faulted := (r.faulted ++ now_).eraseDups, retrying := (r.retrying ++ hs).eraseDups } }

/-- A frame of head h has ended: its faulted frame or its retry frame is over (R171). -/
def Dev.pipeFrameEnd (d : Dev) (h : Nat) : Dev :=
  let k := d.rn O.headPipe h
  match (d.pp k).retry with
  | none => d
  | some r =>
    if r.faulted.contains h then d.modPp k fun p => { p with retry := some { r with faulted := r.faulted.filter (· != h) } }
    else
      let r' := { r with retrying := r.retrying.filter (· != h) }
      if r'.retrying.isEmpty then d.pipeRetryOk k r' else d.modPp k fun p => { p with retry := some r' }

/-- The active line in production at this instant in head h's present frame, none in vertical blanking. -/
def Dev.lineNow (d : Dev) (h : Nat) : Option Nat :=
  let hd := d.hd h
  if hd.inFrame then
    let y := (six d.now - six hd.start) / (5 * hd.lineCycles)
    if y < d.headH h then some y else none
  else none

/-- The end of the fourth blanking line after a frame's last active line, in sixths of a ns (R85). -/
def Dev.sealEnd (d : Dev) (h : Nat) : Nat := lineAt (d.hd h).start (d.hd h).lineCycles (d.headH h + 4)

end Sys2Proof.Machine
end

