-- ==== Sys2Proof/Machine/Flags.lean ====
section
/-! DEFINITION. Every flag word and status code the spec computes of a frame: change-expected frames (R58), seal flags and
region codes (Tables 3-3 and 3-4, R73, R84), the seal (Table 3-2), layer status flags (Table 2-11), the carried time of
a write-back frame (R63) and its header (Table 6-9). -/

namespace Sys2Proof.Machine

/-! ### Change-expected frames (R58) -/

/-- The evaluation of layer n for the frame before the one with first-line instant `tFirst`. -/
def Layer.before (l : Layer) (tFirst : Nat) : Option LEval := l.hist.find? fun v => v.tFirst < tFirst

/-- The clean picture an evaluation shows: stream, slot and tag. -/
def LEval.cleanPic (v : LEval) : Option (Nat × Nat × Tag) :=
  match v.shown with
  | some (.pic s id t) => if t.integrity == .clean then some (s, id, t) else none
  | _ => none

/-- The probe rectangle of a stream (R55). -/
def Dev.probeRect (d : Dev) (s : Nat) : Rect :=
  let v := d.rn O.streamProbeRect s
  let x := v / 2 ^ 48 % 65536; let y := v / 2 ^ 32 % 65536
  ⟨x, y, x + v / 65536 % 65536, y + v % 65536⟩

/-- Whether rectangle a lies in b. -/
def Rect.within (a b : Rect) : Bool := b.x0 ≤ a.x0 && a.x1 ≤ b.x1 && b.y0 ≤ a.y0 && a.y1 ≤ b.y1

/-- Whether a layer makes the frame that starts at `start` change-expected (R58). -/
def Dev.expectsChange (d : Dev) (n : Nat) (e : Desc) (start lc : Nat) : Bool :=
  match d.evalFor n e start lc with
  | none => false
  | some v =>
    match v.cleanPic, ((d.ly n).before v.tFirst).bind LEval.cleanPic with
    | some (s, id, t), some (_, _, u) =>
      let c := d.cropOf e
      let pic : Rect := match d.slotOf s id with
        | some sl => ⟨0, 0, sl.planes.w, sl.planes.h⟩
        | none => ⟨0, 0, 0, 0⟩
      e.live && e.kind == 0 && v.state == .live && d.rn O.streamFreezeMode s != 2 &&
        (pic.within c || (d.rn O.streamProbeRect s != 0 && (d.probeRect s).within c)) &&
        c.x1 - c.x0 ≤ 4 * e.dstW && c.y1 - c.y0 ≤ 4 * e.dstH && t.signature != u.signature
    | _, _ => false

/-- Whether a frame of head h is change-expected. -/
def Dev.changeExpected (d : Dev) (h start lc : Nat) : Bool :=
  (d.layersOn h).any fun p => d.expectsChange p.1 p.2 start lc

/-! ### The head seal -/

/-- Tiles of a head whose run has no copy in use in a frame: how many, and whether one is drawn in the hatch (R212). -/
def Dev.deferredTiles (d : Dev) (h start lc : Nat) : Nat × Bool :=
  let ls := d.vlayers h
  let ds := (d.tiles h).filterMap fun t => if t.2.2.1.isEmpty then none else some (d.runDraw h start lc t.1 t.2.1 ls t.2.2.1)
  ((ds.filter fun r => r == .direct || r == .hatch).length, ds.contains .hatch)

/-- What a layer shows, as the selection digest names it (R405, R214). -/
def Dev.sourceIdentity (d : Dev) (n : Nat) (v : Option LEval) (start lc : Nat) : Nat :=
  match v.bind (·.shown) with
  | some (.pic _ _ t) => t.sequence
  | some (.post _ _ tm) => (((d.copiesWith n (tileSel start lc)).filterMap Copy.dataTime).min?).getD tm
  | some (.frame h b _) => (((d.hd h).wb.find? fun w => w.id == b).map fun w => leAt w.header 8 4).getD 0
  | none => 0

/-- The selection digest of a head's frame (R405). -/
def Dev.frameDigest (d : Dev) (h start lc : Nat) : Nat :=
  let entry (p : Nat × Desc) : Bytes :=
    let v := d.evalFor p.1 p.2 start lc
    let figure := match v with
      | some x => if x.badged && x.state != .noLive then min 0xFFFE (x.figure / 100000) else 0xFFFF
      | none => 0xFFFF
    be 2 p.1 ++ [byteOf p.2.kind, byteOf ((v.map (·.state.code)).getD 0)] ++ be 8 (d.sourceIdentity p.1 v start lc) ++
      be 2 figure ++ [0, 0]
  crc32c (be 4 (d.rn O.groupAppliedToken (d.groupOf h)) ++
    (((d.descsOn h).filter fun p => p.2.enabled).map entry).flatten)

/-- The live layers of a head with their visible rectangle and the evaluation of a frame. -/
def Dev.liveEvals (d : Dev) (h start lc : Nat) : List (Rect × LEval) :=
  (d.vlayers h).filterMap fun l =>
    if l.2.1.live then (d.evalFor l.1 l.2.1 start lc).map fun v => (l.2.2, v) else none

/-- The flags of a head's frame (Table 3-3). -/
def Dev.sealFlags (d : Dev) (h start lc : Nat) : Nat :=
  let hd := d.hd h
  let live := d.liveEvals h start lc
  let drawn := !hd.card
  mask ((if drawn && (hd.faultLine.isSome || hd.wholeHatch) then [7] else []) ++
    (if hd.card then [6] else []) ++
    (if drawn && !hd.under.isEmpty then [5] else []) ++
    (if d.inFallback h && d.divAt h start == d.headDiv h then [4] else []) ++
    (if d.holdsLead && !(d.gated && d.twin.gateAt ≤ start) then [3] else []) ++
    (if drawn && (live.any (fun p => p.2.hatched) || (d.deferredTiles h start lc).2) then [2] else []) ++
    (if drawn && live.any (fun p => p.2.state == .suspectFrozen) then [1] else []) ++
    (if drawn && hd.overdraw.isSome then [0] else []))

/-- The code of a greatest age in us (Table 3-4). -/
def ageCode (age : Nat) : Nat := if 1008000 < age then 253 else max 1 (cdiv age 4000)

/-- The code of the live evaluations in a region (R73, Table 3-4). -/
def regionCode (vs : List LEval) : Nat :=
  if vs.isEmpty then 0
  else if vs.any fun v => v.state == .noLive then 255
  else if vs.any fun v => v.state == .lost then 254
  else ageCode (maxL (vs.map (·.age)))

/-- Region (i, j) of a head (R84). -/
def Dev.region (d : Dev) (h i j : Nat) : Rect :=
  ⟨i * d.headW h / 4, j * d.headH h / 4, (i + 1) * d.headW h / 4, (j + 1) * d.headH h / 4⟩

/-- The 16 region codes of a frame, region (i, j) at 4j + i; all 0 on the card (R169). -/
def Dev.regionCodes (d : Dev) (h start lc : Nat) : List Nat :=
  let live := d.liveEvals h start lc
  (List.range 16).map fun r =>
    if (d.hd h).card then 0
    else regionCode ((live.filter fun p => p.1.meets (d.region h (r % 4) (r / 4))).map (·.2))

/-- The 32 bytes of a seal (Table 3-2). -/
def sealBytes (head flags alive pitch : Nat) (regions : List Nat) (crc : Nat) : Bytes :=
  let b := [byteOf head, byteOf flags] ++ be 4 alive ++ be 4 pitch ++ regions.map byteOf ++ be 2 (crc / 65536)
  b ++ be 4 (crc32c b)

/-- The seal of the present frame of head h. -/
def Dev.sealOf (d : Dev) (h crc : Nat) : Bytes :=
  let hd := d.hd h
  sealBytes h (d.sealFlags h hd.start hd.lineCycles) (hd.alive.getD 0) hd.pitch
    (d.regionCodes h hd.start hd.lineCycles) crc

/-! ### Layer status (Table 2-11) -/

/-- The flags of a layer's newest evaluation. -/
def Dev.layerFlags (d : Dev) (n : Nat) (e : Desc) (v : LEval) : Nat :=
  let tag : Option Tag := match v.shown with
    | some (.pic _ _ t) => some t
    | _ => none
  mask ((if v.clamped then [7] else []) ++ (if (d.ly n).underflow then [6] else []) ++
    (if v.badged then [5] else []) ++ (if v.hatched then [4] else []) ++ (if e.cls == 1 then [3] else []) ++
    (if tag.any fun t => t.integrity == .concealed then [2] else []) ++
    (if tag.any fun t => t.integrity == .tainted then [1] else []) ++
    (if tag.any fun t => t.cap.arrivalTimed then [0] else []))

/-! ### Write-back (R63, Table 6-9) -/

/-- The time, in ns, that what a layer shows carries into a write-back frame. -/
def Shown.carries : Shown → Option Nat
  | .pic _ _ t => some (t.cap.time - 1000 * t.cap.uncertainty)
  | .post _ _ t => if t = 0 then none else some t
  | .frame _ _ c => some c

/-- The time a write-back frame of head h carries (R63): the oldest over the layers that contribute to a pixel (R182). -/
def Dev.carriedTime (d : Dev) (h start lc : Nat) : Nat :=
  let ts := (tileList (d.vlayers h) ⟨0, 0, d.headW h, d.headH h⟩).filterMap fun l =>
    if l.2.1.evaluated then ((d.evalFor l.1 l.2.1 start lc).bind (·.shown)).bind Shown.carries else none
  match ts.min? with
  | some t => t
  | none => start

/-- The header of a write-back buffer (Table 6-9). -/
def Dev.wbHeader (d : Dev) (h crc carried : Nat) : Bytes :=
  let hd := d.hd h
  [byteOf h, byteOf (d.sealFlags h hd.start hd.lineCycles), byteOf (d.rn O.headWriteback h), byteOf (d.rn O.headTransfer h)] ++
    le 2 (d.headW h) ++ le 2 (d.headH h) ++ le 4 (hd.alive.getD 0) ++ le 4 hd.pitch ++ le 4 crc ++
    le 6 (carried / 10 ^ 9) ++ le 4 (carried % 10 ^ 9) ++ le 2 0 ++ le 8 hd.start ++ zeros 24

end Sys2Proof.Machine
end

