-- ==== Sys2Proof/Machine/Bivouac.lean ====
section
/-! DEFINITION. The bivouac cache (R210 to R216): copies, builds, banks; the meanings of BIVOUAC_BUILD_START,
BIVOUAC_BUILD_COMPLETE and BIVOUAC_READ_ERROR. -/

namespace Sys2Proof.Machine

/-- Change the cache. -/
def Dev.modBiv (d : Dev) (f : Bivouac → Bivouac) : Dev := { d with bivouac := f d.bivouac }

/-- The pipe that serves the head of a run. -/
def Dev.keyPipe (d : Dev) (k : CopyKey) : Nat := (d.pipeOf k.head).1

/-- The keys of the runs of head h under the table in effect. -/
def Dev.runKeys (d : Dev) (h : Nat) : List CopyKey :=
  if d.composed h then (d.tiles h).filterMap fun t =>
    if t.2.2.1.isEmpty then none else some (d.copyKey h t.1 t.2.1 t.2.2.1)
  else []

/-- The keys that a table in effect, armed or due has runs for (R215). -/
def Dev.reliedOn (d : Dev) : List CopyKey :=
  (d.allHeads.flatMap d.runKeys) ++
    ((List.range 8).flatMap fun g => ([(d.grp g).armed, (d.grp g).due].filterMap id).flatMap fun t =>
      let dv := d.withTable t
      (dv.headsOf g).flatMap dv.runKeys)

/-- The device as the table that a key's copy is built for makes it: the table in effect, else one armed or due (R212). -/
def Dev.asFor (d : Dev) (key : CopyKey) : Dev :=
  if (d.runKeys key.head).contains key then d
  else
    let g := d.grp (d.groupOf key.head)
    let dvs := ([g.armed, g.due].filterMap id).map fun t =>
      t.descs.foldl (fun (dv : Dev) p => dv.modLy p.1 fun y => { y with taps := tapsIn t.taps p.1 }) (d.withTable t)
    (dvs.find? fun dv => (dv.runKeys key.head).contains key).getD d

/-- Add a build for a key, unless one waits; a post during a running build asks for one more (R213). A lost copy's rebuild
is urgent (R216), and is the one that runs already if one does. -/
def Dev.wantBuild (d : Dev) (key : CopyKey) (urgent : Bool) : Dev :=
  d.modBiv fun b =>
    if b.builds.any fun x => x.key == key && !x.running then
      { b with builds := b.builds.map fun x => if x.key == key && !x.running then { x with urgent := x.urgent || urgent } else x }
    else if b.builds.any fun x => x.key == key then
      { b with builds := b.builds.map fun x => if x.key == key then { x with again := x.again || !urgent } else x }
    else { b with builds := b.builds ++ [{ key := key, trigger := d.now, urgent := urgent, running := false }] }

/-- When a table arms, builds start for those of its runs that lack a reusable copy (R212). -/
def Dev.buildsFor (d : Dev) (g : Nat) (tb : GTable) : Dev :=
  let dv := d.withTable tb
  ((dv.headsOf g).flatMap dv.runKeys).foldl (fun d k =>
    if d.bivouac.copies.any fun c => c.key == k then d else d.wantBuild k false) d

/-- Builds that no table in effect, armed or due needs are abandoned (R212). -/
def Dev.dropBuilds (d : Dev) : Dev :=
  let keep := d.reliedOn
  d.modBiv fun b => { b with builds := b.builds.filter fun x => keep.contains x.key }

/-- A post to a slot triggers a rebuild of every copy in use with a member that draws from it (R213). -/
def Dev.postTriggers (d : Dev) (slot : Nat) : Dev :=
  let draws (k : CopyKey) : Bool := k.members.any fun m => m.2.kind == 1 && m.2.source == slot
  let keys := ((d.bivouac.copies.map (·.key)) ++ ((d.bivouac.builds.filter (·.running)).map (·.key))).filter draws
  let keep := d.reliedOn
  ((keys.eraseDups).filter keep.contains).foldl (fun d k => d.wantBuild k false) d

/-- The order builds run in: those of lost copies first (R216), then by trigger, head, tile row, tile column (R213). -/
def Build.before (a b : Build) : Bool :=
  let k (x : Build) : List Nat := [if x.urgent then 0 else 1, x.trigger, x.key.head, x.key.row, x.key.col]
  k a ≤ k b

/-- Whether pipe k has cycles free beside its load (R213). -/
def Dev.pipeFree (d : Dev) (k : Nat) : Bool := d.pipeState k == .active && d.pipeLoad k < pipeLimit

/-- The next build of pipe k. -/
def Dev.nextBuild (d : Dev) (k : Nat) : Option Build :=
  (sortBy Build.before (d.bivouac.builds.filter fun b => !b.running && d.keyPipe b.key == k)).head?

/-- The newest post of each graphic member of a run: layer, buffer, data time. -/
def Dev.postsOf (d : Dev) (key : CopyKey) : List (Nat × Nat × Nat) :=
  key.members.filterMap fun m =>
    if m.2.kind = 1 then ((tget {} d.slots m.2.source).post).map fun p => (m.1, p.1, p.2) else none

/-- Blocks in use. -/
def Dev.blocksUsed (d : Dev) : Nat := sumL (d.bivouac.copies.map (·.blocks))

/-- Evict copies that are not relied on, least recently drawn first, until so many blocks are free (R215). -/
def Dev.evict (d : Dev) : Nat → Nat → Dev
  | 0, _ => d
  | n + 1, need =>
    if d.blocksUsed + need ≤ d.rn O.bivouacCapacity then d
    else
      let keep := d.reliedOn
      match (sortBy (fun a b => a.drawn ≤ b.drawn) (d.bivouac.copies.filter fun c => !keep.contains c.key && 0 < c.blocks)).head? with
      | none => d
      | some c => ((d.modBiv fun b => { b with copies := b.copies.filter (· != c) }).bump O.bivouacEvictions).evict n need

/-- The build of pipe k begins when none runs and cycles are free: it reads and pins each member's newest post (R213). -/
def Dev.buildStart (d : Dev) (k : Nat) : Dev :=
  if (d.bivouac.builds.any fun b => b.running && d.keyPipe b.key == k) || !d.pipeFree k then d
  else match d.nextBuild k with
    | none => d
    | some x => d.modBiv fun b => { b with builds := b.builds.map fun y =>
        if y.key == x.key && !y.running then { y with running := true, posts := d.postsOf x.key } else y }

/-- A pixel of a copy (R211): the members through stages 1 to 10 onto a transparent ground, premultiplied. -/
def Dev.copyPx (d : Dev) (dram : List Host.Cell) (key : CopyKey) (posts : List (Nat × Nat × Nat)) (x y : Nat) :
    Nat × Nat × Nat × Nat :=
  let r := key.members.foldl (fun (below : Rgb × Nat) m =>
    let e := m.2
    match d.visOf e with
    | none => below
    | some v =>
      if !v.holds x y then below
      else
        let sh : Option Shown := (posts.find? fun p => p.1 == m.1).map fun p => .post e.source p.2.1 p.2.2
        match d.layerPx dram m.1 e sh x y with
        | none => below
        | some s =>
          let a := if e.blend = 0 then 1023 else if e.blend = 1 then e.planeAlpha else (s.2 * e.planeAlpha + 511) / 1023
          (blendPx e s below.1, a + (below.2 * (1023 - a) + 511) / 1023)) ((0, 0, 0), 0)
  (r.1.1, r.1.2.1, r.1.2.2, r.2)

/-- The pixels of a copy, by rows. -/
def Dev.copyPixels (d : Dev) (dram : List Host.Cell) (key : CopyKey) (posts : List (Nat × Nat × Nat)) :
    List (List (Nat × Nat × Nat × Nat)) :=
  let t := d.tileRect key.head key.col key.row
  (List.range (t.y1 - t.y0)).map fun j => (List.range (t.x1 - t.x0)).map fun i => d.copyPx dram key posts (t.x0 + i) (t.y0 + j)

/-- Whether a copy is uniform: all its pixels equal (R215). -/
def uniform (p : List (List (Nat × Nat × Nat × Nat))) : Bool :=
  let l := p.flatten
  l.all fun v => some v == l.head?

/-- Blocks of a copy: none when uniform, and at most 80 (R215). -/
def blocksOf (p : List (List (Nat × Nat × Nat × Nat))) (blocks : Nat) : Nat := if uniform p then 0 else min 80 blocks

/-- The build of pipe k ends (R213, R215): it becomes a copy once blocks are free; else it waits and the device reports a
full cache. A post that came meanwhile asks for one further build. -/
def Dev.buildComplete (d : Dev) (dram : List Host.Cell) (k blocks bank : Nat) : Dev :=
  match d.bivouac.builds.find? fun b => b.running && d.keyPipe b.key == k with
  | none => d
  | some x =>
    let px := (d.asFor x.key).copyPixels dram x.key x.posts
    let need := blocksOf px blocks
    let d := d.evict (d.bivouac.copies.length + 1) need
    if d.rn O.bivouacCapacity < d.blocksUsed + need then d.raiseOnce sec 0 Code.bivouacFull
    else
      let c : Copy := { key := x.key, posts := x.posts, blocks := need, bank := bank, pixels := px, completed := d.now, drawn := d.now }
      let d := d.modBiv fun b => { b with
        copies := b.copies ++ [c]
        builds := b.builds.filterMap fun y =>
          if y.key == x.key && y.running then
            (if y.again then some { y with running := false, again := false, posts := [], trigger := d.now } else none)
          else some y }
      (d.bump O.bivouacBuilds)

/-- A bank is retired (R216): a spare takes its place while one is left, else the capacity falls by 4,096 blocks; its
copies are lost, and their rebuilds go first. -/
def Dev.retireBank (d : Dev) (bank reason : Nat) : Dev :=
  let own : Own := { code := Code.bivouacBankRetired, p0 := bank }
  let lost := d.bivouac.copies.filter fun c => c.bank == bank
  let d := ((d.modBiv fun b => { b with
    retired := b.retired ++ [bank], copies := b.copies.filter fun c => c.bank != bank
    spares := b.spares.filter (· != bank) }).recordRetired 8 bank).raiseOwn own
  let d : Dev := match d.bivouac.spares with
    | s :: rest =>
      let d := ((d.modBiv fun b => { b with spares := rest }).abandonTest 8 s).raise Code.bivouacSpareEngaged s bank
      d.noteLasting 8 bank own reason (some s) rest.length 3
    | [] =>
      (d.setN O.bivouacCapacity 0 ((d.rn O.bivouacCapacity : Int) - 4096)).noteLasting 8 bank own reason none 0 1
  lost.foldl (fun (d : Dev) c => (d.raise Code.bivouacCopyLost c.key.head c.key.col c.key.row).wantBuild c.key true) d

/-- BIVOUAC_BUILD_START (R213, R215). -/
def execBivouacBuildStart (t : Nat) (k : Fin 18) (s : State) : Host.Outcome State Fault Refusal :=
  s.run t fun d => d.when d.alive fun d => d.buildStart k

/-- BIVOUAC_BUILD_COMPLETE (R64, R211, R213). -/
def execBivouacBuildComplete (t : Nat) (k : Fin 18) (blocks : Nat) (bank : Fin 68) (s : State) :
    Host.Outcome State Fault Refusal :=
  s.run t fun d => d.when d.alive fun d => d.buildComplete s.dram k blocks bank

/-- BIVOUAC_READ_ERROR (R216, R413, R414): the lines read are drawn in the hatch for this frame; the retry decides. -/
def execBivouacReadError (t : Nat) (bank : Fin 68) (h : Fin 32) (line0 line1 : Nat) (retryOk : Bool) (s : State) :
    Host.Outcome State Fault Refusal :=
  s.run t fun d => d.when (d.alive && !d.bivouac.retired.contains bank.val) fun d =>
    let d := if (d.hd h).inFrame then d.modHd h fun x => { x with
        bivLines := x.bivLines ++ [(line0, line1)] } else d
    if retryOk && !d.transientOver 8 bank then
      let own : Own := { code := Code.bivouacTransient, p0 := bank }
      (d.raiseOwn own).noteTransient 8 bank own
    else d.retireBank bank (if retryOk then 2 else 1)

end Sys2Proof.Machine
end

