-- ==== Sys2Proof/Machine/Cairn.lean ====
section
/-! DEFINITION. The meanings of the Cairn unit's commands (chapter 2): LAYER_CUT_OFF, STREAM_LOSS_TIMEOUT. -/

namespace Sys2Proof.Machine

/-- LAYER_CUT_OFF (R47, R65). -/
def execLayerCutOff (t : Nat) (layer : Fin 512) (s : State) : Host.Outcome State Fault Refusal :=
  s.run t fun d => d.when d.alive fun d => d.cutOff layer

/-- STREAM_LOSS_TIMEOUT (R65): the stream is lost; its layers show it from their next cut-off. -/
def execStreamLossTimeout (t : Nat) (st : Fin 128) (s : State) : Host.Outcome State Fault Refusal :=
  s.run t fun d => d.when (d.alive && (d.ing st).bound && d.streamLost st (six d.now)) fun d =>
    d.modIng st fun g => { g with lost := true }

end Sys2Proof.Machine
end

