-- ==== Sys2Proof/Machine/DecodeOps.lean ====
section
/-! DEFINITION. The decode cluster's shared operations (R52 to R57, R139 to R164, R419): contexts and their states, restarts,
placement, scheduling, slots, tags, freeze runs. -/

namespace Sys2Proof.Machine

/-! ### Placement with displacement (R419), for decode and encode contexts alike -/

/-- What placing works on: the active engines, whether a set of contexts fits one engine, the load of a set, the priority
value of a context. -/
structure Placer where
  engines : List Nat
  fits : List Nat → Bool
  load : List Nat → Nat
  prio : Nat → Nat

/-- The contexts an assignment gives an engine. -/
def onEngine (asg : List (Nat × Nat)) (e : Nat) : List Nat := (asg.filter fun p => p.2 == e).map (·.1)

/-- The active engine with the lowest load on which a context fits (R152). -/
def Placer.auto (p : Placer) (asg : List (Nat × Nat)) (c : Nat) : Option Nat :=
  (sortBy (fun a b => p.load (onEngine asg a) ≤ p.load (onEngine asg b))
    (p.engines.filter fun e => p.fits (c :: onEngine asg e))).head?

/-- The contexts an engine must shed for c to fit: those of strictly greater priority value, greatest first. -/
def Placer.shedsFor (p : Placer) (asg : List (Nat × Nat)) (c e : Nat) : Option (List Nat) :=
  let on := onEngine asg e
  let cand := sortBy (fun a b => p.prio b < p.prio a || (p.prio a == p.prio b && b ≤ a)) (on.filter fun x => p.prio c < p.prio x)
  (List.range (cand.length + 1)).findSome? fun n =>
    let out := cand.take n
    if p.fits (c :: on.filter fun x => !out.contains x) then some out else none

/-- The key engines are compared by: least important sheds, then fewest, then number (R419). -/
def Placer.shedKey (p : Placer) (e : Nat) (out : List Nat) : List Nat :=
  [1000 - ((out.map p.prio).min?).getD 999, out.length, e]

/-- Place c: automatically, by displacement, or shed it. The new assignment and what is shed. -/
def Placer.place (p : Placer) (st : List (Nat × Nat) × List Nat) (c : Nat) : List (Nat × Nat) × List Nat :=
  match p.auto st.1 c with
  | some e => (tset st.1 c e, st.2)
  | none =>
    let opts := p.engines.filterMap fun e => (p.shedsFor st.1 c e).map fun out => (e, out)
    match (sortBy (fun (a b : Nat × List Nat) => p.shedKey a.1 a.2 ≤ p.shedKey b.1 b.2) opts).head? with
    | some (e, out) => (tset (st.1.filter fun q => !out.contains q.1) c e, st.2 ++ out)
    | none => (st.1, st.2 ++ [c])

/-- Contexts in the order of R419: priority value, then number. -/
def Placer.order (p : Placer) (cs : List Nat) : List Nat :=
  sortBy (fun a b => p.prio a < p.prio b || (p.prio a == p.prio b && a ≤ b)) cs

/-! ### Contexts -/

/-- The declared load of a stream, from the values in effect (R151). -/
def Dev.declaredLoad (d : Dev) (s : Nat) : Nat :=
  streamLoad (d.rn O.streamMaxWidth s) (d.rn O.streamMaxHeight s) (d.rn O.streamFrameRate s)

/-- The limit of an engine in kpx/s (R152). -/
abbrev engineLimit : Nat := 1000000

/-- Placing decode contexts. -/
def Dev.decPlacer (d : Dev) : Placer :=
  { engines := d.activeEngines
    fits := fun l => sumL (l.map d.declaredLoad) ≤ engineLimit
    load := fun l => sumL (l.map d.declaredLoad)
    prio := fun s => d.rn O.streamPriority s }

/-- The present assignment of bound, unshed contexts. -/
def Dev.decAsg (d : Dev) : List (Nat × Nat) :=
  d.allStreams.filterMap fun s =>
    let c := d.cx s
    if c.state == .unbound || c.state == .shed || c.engine = 0xFF then none else some (s, c.engine)

/-- The engine that decodes a picture of a stream now. -/
def Dev.decodingOn (d : Dev) (s : Nat) : Option Nat :=
  (List.range 9).find? fun e => match (d.eng e).busy with
    | some b => b.stream == s
    | none => false

/-- Codes of dec_state (Table 5-4). -/
def CtxState.code : CtxState → Nat
  | .unbound => 0 | .waiting => 1 | .clean => 2 | .tainted => 3 | .halted => 4 | .shed => 5

/-- Count an error of Table 5-7 and raise its code at most once per second per stream (R158). -/
def Dev.decError (d : Dev) (s code : Nat) : Dev := (d.bump O.streamErrors s).raiseOnce sec s code s

/-- Where feedback to a source goes: the address media came from, or the source address that is set (R124). -/
def Dev.rtcpPeer (d : Dev) (s : Nat) : Option (Bytes × Nat) :=
  match (d.ing s).peer with
  | some p => some (p.1, if d.rf O.streamRtcpMux s then p.2 else p.2 + 1)
  | none =>
    let a := d.rb O.streamSrcAddr s
    if a.isEmpty then none else some (a, d.rn O.streamDstPort s + 1)

/-- A full intra request in the format of RFC 5104 (R124). -/
def firPacket (ssrc media n : Nat) : Bytes :=
  [0x84, 0xCE] ++ be 2 4 ++ be 4 ssrc ++ be 4 0 ++ be 4 media ++ [byteOf n] ++ zeros 3

/-- Ask for a full intra request (R124, R147, R161). -/
def Dev.requestFir (d : Dev) (s : Nat) : Dev :=
  let d := (d.bump O.streamFirSent s).raise Code.decIntraRequested s
  match d.rtcpPeer s with
  | none => d
  | some p =>
    let r := d.fresh
    (r.2.modIng s fun g => { g with firSeq := (g.firSeq + 1) % 256 }).sendUdp (16 * d.rn O.streamPort s + 10) p.1 p.2
      (firPacket (r.1 % 2 ^ 32) ((d.ing s).ssrc.getD 0) (d.ing s).firSeq)

/-- Raise a change of state (R145). -/
def Dev.setCtxState (d : Dev) (s : Nat) (new : CtxState) : Dev :=
  let old := (d.cx s).state
  if old == new then d
  else ((d.modCx s fun c => { c with state := new }).setN O.streamDecState s new.code).raise Code.decContextState s
    old.code new.code

/-- The slots of a stream that pins have let go are cleared when they are doomed (R146). -/
def Dev.purge (d : Dev) (s : Nat) : Dev :=
  d.modCx s fun c => { c with slots := c.slots.filter fun sl => !(sl.doomed && !d.picPinned s sl.id) }

/-- Clear a context's slots; pinned ones go when their last line has left (R146). -/
def Dev.clearSlots (d : Dev) (s : Nat) : Dev :=
  (d.modCx s fun c => { c with slots := c.slots.map fun sl =>
    { sl with doomed := true, isRef := false, isLong := false, awaitOut := false } }).purge s

/-- What a rebinding or an SSRC change empties beside a restart: the jitter buffer, counted, the sequence and the capture
mapping (R122, R146). -/
def Dev.clearIngest (d : Dev) (s : Nat) : Dev :=
  let lost := ((d.ing s).jitter.filter fun a => !a.dead).length
  (d.bumpBy O.streamAuLost s lost).modIng s fun g => { g with
    jitter := [], sr := none, lastReleased := none, maxSeq := none, badSeq := none }

/-- The effects of a context restart but for the state (R42, R57, R65, R146). -/
def Dev.clearCtx (d : Dev) (s : Nat) : Dev :=
  let g := d.ing s
  let lost := g.releaseQ.length + (d.cx s).jobs.length
  let d := (d.clearSlots s).bumpBy O.streamAuLost s lost
  let d := d.modCx s fun c => { c with
    ps := none, jobs := [], run := { c.run with resetPending := true }, outSeq := 0, recoverAt := none, rasl := false
    firNext := none }
  let d := d.modIng s fun g => { g with releaseQ := [], boundAt := d.now, timing := 0, lost := false }
  d.setN O.streamTiming s 0

/-- Entry to WAITING: the timer of R147 starts; a wait of 0 asks at once. -/
def Dev.enterWaiting (d : Dev) (s : Nat) : Dev :=
  let d := d.setCtxState s .waiting
  let w := d.rn O.streamStartWait s
  if w = 0 then
    (d.modCx s fun c => { c with startTimer := none, firNext := some (d.now + 1000000 * d.rn O.streamFirInterval s) }).requestFir s
  else d.modCx s fun c => { c with startTimer := some (d.now + 1000000 * w), firNext := none }

/-- A context restart (R146): a SHED context stays SHED. -/
def Dev.restartNow (d : Dev) (s : Nat) : Dev :=
  let d := d.clearCtx s
  if (d.cx s).state == .shed || (d.cx s).state == .unbound then d else d.enterWaiting s

/-- A context is shed (R145, R163, R419). -/
def Dev.shedNow (d : Dev) (s : Nat) : Dev :=
  let pr := d.rn O.streamPriority s
  let d := d.modCx s fun c => { c with engine := 0xFF, jobs := [], startTimer := none, firNext := none }
  (((d.setN O.streamEngineNow s 0xFF).setCtxState s .shed).raise Code.decStreamShed s).logShed false 4 s Code.healthStreamShed pr
    |>.raise Code.healthStreamShed s pr

/-- A context is unbound (R145, R146). -/
def Dev.unbindNow (d : Dev) (s : Nat) : Dev :=
  let d := (d.clearCtx s).modCx s fun c => { c with engine := 0xFF, startTimer := none, firNext := none }
  (d.setN O.streamEngineNow s 0xFF).setCtxState s .unbound

/-- What a code of `atEnd` does. -/
def Dev.ctxEffect (d : Dev) (s code : Nat) : Dev :=
  if code = 1 then d.unbindNow s else if code = 2 then d.shedNow s else d.restartNow s

/-- Unbinding, shedding and restart wait for the end of a picture in decoding; the higher of R148 stays. -/
def Dev.ctxEvent (d : Dev) (s code : Nat) : Dev :=
  if (d.decodingOn s).isSome then
    d.modCx s fun c => { c with atEnd := some (match c.atEnd with
      | some x => min x code
      | none => code) }
  else d.ctxEffect s code

/-- Give a context an engine (R152). -/
def Dev.setEngine (d : Dev) (s e : Nat) : Dev := (d.modCx s fun c => { c with engine := e }).setN O.streamEngineNow s e

/-- Reassign contexts under R163 and R419: all is decided, then moves and sheds follow. -/
def Dev.reassign (d : Dev) (cs : List Nat) : Dev :=
  let p := d.decPlacer
  let asg := d.decAsg.filter fun q => !cs.contains q.1
  let r := (p.order cs).foldl p.place (asg, [])
  let d := r.1.foldl (fun (d : Dev) q => if (d.cx q.1).engine = q.2 then d else d.setEngine q.1 q.2) d
  r.2.foldl (fun (d : Dev) s => d.ctxEvent s 2) d

/-! ### Access units and buffers -/

/-- The buffers of a stream in use (R121). -/
def Dev.auHeld (d : Dev) (s : Nat) : Nat :=
  let g := d.ing s
  (g.jitter.filter fun a => !a.dead).length + g.releaseQ.length + (d.cx s).jobs.length +
    (if (d.decodingOn s).isSome then 1 else 0)

/-- A picture is lost (R140). -/
def Dev.pictureLost (d : Dev) (s code : Nat) : Dev := (d.decError s code).bump O.streamAuLost s

/-! ### Scheduling (R149 to R155) -/

/-- The samples of the last second (R154). -/
def Dev.recentSamples (d : Dev) (s : Nat) : Nat :=
  sumL (((d.cx s).budget.filter fun b => d.now < b.1 + sec).map (·.2))

/-- Whether a context is over its budget: above 110 % of its load. -/
def Dev.overBudget (d : Dev) (s : Nat) : Bool := 1100 * d.declaredLoad s < d.recentSamples s

/-- The cut-offs, in sixths of a ns, of layer e in its head's frame in progress and the next two. -/
def Dev.cutOffs (d : Dev) (e : Desc) : List Nat :=
  match d.visOf e with
  | none => []
  | some v =>
    let h := e.head; let hd := d.hd h
    let cut (start lc : Nat) : Nat := lineAt start lc v.y0 - 320 * lc
    let n := d.nextStart h
    let n2 := d.gridNext (d.groupOf h) n (d.headDiv h)
    [cut n (d.lineCycles h n), cut n2 (d.lineCycles h n2)] ++ (if hd.inFrame then [cut hd.start hd.lineCycles] else [])

/-- The input cut-off of an encode context after an instant (R247). -/
def Dev.encCutOff (d : Dev) (c t : Nat) : Nat := d.gridNext (d.rn O.encodeGroup c) t (d.rn O.encodeDivisor c)

/-- The deadline of a stream at a picture boundary, in sixths of a ns (R149). -/
def Dev.deadline (d : Dev) (s release : Nat) : Nat :=
  let ls := (d.activeT.filter fun p => p.2.kind == 0 && p.2.source == s && p.2.enabled && d.composed p.2.head).flatMap
    fun p => d.cutOffs p.2
  let es := ((List.range 32).filter fun c => d.rn O.encodeSourceMode c == 2 && d.rn O.encodeSource c == s).map
    fun c => six (d.encCutOff c d.now)
  match ((ls ++ es).filter fun x => six d.now < x).min? with
  | some x => x
  | none => six (release + 100 * sec / max 1 (d.rn O.streamFrameRate s))

/-- A slot for a new picture: an unused one, or the oldest neither referenced, awaiting output nor pinned (R155). -/
def Dev.slotFor (d : Dev) (s : Nat) : Option Nat :=
  let c := d.cx s
  match (List.range (d.rn O.streamPicSlots s)).find? fun i => !c.slots.any fun sl => sl.id == i with
  | some i => some i
  | none =>
    let free := c.slots.filter fun sl => sl.tag.isSome && !sl.isRef && !sl.isLong && !sl.awaitOut && !d.picPinned s sl.id
    let seq (sl : Slot) : Nat := (sl.tag.map (·.sequence)).getD 0
    ((sortBy (fun a b => seq a ≤ seq b) free).head?).map (·.id)

/-- The contexts an engine may start: a parsed unit, a slot, no picture of theirs in decoding. A HALTED context decodes
nothing (R144). -/
def Dev.ready (d : Dev) (e : Nat) : List Nat :=
  (d.engCtxs e).filter fun s =>
    (d.cx s).state != .halted && !(d.cx s).jobs.isEmpty && (d.slotFor s).isSome && (d.decodingOn s).isNone

/-- The choice of R149. -/
def Dev.choose (d : Dev) (e : Nat) : Option Nat :=
  let key (s : Nat) : List Nat :=
    [if d.overBudget s then 1 else 0, d.deadline s ((d.cx s).jobs.head?.map (·.au.release) |>.getD 0),
      d.rn O.streamPriority s, s]
  (sortBy (fun a b => key a ≤ key b) (d.ready e)).head?

/-- Take a slot for a picture and mark the references it keeps (R155, R156). -/
def Dev.takeSlot (d : Dev) (s : Nat) (j : Job) : Dev :=
  match d.slotFor s with
  | none => d
  | some i =>
    let sl : Slot := { id := i, rtp := j.au.rtpTs, tag := none, poc := j.hdr.poc, isRef := j.hdr.isRef, isLong := false, awaitOut := true
                       planes := ⟨0, 0, 8, [], [], []⟩, colour := {}, checksum := 0 }
    d.modCx s fun c => { c with slots := (c.slots.filter fun x => x.id != i).map (fun x =>
        { x with isRef := j.hdr.keepShort.contains x.poc && !x.doomed, isLong := j.hdr.keepLong.contains x.poc && !x.doomed }) ++ [sl] }

/-- An idle engine starts the picture R149 chooses. -/
def Dev.startDecode (d : Dev) (e : Nat) : Dev :=
  if d.engState e != .active || (d.eng e).busy.isSome then d
  else
    let d := (d.engCtxs e).foldl (fun (d : Dev) s => d.purge s) d
    match d.choose e with
    | none => d
    | some s =>
      match (d.cx s).jobs with
      | [] => d
      | j :: rest =>
        let beyond := d.overBudget s
        let d := (d.takeSlot s j).modCx s fun c => { c with
          jobs := rest, budget := (d.now, j.ps.width * j.ps.height) :: c.budget.filter fun b => d.now < b.1 + sec }
        let d := d.modEng e fun x => { x with busy := some { stream := s, job := j, tries := 0 }, since := d.now }
        if beyond && d.mayRaise (Code.decRateExcess * 65536 + s) sec then
          (d.bump O.streamOverBudget s).raiseOnce sec s Code.decRateExcess s
        else d

/-- Every idle engine looks for work. -/
def Dev.kickDecode (d : Dev) : Dev := d.activeEngines.foldl (fun (d : Dev) e => d.startDecode e) d

/-! ### Content: signature, checksum, freeze run -/

/-- The signature of a rectangle of luma (R54). -/
def lumaSig (p : Planes) (x0 y0 w h : Nat) : Nat :=
  let sample (x y : Nat) : Nat := (if p.depth = 8 then 4 else 1) * (p.y.getD y []).getD x 0
  let block (bx by_ : Nat) : Nat :=
    sumL ((List.range 16).map fun i => sample (x0 + 4 * bx + i % 4) (y0 + 4 * by_ + i / 4))
  ((List.range (h / 4)).foldl (fun c by_ => (List.range (w / 4)).foldl (fun c bx =>
    cvByte 0 c (byteOf (block bx by_ / 64))) c) 0xFFFFFFFF) ^^^ 0xFFFFFFFF

/-- The signature of a picture and whether it is over the probe rectangle (R54, R55). -/
def Dev.signature (d : Dev) (s : Nat) (p : Planes) : Nat × Bool :=
  let v := d.rn O.streamProbeRect s
  let x := v / 2 ^ 48 % 65536; let y := v / 2 ^ 32 % 65536; let w := v / 65536 % 65536; let h := v % 65536
  let mode := d.rn O.streamFreezeMode s
  if mode = 2 then (0, false)
  else if mode = 0 && 0 < w && x + w ≤ p.w && y + h ≤ p.h then (lumaSig p x y w h, true)
  else (lumaSig p 0 0 p.w p.h, false)

/-- A probe rectangle that does not fit is reported once until a picture fits again (R55). -/
def Dev.noteProbe (d : Dev) (s : Nat) (fits : Bool) : Dev :=
  if d.rn O.streamFreezeMode s != 0 then d
  else if fits then d.modIng s fun g => { g with probeLatch := false }
  else if (d.ing s).probeLatch then d
  else (d.modIng s fun g => { g with probeLatch := true }).raise Code.cairnProbeInvalid s

/-- The picture checksum (R143). -/
def checksum (p : Planes) : Nat :=
  let plane (c : Nat) (rows : List (List Nat)) : Nat :=
    rows.foldl (fun c r => r.foldl (fun c v => crcUpdate c (be 2 v)) c) c
  plane (plane (plane 0xFFFFFFFF p.y) p.cb) p.cr ^^^ 0xFFFFFFFF

/-- The window of a stream's freeze run in ns (R56). -/
def Dev.freezeWindow (d : Dev) (s : Nat) : Nat :=
  let w := d.rn O.streamFreezeWindow s
  1000000 * (if w ≠ 0 then w else if d.rn O.streamFreezeMode s = 0 then 2000 else 10000)

/-- The run after the output of a picture, and the picture's tag with its run fields (R56). In mode 2 there is no
signature, and no run (DEDUCED, log 29). -/
def Dev.runUpdate (d : Dev) (s : Nat) (t : Tag) : FreezeRun × Tag :=
  let r := (d.cx s).run
  if t.integrity != .clean then (r, { t with runStart := r.start, frozen := r.frozen })
  else if d.rn O.streamFreezeMode s = 2 then
    ({ r with start := t.cap.time, resetPending := true, frozen := false }, { t with runStart := t.cap.time, frozen := false })
  else
    let r := if r.resetPending || t.signature ≠ r.sig || t.probe ≠ r.probe then
        { r with sig := t.signature, probe := t.probe, start := t.cap.time, resetPending := false } else r
    let f := r.start + d.freezeWindow s ≤ t.cap.time
    ({ r with frozen := f }, { t with runStart := r.start, frozen := f })

/-- A picture is output (R56, R157): it takes the next sequence number and the run goes on. -/
def Dev.outputSlot (d : Dev) (s id : Nat) : Dev :=
  match d.slotOf s id with
  | none => d
  | some sl =>
    match sl.tag with
    | none => d
    | some t =>
      let was := (d.cx s).run.frozen
      let r := d.runUpdate s { t with sequence := (d.cx s).outSeq }
      let d := d.modCx s fun c => { c with
        run := r.1, outSeq := c.outSeq + 1
        slots := c.slots.map fun x => if x.id = id then { x with tag := some r.2, awaitOut := false } else x }
      let d := (d.setN O.streamFreezeState s (if r.1.frozen then 1 else 0)).setN O.streamRunStart s (dtime r.1.start)
      let d := if t.integrity == .clean then d.setN O.streamSignature s t.signature else d
      let d := if t.integrity == .tainted then d.bump O.streamTainted s else d
      if r.1.frozen && !was then d.raise Code.streamFreezeSuspect s
      else if !r.1.frozen && was then d.raise Code.streamFreezeCleared s
      else d

/-- The output process: with more than `reorder` pictures awaiting output, the first in output order goes out. -/
def Dev.outputAll (d : Dev) (s reorder : Nat) : Nat → Dev
  | 0 => d
  | n + 1 =>
    let w := (d.cx s).slots.filter fun sl => sl.awaitOut && sl.tag.isSome && !sl.doomed
    if w.length ≤ reorder then d
    else match (sortBy (fun (a b : Slot) => a.poc ≤ b.poc) w).head? with
      | none => d
      | some sl => (d.outputSlot s sl.id).outputAll s reorder n

/-- The colour class of a picture from its VUI (R203): transfer 16 is PQ, 18 HLG, else primaries 9 make it SDR-2020. -/
def psColour (p : ParamSet) : Colour :=
  { cls := if p.transfer = 16 then .pq else if p.transfer = 18 then .hlg else if p.primaries = 9 then .sdr2020 else .sdr709
    fullRange := p.fullRange
    matrix2020 := p.matrix = 9 || (p.matrix = 2 && p.primaries = 9) }

end Sys2Proof.Machine
end

