-- ==== Sys2Proof/Machine/IngestOps.lean ====
section
/-! DEFINITION. Classification (R107, R114, R115), RTP and access units (R41 to R43, R116 to R123): shared operations of the
network ports and the ingest. -/

namespace Sys2Proof.Machine

/-! ### Addresses (DESIGN CHOICE, log 19) -/

/-- The parts of a byte string between separators. -/
def splitOn (sep : Byte) (b : Bytes) : List Bytes :=
  b.foldr (fun c acc => if c == sep then [] :: acc else match acc with
    | [] => [[c]]
    | x :: r => (c :: x) :: r) [[]]

/-- The value of a decimal literal. -/
def decLit (b : Bytes) : Nat := b.foldl (fun n c => 10 * n + (c.toNat - 48)) 0

/-- The value of a hexadecimal digit. -/
def hexDigit (c : Nat) : Nat := if c ≤ 57 then c - 48 else if c ≤ 70 then c - 55 else c - 87

/-- The value of a hexadecimal literal. -/
def hexLit (b : Bytes) : Nat := b.foldl (fun n c => 16 * n + hexDigit c.toNat) 0

/-- The low 32 bits of an address literal. -/
def addrLow32 (a : Bytes) : Nat :=
  if isV6 a then match (splitOn 0x3A a).reverse with
    | x :: y :: _ => hexLit y * 65536 + hexLit x
    | _ => 0
  else ((splitOn 0x2E a).map decLit).foldl (fun n v => 256 * n + v) 0

/-- The 128 bits of an IPv6 literal; one run of zero groups may be left out. -/
def addr128 (a : Bytes) : Nat :=
  let parts := splitOn 0x3A a
  let pre := parts.takeWhile fun x => !x.isEmpty
  let post := (parts.drop pre.length).filter fun x => !x.isEmpty
  let zeros := List.replicate (8 - pre.length - post.length) 0
  (pre.map hexLit ++ zeros ++ post.map hexLit).foldl (fun n v => 65536 * n + v) 0

/-- The first hexadecimal group of an IPv6 literal, or the first number of an IPv4 one. -/
def addrHead (a : Bytes) : Nat :=
  if isV6 a then hexLit ((splitOn 0x3A a).headD []) else decLit ((splitOn 0x2E a).headD [])

/-- Whether an address literal is multicast: 224.0.0.0/4 or ff00::/8. -/
def isMulticast (a : Bytes) : Bool :=
  if isV6 a then 0xFF00 ≤ addrHead a else 224 ≤ addrHead a && addrHead a ≤ 239

/-- The MAC address of a multicast address (RFC 1112, RFC 2464). -/
def groupMac (a : Bytes) : Nat :=
  if isV6 a then 0x333300000000 + addrLow32 a else 0x01005E000000 + addrLow32 a % 2 ^ 23

/-- Hexadecimal digits of a number without leading zeros. -/
def hexText (n : Nat) : Bytes :=
  let d (v : Nat) : Byte := byteOf (if v < 10 then 48 + v else 87 + v)
  if n < 16 then [d n] else if n < 256 then [d (n / 16), d (n % 16)]
  else if n < 4096 then [d (n / 256), d (n / 16 % 16), d (n % 16)]
  else [d (n / 4096), d (n / 256 % 16), d (n / 16 % 16), d (n % 16)]

/-- The MAC address of port p (R107). -/
def Dev.portMac (d : Dev) (p : Nat) : Nat := d.rn O.identityMacBase + p

/-- The link-local address of port p, formed from its MAC address (R107). -/
def Dev.linkLocal (d : Dev) (p : Nat) : Bytes :=
  let m := d.portMac p
  let g1 := (m / 2 ^ 32 % 65536) ^^^ 0x0200
  let g2 := (m / 2 ^ 24 % 256) * 256 + 0xFF
  let g3 := 0xFE00 + m / 65536 % 256
  ascii "fe80::" ++ hexText g1 ++ [0x3A] ++ hexText g2 ++ [0x3A] ++ hexText g3 ++ [0x3A] ++ hexText (m % 65536)

/-- The addresses of port p in use (R107). -/
def Dev.portAddrs (d : Dev) (p : Nat) : List Bytes :=
  [d.rb O.portIpv4Addr p, d.rb O.portIpv6Addr p, d.linkLocal p].filter fun a => !a.isEmpty && !(d.port p).conflicts.contains a

/-! ### Keys (R114, R115) -/

/-- Whether stream s is bound to port p. -/
def Dev.boundTo (d : Dev) (p s : Nat) : Bool := (d.ing s).bound && d.rn O.streamPort s == p

/-- The destination address of a stream's key: none stands for the device's own (an RTSP session in unicast, R125). -/
def Dev.keyDst (d : Dev) (s : Nat) : Option Bytes :=
  if d.rn O.streamSourceMode s = 2 then (tget {} d.rtsp s).group else some (d.rb O.streamDstAddr s)

/-- The destination UDP port of a stream's key (R125). -/
def Dev.keyPort (d : Dev) (s : Nat) : Nat :=
  if d.rn O.streamSourceMode s = 2 then 50000 + 2 * s else d.rn O.streamDstPort s

/-- Whether a UDP packet on port p of a VLAN matches the key of stream s, both ports when RTCP has its own (R114). -/
def Dev.keyMatches (d : Dev) (p vlan : Nat) (ip : IpPart) (u : UdpPart) (s : Nat) : Bool :=
  let src := d.rb O.streamSrcAddr s
  d.boundTo p s && d.rn O.streamVlan s == vlan &&
    (match d.keyDst s with
      | some a => a == ip.dst
      | none => (d.portAddrs p).contains ip.dst) &&
    (u.dport == d.keyPort s || (!d.rf O.streamRtcpMux s && u.dport == d.keyPort s + 1)) && (src.isEmpty || src == ip.src)

/-- The context a packet belongs to: a key with a source address wins (R115). -/
def Dev.contextOf (d : Dev) (p vlan : Nat) (ip : IpPart) (u : UdpPart) : Option Nat :=
  let cs := d.allStreams.filter (d.keyMatches p vlan ip u)
  match cs.find? fun s => !(d.rb O.streamSrcAddr s).isEmpty with
  | some s => some s
  | none => cs.head?

/-- Whether a packet of a context is RTCP (R114). -/
def Dev.isRtcp (d : Dev) (s : Nat) (u : UdpPart) : Bool :=
  if d.rf O.streamRtcpMux s then 200 ≤ leAt u.payload 1 1 && leAt u.payload 1 1 ≤ 204 else u.dport == d.keyPort s + 1

/-- The multicast filter of a port (R114): the groups of the contexts bound to it and those of the protocols service
firmware runs: all hosts, all nodes and the solicited-node groups of its IPv6 addresses. -/
def Dev.macFilter (d : Dev) (p : Nat) : List Nat :=
  let groups := d.allStreams.filterMap fun s => if d.boundTo p s then
    (d.keyDst s).bind fun a => if isMulticast a then some (groupMac a) else none else none
  groups ++ [0x01005E000001, 0x333300000001] ++
    ((d.portAddrs p).filter isV6).map fun a => 0x3333FF000000 + addrLow32 a % 2 ^ 24

/-- Where a frame goes: ring of the port, step of Table 4-5, context. -/
structure Placed where
  ring : Nat
  rule : Nat
  stream : Nat
deriving DecidableEq, Repr

/-- The first step of Table 4-5 that matches; none drops the frame. -/
def Dev.classify (d : Dev) (p : Nat) (f : EthFrame) : Option Placed :=
  let vlan := (f.tags.head?.map (·.2)).getD 0
  if !f.fcsOk || f.len < 64 || 9216 < f.len || 2 ≤ f.tags.length then none
  else if !(f.dst == d.portMac p || f.dst == 0xFFFFFFFFFFFF || f.dst == 0x0180C200000E || (d.macFilter p).contains f.dst) then none
  else if f.etherType = 0x88F7 then some ⟨0, 3, 0xFF⟩
  else if !(vlan == d.rn O.portVlan p || d.allStreams.any fun s => d.boundTo p s && d.rn O.streamVlan s == vlan) then none
  else match f.ip with
    | none => if f.etherType = 0x0806 then some ⟨2, 5, 0xFF⟩ else none
    | some ip =>
      match (if ip.fragment then none else ip.udp) with
      | none => some ⟨2, 5, 0xFF⟩
      | some u =>
        match d.contextOf p vlan ip u with
        | some s => if d.isRtcp s u then some ⟨3, 6, s⟩ else some ⟨d.rn O.streamRing s, 6, s⟩
        | none =>
          let own := (d.portAddrs p).contains ip.dst
          if own && u.dport == d.rn O.qdpPort then some ⟨1, 7, 0xFF⟩
          else if own then some ⟨2, 8, 0xFF⟩
          else none

/-! ### Receive rings (R108 to R112) -/

/-- The instant a frame received now carries: the timestamp point corrected for board delay (R130). -/
def Dev.arrivalOf (d : Dev) (p : Nat) : Nat := ((d.now : Int) + d.ri O.portTsRxAdjust p).toNat

/-- The descriptor of a frame (Table 4-3). -/
def rxDescOf (f : EthFrame) (arrival : Nat) (pl : Placed) : RxDesc :=
  let u := f.ip.bind fun i => if i.fragment then none else i.udp
  let media := 4 ≤ pl.ring
  let v6 := match f.ip with
    | some i => i.v6
    | none => false
  { arrival := arrival % 2 ^ 48, len := f.len - 4, vlan := (f.tags.head?.map (·.2)).getD 0, pcp := (f.tags.head?.map (·.1)).getD 0
    tagged := !f.tags.isEmpty, rule := pl.rule, stream := pl.stream
    l4off := if u.isSome then 14 + 4 * f.tags.length + (if v6 then 40 else 20) + 8 else 0
    rtpSeq := if media then (u.map fun x => beAt x.payload 2 2).getD 0 else 0
    csumBad := (u.map (·.csumBad)).getD false, fragment := (f.ip.map (·.fragment)).getD false
    marker := media && u.any fun x => 128 ≤ leAt x.payload 1 1, rtp := media, udp := u.isSome
    ipv6 := v6, ipv4 := f.ip.isSome && !v6, multicast := f.dst / 2 ^ 40 % 2 == 1, more := false
    data := match u with
      | some x => x.payload
      | none => f.data }

/-- Deliver a frame to a receive ring of service firmware, or drop it for want of a descriptor (R112). -/
def Dev.deliverRx (d : Dev) (n : Nat) (x : RxDesc) : Dev :=
  if d.rn O.ringSize n ≤ (d.ring n).rx.length then (d.bump O.ringOverflows n).raiseOnce sec n Code.netRingOverflow n
  else (d.modRing n fun r => { r with rx := r.rx ++ [x] }).bump O.ringFrames n

/-- Service firmware has handled the oldest frame of a ring and returns its descriptor (DESIGN CHOICE, log 13). -/
def Dev.returnRx (d : Dev) (n : Nat) : Dev := d.modRing n fun r => { r with rx := r.rx.drop 1 }

/-! ### Depacketising (R116, R117) -/

/-- An RTP packet: payload type, marker, sequence, timestamp, SSRC, payload. -/
structure Rtp where
  pt : Nat
  marker : Bool
  seq : Nat
  ts : Nat
  ssrc : Nat
  data : Bytes
deriving DecidableEq, Repr

/-- Parse an RTP packet; none when it is not well formed (R116). -/
def parseRtp (b : Bytes) : Option Rtp :=
  let b0 := leAt b 0 1; let b1 := leAt b 1 1
  let off := 12 + 4 * (b0 % 16)
  let ext := b0 / 16 % 2 = 1
  let hdr := if ext then off + 4 + 4 * beAt b (off + 2) 2 else off
  let pad := if b0 / 32 % 2 = 1 then leAt b (b.length - 1) 1 else 0
  if b.length < 12 || b0 / 64 ≠ 2 || b.length < off + (if ext then 4 else 0) || b.length < hdr + pad ||
      (b0 / 32 % 2 = 1 && pad = 0) then none
  else some ⟨b1 % 128, 128 ≤ b1, beAt b 2 2, beAt b 4 4, beAt b 8 4, (b.take (b.length - pad)).drop hdr⟩

/-- The start code of Annex B. -/
def startCode : Bytes := [0, 0, 0, 1]

/-- The NAL units of an aggregation packet, each after its 16-bit size; none when a size runs past the end. -/
def aggUnits : Nat → Bytes → Option Bytes
  | 0, _ => none
  | n + 1, b =>
    if b.isEmpty then some []
    else
      let k := beAt b 0 2
      if b.length < 2 + k || b.length < 2 then none
      else (aggUnits n (b.drop (2 + k))).map fun r => startCode ++ slice b 2 k ++ r

/-- What depacketising answers. -/
inductive Depack where
  | ok (data : Bytes) (starts : Bool)
  | malformed
  | unsupported
deriving DecidableEq, Repr

/-- An aggregation packet's data. -/
def depackAgg (b : Bytes) : Depack :=
  match aggUnits (b.length + 1) b with
  | some x => if x.isEmpty then .malformed else .ok x true
  | none => .malformed

/-- Depacketise an H.264 payload (RFC 6184, modes 0 and 1). -/
def depack264 (b : Bytes) : Depack :=
  let t := leAt b 0 1 % 32
  if b.isEmpty then .malformed
  else if 1 ≤ t && t ≤ 23 then .ok (startCode ++ b) true
  else if t = 24 then depackAgg (b.drop 1)
  else if t = 28 then
    let f := leAt b 1 1
    if b.length < 2 then .malformed
    else if 128 ≤ f then .ok (startCode ++ [byteOf (leAt b 0 1 / 32 * 32 + f % 32)] ++ b.drop 2) true
    else .ok (b.drop 2) false
  else .unsupported

/-- Depacketise an H.265 payload (RFC 7798 without DONL). -/
def depack265 (b : Bytes) : Depack :=
  let h := leAt b 0 1
  let t := h / 2 % 64
  if b.length < 2 then .malformed
  else if t ≤ 47 then .ok (startCode ++ b) true
  else if t = 48 then depackAgg (b.drop 2)
  else if t = 49 then
    let f := leAt b 2 1
    if b.length < 3 then .malformed
    else if 128 ≤ f then .ok (startCode ++ [byteOf (h / 128 * 128 + f % 64 * 2 + h % 2), byteOf (leAt b 1 1)] ++ b.drop 3) true
    else .ok (b.drop 3) false
  else .unsupported

/-! ### Sequence numbers (R118; RFC 3550 A.1) -/

/-- What a sequence number is: new in order or within the misorder window with its extension, or too far away. -/
def extendSeq (g : Ingest) (seq : Nat) : Option Nat × Option Nat :=
  match g.maxSeq with
  | none => (some (65536 + seq), none)
  | some m =>
    let delta := (seq + 65536 - m % 65536) % 65536
    if delta < 3000 then (some (m + delta), none)
    else if 65536 - 100 ≤ delta then (some (m + delta - 65536), g.badSeq)
    else if g.badSeq = some seq then (some ((m / 65536 + 1) * 65536 + seq), none)
    else (none, some ((seq + 1) % 65536))

/-- The signed 32-bit difference of two RTP timestamps. -/
def tsDiff (a b : Nat) : Int := toSigned 32 (a + 2 ^ 32 - b % 2 ^ 32)

/-! ### Capture times (R41 to R43, R123) -/

/-- The grandmaster the time base follows under R41 (Table 4-6). -/
def Dev.followed (d : Dev) : Option Nat :=
  if d.time.state == .locked || d.time.state == .holdover || d.time.state == .grandmaster then some d.time.gm else none

/-- The capture time in ns that a sender report maps an RTP timestamp to (R123). -/
def mapCapture (m : SrMap) (utc : Int) (scale : Nat) (ts : Nat) : Int :=
  let tsr : Int := ((m.ntpSec : Int) - 2208988800 + (if scale = 0 then utc else 0)) * 1000000000 +
    (rdiv (m.ntpFrac * 1000000000) (2 ^ 32) : Nat)
  tsr + rdivI (tsDiff ts m.rtp * 100000) 9

/-- The grandmaster a source's RFC 7273 signalling names. -/
def Dev.sourceGm (d : Dev) (s : Nat) : Option Nat :=
  match ((d.ing s).sr).bind (·.gm) with
  | some g => some g
  | none => (tget {} d.rtsp s).rfc7273Gm

/-- The timing record of an access unit that ends at an instant (R41 to R43, R142). -/
def Dev.captureOf (d : Dev) (s : Nat) (a : Au) (done : Nat) : Capture :=
  let arr : Capture := { time := a.first, uncertainty := d.rn O.streamArrivalUncertainty s, arrivalTimed := true, clamped := false }
  match (d.ing s).sr with
  | none => arr
  | some m =>
    if done < m.arrival + 30 * sec && d.followed.isSome && d.sourceGm s == d.followed then
      let c := mapCapture m (d.ri O.timeUtcOffset) (d.rn O.streamSrTimescale s) a.rtpTs
      if (a.first : Int) < c then { time := a.first, uncertainty := 0, arrivalTimed := false, clamped := true }
      else { time := c.toNat, uncertainty := 0, arrivalTimed := false, clamped := false }
    else arr

/-- An access unit ends (R118): its completion, its timing record, the stream's timing. -/
def Dev.endAu (d : Dev) (s : Nat) (uid done : Nat) (marker : Bool) : Dev :=
  match (d.ing s).jitter.find? fun a => a.uid == uid && !a.ended with
  | none => d
  | some a =>
    let cap := d.captureOf s a done
    let tm := if cap.arrivalTimed then 2 else 1
    let was := (d.ing s).timing
    let d := d.modIng s fun g => { g with
      jitter := g.jitter.map fun x => if x.uid = uid then { x with ended := true, marker := marker, done := done, cap := cap } else x
      lastEnd := some done, lost := false, timing := tm }
    let d := d.setN O.streamTiming s tm
    let d := if was = tm then d else d.raise (if tm = 1 then Code.sourceClockMapped else Code.sourceArrivalTimed) s
    if cap.clamped then d.raiseOnce sec s Code.captureClockAhead s else d

/-! ### Access units (R118 to R122) -/

/-- Discard an access unit in the jitter buffer: its buffer is free, its later packets are dropped with it (R121). -/
def Dev.discardAu (d : Dev) (s uid code : Nat) : Dev :=
  ((d.modIng s fun g => { g with jitter := g.jitter.map fun x => if x.uid = uid then { x with dead := true, pkts := [] } else x }).bump
    O.streamAuLost s).raiseOnce sec s code s

/-- The order of access units in the jitter buffer: RTP timestamps. -/
def auBefore (a b : Au) : Bool := tsDiff a.rtpTs b.rtpTs ≤ 0

/-- The access unit of a timestamp, a new one when there is none yet. -/
def Dev.auFor (d : Dev) (s ts arrival seq : Nat) : Dev × Option Au :=
  match (d.ing s).jitter.find? fun a => a.rtpTs == ts with
  | some a => (d, some a)
  | none =>
    let full := d.rn O.streamAuSlots s ≤ d.auHeld s
    let a : Au := { uid := (d.ing s).nextUid, rtpTs := ts, first := arrival, pkts := [], firstSeq := seq, dead := full }
    let d := d.modIng s fun g => { g with nextUid := g.nextUid + 1, jitter := insertBy (fun x y => auBefore x y) a g.jitter }
    (if full then (d.bump O.streamAuLost s).raiseOnce sec s Code.auNoSlot s else d, some a)

/-- Insert a packet in order of sequence; a duplicate changes nothing. -/
def insertPkt (p : AuPkt) : List AuPkt → List AuPkt
  | [] => [p]
  | q :: r => if p.seq = q.seq then q :: r else if p.seq < q.seq then p :: q :: r else q :: insertPkt p r

/-- Add an accepted packet to its access unit (R118, R121). -/
def Dev.addPacket (d : Dev) (s arrival : Nat) (ts seq : Nat) (marker starts : Bool) (data : Bytes) : Dev :=
  let r := d.auFor s ts arrival seq
  match r.2 with
  | none => r.1
  | some a =>
    let d := r.1.modIng s fun g => { g with jitter := g.jitter.map fun x =>
      if x.uid = a.uid then
        { x with firstSeq := min x.firstSeq seq, pkts := if x.dead then [] else insertPkt ⟨seq, starts, data⟩ x.pkts } else x }
    let size := sumL ((((d.ing s).jitter.find? fun x => x.uid == a.uid).map (·.pkts)).getD [] |>.map fun p => p.data.length)
    let d := if d.rn O.streamAuBuffer s < size then d.discardAu s a.uid Code.auOversize else d
    let before := ((d.ing s).jitter.filter fun x => tsDiff x.rtpTs ts < 0 && !x.ended).map (·.uid)
    let d := before.foldl (fun (d : Dev) u => d.endAu s u arrival false) d
    let after := (d.ing s).jitter.any fun x => 0 < tsDiff x.rtpTs ts
    if marker || after then d.endAu s a.uid arrival marker else d

/-- Whether a packet's access unit has been released (R118). -/
def Ingest.released (g : Ingest) (ts : Nat) : Bool :=
  match g.lastReleased with
  | some x => tsDiff ts x ≤ 0
  | none => false

/-- A context adopts an SSRC (R122): the first one quietly, a later one with a rebinding restart. -/
def Dev.adoptSsrc (d : Dev) (s ssrc : Nat) : Dev :=
  let later := (d.ing s).ssrc.isSome
  let d := if later then ((d.raise Code.rtpSsrcChanged s).clearIngest s).ctxEvent s 3 else d
  (d.modIng s fun g => { g with ssrc := some ssrc, ssrcIdle := false, maxSeq := none, badSeq := none, sr := none }).setN O.streamSsrc s ssrc

/-- Whether the SSRC of a packet is the context's, after any adoption (R122). -/
def Dev.ssrcOk (d : Dev) (s ssrc arrival : Nat) : Dev × Bool :=
  let g := d.ing s
  match g.ssrc with
  | some x =>
    if x = ssrc then (d, true)
    else if g.ssrcIdle || g.ssrcLast + 200000000 ≤ arrival then (d.adoptSsrc s ssrc, true)
    else (d, false)
  | none => (d.adoptSsrc s ssrc, true)

/-- A media packet of stream s (R116 to R122). -/
def Dev.media (d : Dev) (s arrival : Nat) (src : Bytes) (u : UdpPart) : Dev :=
  match (if u.tooLong then none else parseRtp u.payload) with
  | none => d.raiseOnce sec s Code.rtpMalformed s
  | some r =>
    if r.pt ≠ d.rn O.streamPayloadType s then d.raiseOnce sec s Code.rtpMalformed s
    else
      let a := d.ssrcOk s r.ssrc arrival
      if !a.2 then a.1
      else
        let d := a.1.modIng s fun g => { g with ssrcLast := arrival, ssrcIdle := false, peer := some (src, u.sport) }
        match (if d.rn O.streamCodec s = 0 then depack264 r.data else depack265 r.data) with
        | .malformed => d.raiseOnce sec s Code.rtpMalformed s
        | .unsupported => d.raiseOnce sec s Code.rtpPayloadUnsupported s
        | .ok data starts =>
          let x := extendSeq (d.ing s) r.seq
          let d := d.modIng s fun g => { g with
            badSeq := x.2, maxSeq := match x.1, g.maxSeq with
              | some n, some m => some (max n m)
              | some n, none => some n
              | none, m => m }
          match x.1 with
          | none => d.bump O.streamPacketsLate s
          | some n =>
            if (d.ing s).released r.ts then d.bump O.streamPacketsLate s
            else (d.bump O.streamRxPackets s).addPacket s arrival r.ts n r.marker starts data

/-! ### Release (R119, R120) -/

/-- Whether packets form an unbroken range. -/
def unbroken : List AuPkt → Bool
  | a :: b :: r => b.seq == a.seq + 1 && unbroken (b :: r)
  | _ => true

/-- Whether an access unit is complete (R119); `next` is the first sequence number of the unit after it. -/
def Au.complete (a : Au) (next : Option Nat) : Bool :=
  match a.pkts.head?, a.pkts.getLast? with
  | some f, some l => !a.dead && f.startsNal && unbroken a.pkts && (a.marker || next.all fun n => n == l.seq + 1)
  | _, _ => false

/-- Release the units whose hold has passed, in order (R120). -/
def Dev.releaseAus (d : Dev) (s : Nat) : Nat → Dev
  | 0 => d
  | n + 1 =>
    match (d.ing s).jitter with
    | [] => d
    | a :: rest =>
      if !a.ended || d.now < a.done + 1000000 * d.rn O.streamJitter s then d
      else
        let d := d.modIng s fun g => { g with jitter := rest, lastReleased := some a.rtpTs }
        let d : Dev :=
          if a.dead then d
          else if a.complete (rest.head?.map (·.firstSeq)) then
            (d.modIng s fun g => { g with releaseQ := g.releaseQ ++ [{ a with release := d.now }] }).bump O.streamAuComplete s
          else (d.bump O.streamAuLost s).raise Code.auIncomplete s
        d.releaseAus s n

end Sys2Proof.Machine
end

