-- ==== Sys2Proof/Machine/SessionOps.lean ====
section
/-! DEFINITION. Transmission on a port (R106, R111, R113, R130, R134), RTCP and RTSP of the bound contexts (R124, R125), group
membership (R126): shared operations. Firmware's own protocol messages are sent as structured text where the spec names
the protocol only (DESIGN CHOICE, log 19). -/

namespace Sys2Proof.Machine

/-! ### Transmission -/

/-- The time a frame takes at the port's rate, in ns, preamble and FCS included (Table 4-1). -/
def Dev.txTime (d : Dev) (p len : Nat) : Nat :=
  cdiv ((max 60 len + 12) * 8) (if d.rn O.portMode p = 1 then 10 else 25)

/-- The transmit rings of a port in the order R113 serves them. -/
def Dev.txOrder (d : Dev) (p : Nat) : List Nat :=
  let l := (d.port p).lastRelay
  [8, 9] ++ ((List.range 4).map fun i => 12 + (l + 1 + i) % 4) ++ [10, 11]

/-- The head of a transmit ring. -/
def Dev.txHead (d : Dev) (n : Nat) : Option TxDesc := (d.ring n).tx.head?

/-- ns until the launch time of a descriptor; none when it has no launch time or it has been reached. -/
def Dev.untilLaunch (d : Dev) (x : TxDesc) : Option Nat :=
  if x.launchEn && !compareFires x.launch d.now then some ((x.launch % 2 ^ 48 + 2 ^ 48 - ns48 d.now) % 2 ^ 48) else none

/-- Take the head of a ring off it and complete it. -/
def Dev.completeHead (d : Dev) (n status : Nat) : Dev :=
  match (d.ring n).tx with
  | [] => d
  | x :: r => (d.modRing n fun g => { g with tx := r }).complete n x status 0

/-- What the port completes as it reads its ring heads: launches more than 1 s ahead (status 3), what the closed gate of
R395 refuses (status 4). -/
def Dev.readHeads (d : Dev) (p : Nat) : Dev :=
  (d.txOrder p).foldl (fun (d : Dev) q =>
    let n := 16 * p + q
    match d.txHead n with
    | none => d
    | some x =>
      if d.gated && x.gateable n then d.completeHead n 4
      else match d.untilLaunch x with
        | some w => if sec < w then d.completeHead n 3 else d
        | none => d) d

/-- The launch guard: ns until the earliest pending launch at the head of any ring of the port. -/
def Dev.guard (d : Dev) (p : Nat) : Option Nat :=
  ((d.txOrder p).filterMap fun q => (d.txHead (16 * p + q)).bind d.untilLaunch).min?

/-- The frame the port starts next: its ring (R113). -/
def Dev.nextTx (d : Dev) (p : Nat) : Option Nat :=
  let g := d.guard p
  (d.txOrder p).find? fun q => match d.txHead (16 * p + q) with
    | none => false
    | some x => (d.untilLaunch x).isNone && g.all fun w => d.txTime p x.frameLen < w

/-- The bytes of an inserted time (Table 4-7). -/
def insertedTime (fmt ns : Nat) : Bytes :=
  if fmt = 1 then be 6 (ns / sec) ++ be 4 (ns % sec)
  else if fmt = 2 then be 6 (ns / sec) ++ be 4 (ns % sec) ++ be 2 0
  else if fmt = 3 then be 6 (ns % 2 ^ 48)
  else if fmt = 4 then be 8 (ns % 2 ^ 64)
  else []

/-- Replace bytes of a string from an offset. -/
def overlay (b : Bytes) (off : Nat) (x : Bytes) : Bytes := b.take off ++ x ++ b.drop (off + x.length)

/-- The departure time of a frame that starts now (R130, R134). -/
def Dev.departure (d : Dev) (p : Nat) : Nat := ((d.now : Int) + d.ri O.portTsTxAdjust p).toNat

/-- A frame with its departure time inserted; `ts_offset` counts from the start of the frame. -/
def Dev.withTime (d : Dev) (p : Nat) (x : TxDesc) : TxDesc :=
  if x.tsFormat = 0 then x
  else { x with payload := overlay x.payload (x.tsOffset - (x.frameLen - x.payload.length)) (insertedTime x.tsFormat (d.departure p)) }

/-- Whether a descriptor's launch is past its late window (R113). -/
def Dev.launchLate (d : Dev) (p : Nat) (x : TxDesc) : Bool :=
  x.launchEn && compareFires (x.launch + 1000 * d.rn O.portLaunchLateWindow p + 1) d.now

/-- The late window of the head of a ring passes: dropped with status 2, or to be sent with status 1 (R113). -/
def Dev.lateHead (d : Dev) (n : Nat) : Dev :=
  match d.txHead n with
  | none => d
  | some x =>
    if !d.launchLate (n / 16) x || x.late then d
    else
      let d := if x.dropLate then d.completeHead n 2
        else d.modRing n fun r => { r with tx := { x with late := true } :: r.tx.drop 1 }
      d.raiseOnce sec n Code.netLaunchLate n

/-- A port starts a frame (R113). -/
def Dev.txStart (d : Dev) (p : Nat) : Dev :=
  let d := (d.txOrder p).foldl (fun (d : Dev) q => d.lateHead (16 * p + q)) (d.readHeads p)
  match d.nextTx p with
  | none => d
  | some q =>
    match (d.ring (16 * p + q)).tx with
    | [] => d
    | x :: r =>
      (d.modRing (16 * p + q) fun g => { g with tx := r }).modPort p fun y => { y with
        sending := some (q, d.withTime p x, d.departure p), lastRelay := if 12 ≤ q then q - 12 else y.lastRelay }

/-- The frame being sent is complete (R109, R111, R130). -/
def Dev.txDone (d : Dev) (p : Nat) : Dev :=
  match (d.port p).sending with
  | none => d
  | some (q, x, dep) =>
    ((d.modPort p fun y => { y with sending := none }).complete (16 * p + q) x (if x.late then 1 else 0)
      (if x.tsCapture then dep % 2 ^ 48 else 0)).emit (.frame p q x.id dep x.payload)

/-- The link of a port goes down: everything posted completes with status 5 (R106). -/
def Dev.linkDown (d : Dev) (p : Nat) : Dev :=
  let cur := match (d.port p).sending with
    | some (q, x, _) => [(q, x)]
    | none => []
  let d := (d.modPort p fun y => { y with linkUp := false, sending := none }).setN O.portLink p 0
  let all := cur ++ (d.txOrder p).flatMap fun q => (d.ring (16 * p + q)).tx.map fun x => (q, x)
  let d := (d.txOrder p).foldl (fun (d : Dev) q => d.modRing (16 * p + q) fun r => { r with tx := [] }) d
  (all.foldl (fun (d : Dev) y => d.complete (16 * p + y.1) y.2 5 0) d).raise Code.netLinkDown p

/-! ### Groups (R126) -/

/-- A membership report of a group: IGMPv3 or MLDv2, record type, group, source. -/
def Dev.sendReport (d : Dev) (p recType : Nat) (j : Join) : Dev :=
  let dst := if isV6 j.group then ascii "ff02::16" else ascii "224.0.0.22"
  d.sendUdp (16 * p + 10) dst 0 ([byteOf (if isV6 j.group then 143 else 0x22), byteOf recType] ++ j.group ++ [0x20] ++ j.src)

/-- The record type that states a membership: INCLUDE {source} or EXCLUDE {}. -/
def Join.mode (j : Join) : Nat := if j.src.isEmpty then 2 else 1

/-- Whether two memberships are of one group, VLAN and source. -/
def Join.same (a b : Join) : Bool := a.vlan == b.vlan && a.group == b.group && a.src == b.src

/-- Join the group of stream s when its destination is multicast: the first of two unsolicited reports (R126). -/
def Dev.joinGroup (d : Dev) (s : Nat) : Dev :=
  let p := d.rn O.streamPort s
  match d.keyDst s with
  | none => d
  | some a =>
    let j : Join := { vlan := d.rn O.streamVlan s, group := a, src := d.rb O.streamSrcAddr s, again := true }
    if !isMulticast a || (d.port p).joins.any j.same then d
    else (d.modPort p fun y => { y with joins := y.joins ++ [j] }).sendReport p (j.mode + 2) j

/-- Leave the groups of port p that no bound context uses (R126). -/
def Dev.leaveGroups (d : Dev) (p : Nat) : Dev :=
  let used (j : Join) : Bool := d.allStreams.any fun s =>
    d.boundTo p s && d.keyDst s == some j.group && d.rn O.streamVlan s == j.vlan && d.rb O.streamSrcAddr s == j.src
  let out := (d.port p).joins.filter fun j => !used j
  let d := d.modPort p fun y => { y with joins := y.joins.filter used }
  out.foldl (fun (d : Dev) j => d.sendReport p (if j.src.isEmpty then 3 else 6) j) d

/-! ### RTSP (R125) -/

/-- RTSP state of stream s. -/
def Dev.rts (d : Dev) (s : Nat) : Rtsp := tget {} d.rtsp s

/-- stream[s].rtsp_state (Table 4-13). -/
def rtspCode (st : Nat) : Nat := if st = 0 then 0 else if st ≤ 3 then 1 else if st = 4 then 2 else 3

/-- Change it and publish stream[s].rtsp_state. -/
def Dev.modRts (d : Dev) (s : Nat) (f : Rtsp → Rtsp) : Dev :=
  let r := f (d.rts s)
  ({ d with rtsp := tset d.rtsp s r }).setN O.streamRtspState s (rtspCode r.state)

/-- The host part of an rtsp URL. -/
def urlHost (u : Bytes) : Bytes := (splitOn 0x3A ((splitOn 0x2F (u.drop 7)).headD [])).headD []

/-- Send an RTSP request for stream s. -/
def Dev.sendRtsp (d : Dev) (s : Nat) (method : String) : Dev :=
  let u := d.rb O.streamRtspUrl s
  d.sendUdp (16 * d.rn O.streamPort s + 10) (urlHost u) 554 (ascii method ++ [0x20] ++ u ++ ascii " RTSP/2.0")

/-- The session of a context starts with DESCRIBE. -/
def Dev.rtspStart (d : Dev) (s : Nat) : Dev := (d.modRts s fun r => { r with state := 1 }).sendRtsp s "DESCRIBE"

/-- A session fails or is lost (R125): retry after 1, 2 and 4 s, then every 8 s. -/
def Dev.rtspFail (d : Dev) (s : Nat) : Dev :=
  (d.modRts s fun r => { r with state := 5, step := r.step + 1, due := d.now + min 8 (2 ^ r.step) * sec, group := none }).raise
    Code.rtspSessionFailed s

/-- The session of a context ends with TEARDOWN when it is unbound or bound anew. -/
def Dev.rtspStop (d : Dev) (s : Nat) : Dev :=
  let st := (d.rts s).state
  let d := if 2 ≤ st && st ≤ 4 then d.sendRtsp s "TEARDOWN" else d
  if st = 0 then d else d.modRts s fun _ => {}

/-- A reply of the server (R123, R125). -/
def Dev.rtspReply (d : Dev) (s : Nat) (r : RtspReply) : Dev :=
  match r, (d.rts s).state with
  | .described clock inter savp rtsps v1 don gm, 1 =>
    if clock ≠ 90000 || inter || savp || rtsps || v1 || (d.rn O.streamCodec s = 1 && 0 < don) then d.rtspFail s
    else (d.modRts s fun x => { x with state := 2, rfc7273Gm := gm }).sendRtsp s "SETUP"
  | .setUp g, 2 => ((d.modRts s fun x => { x with state := 3, group := g }).joinGroup s).sendRtsp s "PLAY"
  | .playing timeout, 3 =>
    (d.modRts s fun x => { x with state := 4, step := 0, timeout := timeout, due := d.now + timeout * sec / 2 }).raise
      Code.rtspSessionUp s
  | .failed, st => if 1 ≤ st && st ≤ 4 then d.rtspFail s else d
  | .lost, st => if 1 ≤ st && st ≤ 4 then d.rtspFail s else d
  | _, _ => d

/-! ### RTCP (R124) -/

/-- A receiver report of stream s (RFC 3550): what the spec gives the device no statistic for is free (DESIGN CHOICE, log 9). -/
def Dev.sendRr (d : Dev) (s : Nat) : Dev :=
  match d.rtcpPeer s with
  | none => d
  | some p =>
    let g := d.ing s
    let r := d.freshBytes 12
    let mid (m : SrMap) : Nat := m.ntpSec % 65536 * 65536 + m.ntpFrac / 65536
    let lsr := match g.sr with
      | some m => be 4 (mid m) ++ be 4 ((d.now - m.arrival) * 65536 / sec)
      | none => zeros 8
    r.2.sendUdp (16 * d.rn O.streamPort s + 10) p.1 p.2
      ([0x81, 0xC9] ++ be 2 7 ++ r.1.take 4 ++ be 4 (g.ssrc.getD 0) ++ slice r.1 4 4 ++ be 4 (g.maxSeq.getD 0) ++
        slice r.1 8 4 ++ lsr)

end Sys2Proof.Machine
end

