-- ==== Sys2Proof/Machine/TimeBase.lean ====
section
/-! DEFINITION. The time base (R127 to R133): states of Table 4-6, grandmaster selection, corrections; the meanings of the
PTP and grandmaster commands. -/

namespace Sys2Proof.Machine

/-- Change the time base. -/
def Dev.modTime (d : Dev) (f : TimeBase → TimeBase) : Dev := { d with time := f d.time }

/-- The nominal increment of 2.5 ns in units of 2^-48 ns (R127). -/
abbrev nominalInc : Nat := 0x0002800000000000

/-- The increment restricted to so many ppm around nominal. -/
def clampInc (ppm v : Nat) : Nat :=
  (clampI ((nominalInc : Int) - nominalInc * ppm / 1000000) ((nominalInc : Int) + nominalInc * ppm / 1000000) v).toNat

/-- The code of time.state (Table 4-6). -/
def TimeState.code : TimeState → Nat
  | .free => 0 | .acquiring => 1 | .locked => 2 | .holdover => 3 | .grandmaster => 4

/-- The ports that run PTP (R129). -/
def Dev.ptpPorts (d : Dev) : List Nat := [d.rn O.timePtpPort, d.rn O.timePtpPortAlt].filter (· < 4)

/-- The clock identity of the device, formed from its base MAC address. -/
def Dev.ownClock (d : Dev) : Nat :=
  let m := d.rn O.identityMacBase
  m / 2 ^ 24 * 2 ^ 40 + 0xFFFE * 2 ^ 24 + m % 2 ^ 24

/-- Enter a state of Table 4-6 with its code (R131). -/
def Dev.setTime (d : Dev) (st : TimeState) : Dev :=
  let old := d.time.state
  if old == st then d
  else
    let d := (d.modTime fun x => { x with state := st, inBound := 0, outBound := 0 }).setN O.timeState 0 st.code
    let d := if (old == .locked || old == .holdover || old == .grandmaster) && (st == .free || st == .acquiring) then
        d.raise Code.timeUnlocked else d
    if st == .locked then d.raise Code.timeLocked
    else if st == .holdover then d.raise Code.timeHoldover
    else d

/-- Follow a grandmaster: a change from another one is reported (R129). -/
def Dev.follow (d : Dev) (gm : Nat) : Dev :=
  let old := d.time.gm
  if old = gm then d
  else
    let d := (d.modTime fun x => { x with gm := gm, inBound := 0 }).setN O.timeGmIdentity 0 gm
    if old = 0 || gm = 0 then d else d.raise Code.timeGmChanged

/-- The order of the best master clock algorithm on what Announce carries here: priority1, priority2, identity. -/
def betterClock (a b : Nat × Nat × Nat) : Bool := [a.1, a.2.1, a.2.2] ≤ [b.1, b.2.1, b.2.2]

/-- The better master among the ports, with its port (R129). -/
def Dev.bestMaster (d : Dev) : Option (Nat × Nat × Nat × Nat) :=
  (sortBy (fun (a b : Nat × Nat × Nat × Nat) => betterClock a.2 b.2) d.time.masters).head?

/-- Whether the device itself wins grandmaster selection (R129). -/
def Dev.winsSelection (d : Dev) : Bool :=
  d.rf O.timeGmCapable && match d.bestMaster with
    | some m => betterClock (d.rn O.timePriority1, d.rn O.timePriority2, d.ownClock) m.2
    | none => true

/-- Become grandmaster (Table 4-6). -/
def Dev.becomeGm (d : Dev) : Dev := ((d.setTime .grandmaster).follow d.ownClock).modTime fun x => { x with port := 0xFF }

/-- Grandmaster selection after an Announce or a timeout (R129, R131). -/
def Dev.selectMaster (d : Dev) : Dev :=
  if d.winsSelection then (if d.time.state == .grandmaster then d else d.becomeGm)
  else match d.bestMaster with
    | none => d
    | some m =>
      let d := d.modTime fun x => { x with port := m.1 }
      if d.time.state == .free || d.time.state == .grandmaster then (d.setTime .acquiring).follow m.2.2.2 else d

/-- The servo's output of a Sync, within so many ppm of nominal (R128, R132, R133). -/
def Dev.servoOut (d : Dev) (ppm servo : Nat) : Dev :=
  let v := clampInc ppm servo
  (d.setN O.timeIncrement 0 v).modTime fun x => { x with
    servoLog := (d.now, v) :: x.servoLog.filter fun p => d.now < p.1 + 64 * sec }

/-- Correct device time in ACQUIRING (R132): slew up to 1 ms, else step; a backward step only before any head has
emitted. -/
def Dev.correct (d : Dev) (offset : Int) (servo : Nat) : Dev :=
  let slew (d : Dev) : Dev := d.servoOut (d.rn O.timeSlewLimit) servo
  if offset.natAbs ≤ 1000000 || (0 < offset && d.time.emitted) then slew d
  else
    let step := -offset
    let d := { d with clock := ((d.clock : Int) + step * 2 ^ 48).toNat }
    let w := ofSigned 64 step
    (d.bump O.timeSteps).raise Code.timeStepped 0 0 (w % 2 ^ 32) (w / 2 ^ 32)

/-- A Sync is measured in ACQUIRING: 16 in a row within 1 us lock (Table 4-6). -/
def Dev.syncAcquiring (d : Dev) (offset : Int) (servo : Nat) : Dev :=
  let n := if offset.natAbs ≤ 1000 then d.time.inBound + 1 else 0
  let d := d.modTime fun x => { x with inBound := n }
  let d := if d.rf O.timeServo then d.correct offset servo else d
  if 16 ≤ n then d.setTime .locked else d

/-- A Sync from the selected master (R131): the state by Table 4-6, then the correction. -/
def Dev.sync (d : Dev) (gm : Nat) (offset : Int) (servo : Nat) : Dev :=
  let d := (d.modTime fun x => { x with lastOffset := offset }).setN O.timeOffset 0 offset
  let st := d.time.state
  if (st == .locked || st == .holdover) && d.time.gm ≠ gm then (d.setTime .acquiring).follow gm
  else match st with
    | .acquiring => (d.follow gm).syncAcquiring offset servo
    | .locked =>
      let n := if 10000 < offset.natAbs then d.time.outBound + 1 else 0
      let d := d.modTime fun x => { x with outBound := n }
      if 4 ≤ n then d.setTime .acquiring
      else if d.rf O.timeServo then d.servoOut 1000 servo else d
    | .holdover => if offset.natAbs ≤ 10000 then d.setTime .locked else d.setTime .acquiring
    | _ => d

/-- PTP_SYNC_RECEIVED (R128, R131, R132). -/
def execPtpSyncReceived (t : Nat) (p : Fin 4) (gm : Nat) (offset : Int) (servo : Nat) (s : State) :
    Host.Outcome State Fault Refusal :=
  s.run t fun d => d.when (d.alive && d.ptpPorts.contains p.val) fun d =>
    let d := d.returnRx (16 * p)
    if d.time.port = p.val then d.sync gm offset servo else d

/-- PTP_ANNOUNCE_RECEIVED (R129, R131). The offset of UTC comes from the Announce of the selected master (Table 4-9). -/
def execPtpAnnounceReceived (t : Nat) (p : Fin 4) (gm priority1 priority2 : Nat) (utc : Int) (s : State) :
    Host.Outcome State Fault Refusal :=
  s.run t fun d => d.when (d.alive && d.ptpPorts.contains p.val) fun d =>
    let d := (d.returnRx (16 * p)).modTime fun x => { x with masters := tset x.masters p.val (priority1, priority2, gm) }
    let d := d.selectMaster
    if d.time.port = p.val then d.setN O.timeUtcOffset 0 utc else d

/-- A gPTP message (IEEE 802.1AS): type, domain 0, the device's identity and port, sequence, body. -/
def Dev.ptpMessage (d : Dev) (p typ seq : Nat) (body : Bytes) : Bytes :=
  [byteOf (0x10 + typ), 0x02] ++ be 2 (34 + body.length) ++ zeros 16 ++ be 8 d.ownClock ++ be 2 (p + 1) ++ be 2 (seq % 65536) ++
    [0, 0] ++ body

/-- Send a gPTP message on ring 8 of a port, its departure captured; `ins` inserts the departure time as the origin
timestamp (R130, R134). -/
def Dev.sendPtp (d : Dev) (p typ seq : Nat) (body : Bytes) (ins : Bool) : Dev :=
  let r := d.fresh
  let m := r.2.ptpMessage p typ seq body
  r.2.post (16 * p + 8) { id := r.1, payload := m, frameLen := 14 + m.length, tsCapture := true
                          tsFormat := if ins then 1 else 0, tsOffset := 48 }

/-- PTP_PDELAY_RECEIVED (R129): a request is answered with a response and its follow-up. -/
def execPtpPdelayReceived (t : Nat) (p : Fin 4) (request : Bool) (s : State) : Host.Outcome State Fault Refusal :=
  s.run t fun d => d.when (d.alive && d.ptpPorts.contains p.val) fun d =>
    let arr := d.arrivalOf p
    let d := d.returnRx (16 * p)
    let seq := d.time.gmSeq
    if request then (d.sendPtp p 3 seq (insertedTime 1 arr ++ zeros 10) false).sendPtp p 10 seq (insertedTime 1 (d.departure p) ++ zeros 10) false
    else d

/-- PTP_SYNC_TIMEOUT (R131, R133): LOCKED goes to HOLDOVER with the mean of the last 64 s of servo output, ACQUIRING to FREE. -/
def execPtpSyncTimeout (t : Nat) (s : State) : Host.Outcome State Fault Refusal :=
  s.run t fun d => d.when d.alive fun d =>
    match d.time.state with
    | .locked =>
      let l := (d.time.servoLog.filter fun p => d.now < p.1 + 64 * sec).map (·.2)
      let d := (d.modTime fun x => { x with holdFrom := d.now, masters := tdel x.masters x.port }).setTime .holdover
      if d.rf O.timeServo && !l.isEmpty then d.setN O.timeIncrement 0 (sumL l / l.length : Nat) else d
    | .acquiring =>
      let d := d.modTime fun x => { x with masters := tdel x.masters x.port, port := 0xFF }
      (d.setTime .free).follow 0
    | _ => d

/-- time.error_bound in HOLDOVER (R133). -/
def Dev.errorBound (d : Dev) : Nat :=
  if d.time.state == .holdover then
    min 0xFFFFFFFF (d.time.lastOffset.natAbs + (d.now - d.time.holdFrom) * d.rn O.timeHoldoverDrift / sec)
  else 0

/-- HOLDOVER_LIMIT_EXCEEDED (R131, R133). -/
def execHoldoverLimitExceeded (t : Nat) (s : State) : Host.Outcome State Fault Refusal :=
  s.run t fun d => d.when (d.alive && d.time.state == .holdover && 1000 * d.rn O.timeHoldoverLimit < d.errorBound) fun d =>
    ((d.setTime .free).follow 0).modTime fun x => { x with port := 0xFF }

/-- GM_SYNC_TIMER (R129): Sync on both ports, one-step or with its follow-up. -/
def execGmSyncTimer (t : Nat) (s : State) : Host.Outcome State Fault Refusal :=
  s.run t fun d => d.when (d.alive && d.time.state == .grandmaster) fun d =>
    let seq := d.time.gmSeq
    let d := d.ptpPorts.foldl (fun (d : Dev) p =>
      let one := d.rf O.timeOneStep
      let d := d.sendPtp p 0 seq (zeros 10) one
      if one then d else d.sendPtp p 8 seq (insertedTime 1 (d.departure p)) false) d
    d.modTime fun x => { x with gmSeq := x.gmSeq + 1 }

/-- GM_ANNOUNCE_TIMER (R129): Announce and Pdelay_Req on both ports; a capable device with no better master becomes
grandmaster. -/
def execGmAnnounceTimer (t : Nat) (s : State) : Host.Outcome State Fault Refusal :=
  s.run t fun d => d.when d.alive fun d =>
    let d := if d.time.state == .free then d.selectMaster else d
    if d.time.state == .grandmaster then
      d.ptpPorts.foldl (fun (d : Dev) p =>
        (d.sendPtp p 11 d.time.gmSeq (zeros 13 ++ [byteOf (d.rn O.timePriority1)] ++ zeros 4 ++ [byteOf (d.rn O.timePriority2)] ++
          be 8 d.ownClock ++ zeros 3) false).sendPtp p 2 d.time.gmSeq (zeros 20) false) d
    else d

end Sys2Proof.Machine
end

