-- ==== Sys2Proof/Machine/Compose.lean ====
section
/-! DEFINITION. The end of a head's frame (R58 to R60, R80 to R86, R92, R171, R188), and the meanings of HEAD_ACTIVE_END,
SEAL_WINDOW_PASSED, SCANOUT_UNDERFLOW, PIPE_SELF_CHECK_FAIL, SLOT_POST, WRITEBACK_FRAME_COMPLETE,
COMMIT_VALIDATION_DONE, COMMIT_DUE. -/

namespace Sys2Proof.Machine

/-! ### Freeze detection at the head -/

/-- The head's freeze count after a frame with detection CRC `crc` (R59): overdraw ended or begun, the count. The overdraw
that a frame sets off begins with the next frame; the one it ends does not show in it (R60). -/
structure FreezeStep where
  now_ : Option (Nat × Nat)
  next : Option (Nat × Nat)
  count : Nat
  began : Bool
  ended : Bool
  since : Nat
deriving DecidableEq, Repr

/-- See `FreezeStep`. -/
def Head.freezeStep (hd : Head) (crc : Nat) (expected : Bool) (limit : Nat) : FreezeStep :=
  let same := hd.detCrc == some crc
  let since := if same then hd.detSince else hd.start
  match hd.overdraw with
  | some o =>
    if crc ≠ o.1 then ⟨none, none, 0, false, true, since⟩
    else ⟨some o, some o, if same && expected then min 120 (hd.freezeCount + 1) else hd.freezeCount, false, false, since⟩
  | none =>
    if !same then ⟨none, none, 0, false, false, since⟩
    else
      let n := if expected then min 120 (hd.freezeCount + 1) else hd.freezeCount
      if expected && limit ≤ n then ⟨none, some (crc, since), n, true, false, since⟩
      else ⟨none, none, n, false, false, since⟩

/-! ### Seals -/

/-- Send the seal of a frame (R85). -/
def Dev.sendSeal (d : Dev) (h : Nat) (b : Bytes) : Dev :=
  ((d.emit (.sdp h 0 (d.rn O.headSealSdpType h) 0x4401 b)).setB O.headSealLast h b).modHd h fun x => { x with sealPend := none }

/-- The seal of the frame that ended: sent at once in R85's window, else it waits for the window to pass. -/
def Dev.sealFrame (d : Dev) (h crc : Nat) : Dev :=
  if (d.hd h).emitting && d.rf O.headSealEnable h then
    let b := d.sealOf h crc
    if six d.now ≤ d.sealEnd h then d.sendSeal h b else d.modHd h fun x => { x with sealPend := some b }
  else d

/-! ### Write-back (R188 to R190) -/

/-- Whether a reader pins buffer b of head h (R189): a layer or an encode context that selected it. -/
def Dev.wbPinned (d : Dev) (h b : Nat) : Bool :=
  let shows : Option Shown → Bool := fun x => match x with
    | some (.frame h' b' _) => h' == h && b' == b
    | _ => false
  (d.layers.any fun p => shows (p.2.heldEval.bind (·.shown)) || shows (p.2.hist.head?.bind (·.shown)) ||
      p.2.hist.any fun ev => shows ev.shown && six d.now < ev.tEnd) ||
    (d.enc.any fun p => match p.2.pend with
      | some { input := .frame h' b' .. , .. } => h' == h && b' == b
      | _ => false) ||
    d.encEngines.any fun p => match p.2.busy with
      | some (_, { input := .frame h' b' .. , .. }, _) => h' == h && b' == b
      | _ => false

/-- The buffer the next write-back frame of head h goes into: an unused one, else that of the oldest frame not pinned. -/
def Dev.wbFree (d : Dev) (h : Nat) : Option Nat :=
  let used := (d.hd h).wb
  match (List.range (d.rn O.headWbBuffers h)).find? fun b => !used.any fun w => w.id == b with
  | some b => some b
  | none => ((sortBy (fun (a b : WbBuf) => a.started ≤ b.started)
      (used.filter fun w => w.completion.isSome && !d.wbPinned h w.id)).head?).map (·.id)

/-- Whether two remapped write-back heads share the pipe and this one is not the lowest (R189). -/
def Dev.wbYields (d : Dev) (h : Nat) : Bool :=
  (d.onPipe (d.rn O.headPipe h)).any fun o => o < h && d.rn O.headWriteback o != 0 && d.composed o

/-- The write-back of the frame that ended (R188, R189). -/
def Dev.writeBack (d : Dev) (h crc : Nat) (px : Nat → Nat → Rgb) : Dev :=
  let hd := d.hd h
  if d.rn O.headWriteback h = 0 || hd.card then d
  else if hd.overdraw.isSome || hd.faultLine.isSome || hd.wholeHatch || !hd.under.isEmpty || d.wbYields h then
    d.bump O.headWbSkipped h
  else match d.wbFree h with
    | none => (d.bump O.headWbSkipped h).raiseOnce sec h Code.writebackSkipped h
    | some b =>
      let c := d.carriedTime h hd.start hd.lineCycles
      let w : WbBuf := { id := b, carried := c, started := hd.start, completion := none, header := d.wbHeader h crc c, planes := d.wbPlanes h px }
      d.modHd h fun x => { x with wb := x.wb.filter (fun v => v.id != b) ++ [w] }

/-- WRITEBACK_FRAME_COMPLETE's effect: the oldest frame being written is complete (R189). -/
def Dev.wbComplete (d : Dev) (h : Nat) : Dev :=
  match (sortBy (fun (a b : WbBuf) => a.started ≤ b.started) ((d.hd h).wb.filter fun w => w.completion.isNone)).head? with
  | none => d
  | some w => d.modHd h fun x => { x with wb := x.wb.map fun v => if v.id = w.id then { v with completion := some d.now } else v }

/-! ### The end of the active lines -/

/-- The freeze detector after a composed frame (R58 to R60): a freeze that begins is a recoverable pipe fault, and one
that goes on in its retry frame makes it lasting. -/
def Dev.freezeFrame (d : Dev) (h : Nat) (f : FreezeStep) (expected same : Bool) : Dev :=
  let k := d.rn O.headPipe h
  let inRetry := match (d.pp k).retry with
    | some r => r.retrying.contains h && !r.faulted.contains h
    | none => false
  let d := d.modHd h fun x => { x with overdraw := f.next, freezeCount := f.count, detSince := f.since }
  let d := if f.ended then d.raise Code.headFreezeCleared h else d
  if f.began then ((d.bump O.headFrozenEvents h).raise Code.headFrozen h).pipeFault k [h] [] none true
  else if f.next.isSome && inRetry && expected && same then d.pipeFault k [h] [] none true
  else d

/-- The last active line of a frame of head h leaves (R58, R80, R92, R171, R188). -/
def Dev.activeEnd (d : Dev) (dram : List Host.Cell) (h : Nat) : Dev :=
  let hd := d.hd h
  let w := d.headW h; let ht := d.headH h
  let start := hd.start; let lc := hd.lineCycles
  let px := d.pipePx dram h start lc
  let composed := !hd.card
  let det := if composed then frameCrc w ht fun x y => let c := px x y; [c.1, c.2.1, c.2.2] else 0
  let expected := composed && d.changeExpected h start lc
  let same := hd.detCrc == some det
  let fz := hd.freezeStep det expected (d.rn O.headFreezeFrames h)
  let d := if composed then d.modHd h fun x => { x with overdraw := fz.now_ } else d
  let crc := frameCrc w ht (d.outPx h (d.emitPx h px))
  let d := d.setN O.headFrameCrc h crc
  let d := d.sealFrame h crc
  let d := if (d.hd h).emitting && (d.lk h).sinkVsc then d.emit (.vsc h) else d
  let d := if composed then d.writeBack h crc px else d
  let d := d.formContent h start (hd.alive.getD 0) hd.pitch crc
  let fr : FrameRec :=
    { start := start, alive := hd.alive.getD 0, pitch := hd.pitch, crc := crc,
      digest := d.frameDigest h start lc, flags := d.sealFlags h start lc, composed := composed,
      deferred := (d.deferredTiles h start lc).1 != 0, ended := d.now }
  let d := d.modHd h fun x => { x with
    inFrame := false, detCrc := if composed then some det else x.detCrc, frames := (fr :: x.frames).take 8 }
  let d := if composed then d.freezeFrame h fz expected same else d
  if fz.began && composed then d else d.pipeFrameEnd h

/-- HEAD_ACTIVE_END (R58). -/
def execHeadActiveEnd (t : Nat) (h : Fin 32) (s : State) : Host.Outcome State Fault Refusal :=
  s.run t fun d => d.when (d.alive && d.headOn h && (d.hd h).inFrame) fun d => (d.activeEnd s.dram h).kickDecode

/-- SEAL_WINDOW_PASSED (R86): a seal not sent in its window is dropped. -/
def execSealWindowPassed (t : Nat) (h : Fin 32) (s : State) : Host.Outcome State Fault Refusal :=
  s.run t fun d => d.when (d.alive && (d.hd h).sealPend.isSome) fun d =>
    (d.bump O.headSealsDropped h).modHd h fun x => { x with sealPend := none }

/-! ### Scanout and pipe faults -/

/-- SCANOUT_UNDERFLOW (R35, R67, R171). -/
def execScanoutUnderflow (t : Nat) (h : Fin 32) (line x0 x1 : Nat) (s : State) : Host.Outcome State Fault Refusal :=
  s.run t fun d => d.when (d.alive && d.composed h && (d.hd h).inFrame) fun d =>
    let d := d.modHd h fun x => { x with under := x.under ++ [(line, x0, x1)] }
    let met := (d.vlayers h).filter fun l => l.2.2.y0 ≤ line && line < l.2.2.y1
    let d := met.foldl (fun (d : Dev) l => d.modLy l.1 fun y => { y with underflow := true }) d
    (d.raise Code.scanoutUnderflow h).pipeFault (d.rn O.headPipe h) [h] [h.val] none

/-- PIPE_SELF_CHECK_FAIL (R171, R202): every head of the pipe is overdrawn from the line in production. -/
def execPipeSelfCheckFail (t : Nat) (k : Fin 18) (bank : Option (Fin 17)) (s : State) :
    Host.Outcome State Fault Refusal :=
  s.run t fun d => d.when (d.alive && d.pipeState k == .active) fun d =>
    let hs := (d.onPipe k).filter d.composed
    let d := hs.foldl (fun (d : Dev) h => d.modHd h fun x => match d.lineNow h with
      | some y => { x with faultLine := some (match x.faultLine with
          | some z => min y z
          | none => y) }
      | none => { x with faultNext := true }) d
    d.pipeFault k hs hs (bank.map (·.val))

/-! ### Slots and write-back -/

/-- Whether buffer b of a slot is pinned (R187, R213). -/
def Dev.postPinned (d : Dev) (slot b : Nat) : Bool :=
  let shows : Option Shown → Bool := fun x => match x with
    | some (.post n b' _) => n == slot && b' == b
    | _ => false
  (d.layers.any fun p => shows (p.2.heldEval.bind (·.shown)) || shows (p.2.hist.head?.bind (·.shown)) ||
      p.2.hist.any fun ev => shows ev.shown && six d.now < ev.tEnd) ||
    d.bivouac.builds.any fun x => x.running && x.posts.any fun p =>
      p.2.1 == b && x.key.members.any fun m => m.1 == p.1 && m.2.source == slot

/-- SLOT_POST (R187, R213). -/
def execSlotPost (t : Nat) (slot : Fin 256) (buf : Fin 4) (dataTime : Nat) (s : State) :
    Host.Outcome State Fault Refusal :=
  s.run t fun d => d.when d.alive fun d =>
    if d.postPinned slot buf then d.raise Code.slotBusy slot buf
    else ({ d with slots := tset d.slots slot { post := some (buf.val, dataTime) } }).postTriggers slot

/-- WRITEBACK_FRAME_COMPLETE (R63, R188, R189). -/
def execWritebackFrameComplete (t : Nat) (h : Fin 32) (s : State) : Host.Outcome State Fault Refusal :=
  s.run t fun d => d.when d.alive fun d => d.wbComplete h

/-! ### Validation and the deadline -/

/-- Validation of the armed table again after an allocation change (R173). -/
def Dev.revalidated (d : Dev) (g : Nat) (tb : GTable) : Dev :=
  match d.validate g tb with
  | .ok tb' =>
    (d.modGrp g fun x => ({ x with revalidate := false, armed := some { tb' with armedAt := d.now } }).settle false).buildsFor g tb'
  | .error r =>
    ((d.modGrp g fun x => ({ x with revalidate := false, armed := none }).settle true).refuseCommit g tb.token r).dropBuilds

/-- Validation of a request ends (R175, R177): armed in place of what was armed, or refused; a Second counts its refusals
(R401). -/
def Dev.validated (d : Dev) (g : Nat) (tb : GTable) : Dev :=
  match d.validate g tb with
  | .ok tb' =>
    let d := d.modGrp g fun x => ({ x with validating := none, armed := some { tb' with armedAt := d.now } }).settle false
    ((d.setN O.groupArmedToken g tb.token).buildsFor g tb').dropBuilds
  | .error r =>
    let d := if d.twin.role == .second then { d with twin := { d.twin with refusals := d.twin.refusals + 1 } } else d
    (d.modGrp g fun x => ({ x with validating := none }).settle true).refuseCommit g tb.token r

/-- COMMIT_VALIDATION_DONE (R173, R175, R185). -/
def execCommitValidationDone (t : Nat) (g : Fin 8) (s : State) : Host.Outcome State Fault Refusal :=
  s.run t fun d => d.when d.alive fun d =>
    let x := d.grp g
    match x.revalidate, x.armed, x.validating with
    | true, some tb, _ => d.revalidated g tb
    | _, _, some tb => d.validated g tb
    | _, _, none => d.modGrp g fun x => ({ x with revalidate := false }).settle (x.cstate == 3)

/-- The enabled heads of a group. -/
def Dev.onHeads (d : Dev) (g : Nat) : List Nat := (d.headsOf g).filter d.headOn

/-- The longest line period in effect among a group's enabled heads, in sixths of a ns; 10 us when it has none (R176). -/
def Dev.longestLine6 (d : Dev) (g : Nat) : Nat :=
  if (d.onHeads g).isEmpty then 60000
  else maxL ((d.onHeads g).map fun h => 5 * d.rn O.headLineCycles h * d.headDiv h)

/-- The distance of the deadline before its instant, in sixths of a ns (R176). -/
def Dev.deadline6 (d : Dev) (g : Nat) : Nat := d.rn O.groupDeadlineLines g * d.longestLine6 g

/-- Every how many grid instants all enabled, locked heads of a group start a frame. -/
def Dev.frameStep (d : Dev) (g : Nat) : Nat :=
  ((d.onHeads g).filter fun h => (d.hd h).locked).foldl (fun n h => Nat.lcm n (max 1 (d.headDiv h))) 1

/-- The instant a table armed at an instant applies at (R176). -/
def Dev.instantFor (d : Dev) (g armedAt : Nat) : Nat := d.gridNext g ((six armedAt + d.deadline6 g) / 6) (d.frameStep g)

/-- The instant an armed table applies at: by its arming (R176), in a twin by the pitch start of the record that carries
it, with the deadline at or after it (R401); the Second arms later than the Lead and counts from the record alone. -/
def Dev.applyAt (d : Dev) (g : Nat) (tb : GTable) : Nat :=
  let by_ := tb.carried.getD 0 - 1
  let i := d.instantFor g by_
  if d.twin.role == .second && d.now < i then i else d.instantFor g (max tb.armedAt by_)

/-- COMMIT_DUE (R176, R401): from the deadline the armed commit is due and cannot be replaced; in a twin once a record
carries it. -/
def execCommitDue (t : Nat) (g : Fin 8) (s : State) : Host.Outcome State Fault Refusal :=
  s.run t fun d => d.when d.alive fun d =>
    let x := d.grp g
    match x.armed, x.due, x.revalidate with
    | some tb, none, false =>
      let wait := d.twin.role == .lead || d.twin.role == .second
      let i := d.applyAt g tb
      if (!wait || tb.carried.isSome) && six i ≤ six d.now + d.deadline6 g then
        d.modGrp g fun x => { x with armed := none, due := some { tb with due := some i } }
      else d
    | _, _, _ => d

end Sys2Proof.Machine
end

