-- ==== Sys2Proof/Machine/Encode.lean ====
section
/-! DEFINITION. The encode cluster (chapter 9): inputs at cut-offs, the frame order of an engine, rate control and rows
(R255, R256), refreshes, the freshness map, relay packets, spares; the meanings of its commands. -/

namespace Sys2Proof.Machine

/-! ### Settings (R251 to R253, R255) -/

/-- H.264 (codec 0) or H.265. -/
def Dev.encH264 (d : Dev) (c : Nat) : Bool := d.rn O.encodeCodec c == 0

/-- The rows of an output (R252). -/
def encRows (h264 : Bool) (height : Nat) : Nat := cdiv height (if h264 then 32 else 64)

/-- The coding units of a row. -/
def encUnits (h264 : Bool) (width : Nat) : Nat := if h264 then 2 * cdiv width 16 else cdiv width 64

/-- The least frame cap F_min (R255). -/
def encFloor (h264 : Bool) (width height : Nat) : Nat := 1024 + encRows h264 height * (17 + encUnits h264 width)

/-- The size of a packed rectangle (R55), or of the whole input when it is 0. -/
def cropSize (crop w h : Nat) : Nat × Nat := if crop = 0 then (w, h) else (crop / 65536 % 65536, crop % 65536)

/-- The size of the input of context c. -/
def Dev.encInputSize (d : Dev) (c : Nat) : Nat × Nat :=
  let s := d.rn O.encodeSource c
  if d.rn O.encodeSourceMode c = 1 then (d.headW s, d.headH s) else (d.rn O.streamMaxWidth s, d.rn O.streamMaxHeight s)

/-- Samples per frame as a load in kpx/s at a group's rate over a divisor (R253). -/
def Dev.rateLoad (d : Dev) (samples g div : Nat) : Nat :=
  cdiv (samples * d.rn O.gridRateNum g) (d.rn O.gridRateDen g * max 1 div * 1000)

/-- The load of a context. -/
def Dev.encLoad (d : Dev) (c : Nat) : Nat :=
  d.rateLoad (d.rn O.encodeOutWidth c * d.rn O.encodeOutHeight c) (d.rn O.encodeGroup c) (d.rn O.encodeDivisor c)

/-- Its input load. -/
def Dev.encInLoad (d : Dev) (c : Nat) : Nat :=
  let sz := d.encInputSize c
  let k := cropSize (d.rn O.encodeCrop c) sz.1 sz.2
  d.rateLoad (k.1 * k.2) (d.rn O.encodeGroup c) (d.rn O.encodeDivisor c)

/-- Placing encode contexts (R253, R264). -/
def Dev.encPlacer (d : Dev) : Placer :=
  { engines := d.activeEnc
    fits := fun l => sumL (l.map d.encLoad) ≤ 500000 && sumL (l.map d.encInLoad) ≤ 2000000
    load := fun l => sumL (l.map d.encLoad)
    prio := fun c => d.rn O.encodePriority c }

/-- The present assignment of encode contexts. -/
def Dev.encAsg (d : Dev) : List (Nat × Nat) :=
  (List.range 32).filterMap fun c =>
    let x := d.ec c
    if x.state == .off || x.state == .shed || x.engine = 0xFF then none else some (c, x.engine)

/-- Whether an engine codes a frame of context c now. -/
def Dev.encoding (d : Dev) (c : Nat) : Bool := d.encEngines.any fun p => match p.2.busy with
  | some b => b.1 == c
  | none => false

/-! ### States (Table 9-5) -/

/-- Codes of encode[c].state. -/
def EncState.code : EncState → Nat
  | .off => 0 | .waiting => 1 | .running => 2 | .shed => 3

/-- A change of state raises ENC_CONTEXT_STATE. -/
def Dev.setEncState (d : Dev) (c : Nat) (st : EncState) : Dev :=
  let old := (d.ec c).state
  if old == st then d else (d.modEc c fun x => { x with state := st }).raise Code.encContextState c old.code st.code

/-- Give an encode context an engine. -/
def Dev.setEncEngine (d : Dev) (c e : Nat) : Dev := d.modEc c fun x => { x with engine := e }

/-- Whether a context's source can be read (R246). -/
def Dev.encSourceOk (d : Dev) (c : Nat) : Bool :=
  let s := d.rn O.encodeSource c
  if d.rn O.encodeSourceMode c = 1 then d.rn O.headWriteback s != 0 && d.headOn s else (d.cx s).state != .unbound

/-- WAITING with ENC_SOURCE_INVALID, or running, as the source stands (R246). -/
def Dev.encSourceState (d : Dev) (c : Nat) : Dev :=
  let st := (d.ec c).state
  if st == .off || st == .shed then d
  else if d.encSourceOk c then (d.modEc c fun x => { x with noted := false }).setEncState c .running
  else
    let d := d.setEncState c .waiting
    if (d.ec c).noted then d else (d.modEc c fun x => { x with noted := true }).raise Code.encSourceInvalid c

/-! ### Relay sending (R260, R262) -/

/-- Whether the unit posts relay packets and relay RTCP (R262). -/
def Dev.relays (d : Dev) : Bool := d.holdsLead

/-- The ring of a context's packets. -/
def Dev.relayRing (d : Dev) (c : Nat) : Nat := 16 * d.rn O.encodePort c + 12 + c % 4

/-- Send an RTCP packet of context c by service firmware. -/
def Dev.relayRtcp (d : Dev) (c : Nat) (b : Bytes) : Dev :=
  if d.relays then d.sendUdp (16 * d.rn O.encodePort c + 10) (d.rb O.encodeDstAddr c) (d.rn O.encodeDstPort c + 1) b else d

/-- RTCP BYE with reason "shed" (R264). -/
def byePacket (ssrc : Nat) : Bytes := [0x81, 0xCB] ++ be 2 3 ++ be 4 ssrc ++ [4] ++ ascii "shed" ++ zeros 3

/-- A context is shed (R264, R419). -/
def Dev.encShedNow (d : Dev) (c : Nat) : Dev :=
  let d := (d.relayRtcp c (byePacket ((d.ec c).ssrc.getD 0))).modEc c fun x => { x with engine := 0xFF, pend := none, shedAtEnd := false }
  ((d.setEncState c .shed).raise Code.encContextShed c).logShed false 5 c Code.encContextShed (d.rn O.encodePriority c)

/-- The same at the end of its frame in coding. -/
def Dev.encShed (d : Dev) (c : Nat) : Dev :=
  if d.encoding c then d.modEc c fun x => { x with shedAtEnd := true } else d.encShedNow c

/-- Reassign encode contexts under R264 and R419. -/
def Dev.encReassign (d : Dev) (cs : List Nat) : Dev :=
  let p := d.encPlacer
  let asg := d.encAsg.filter fun q => !cs.contains q.1
  let r := (p.order cs).foldl p.place (asg, [])
  let d := r.1.foldl (fun (d : Dev) q => if (d.ec q.1).engine = q.2 then d else d.setEncEngine q.1 q.2) d
  r.2.foldl (fun (d : Dev) c => d.encShed c) d

/-- A context restart (R263): references, long-term reference and pending input go; SSRC and RTP sequence stay. A frame
in coding is discarded (DEDUCED, log 34). -/
def Dev.encRestart (d : Dev) (c : Nat) : Dev :=
  let busy := d.encoding c
  d.modEc c fun x => { x with
    pend := none, last := none, rows := [], frame := 0, firstHeld := 0, gdr := none, wantRefresh := false, restart := true
    ltr := none, ltrOnly := false, discard := busy }

/-! ### Inputs (R247 to R249) -/

/-- The input cut-off of context c at or before an instant. -/
def Dev.encCutNow (d : Dev) (c : Nat) : Nat :=
  let g := d.rn O.encodeGroup c; let n := max 1 (d.rn O.encodeDivisor c)
  (d.gridAt g (d.gridK g d.now / (n : Int) * (n : Int))).toNat

/-- The input a context selects at a cut-off. -/
def Dev.encSelect (d : Dev) (c cut : Nat) : Option EncInput :=
  let s := d.rn O.encodeSource c
  if d.rn O.encodeSourceMode c = 1 then
    (d.newestWb s (six cut)).map fun b => .frame s b.id b.carried (leAt b.header 8 4) (leAt b.header 1 1)
  else (newest (d.eligible s false (six cut))).map fun p => .pic s p.1 p.2

/-- The input a context codes now, else the one it coded last. -/
def Dev.encLast (d : Dev) (c : Nat) : Option EncInput :=
  match d.encEngines.find? fun p => p.2.busy.any fun b => b.1 == c with
  | some p => if (d.ec c).discard then (d.ec c).last else p.2.busy.map fun b => b.2.1.input
  | none => (d.ec c).last

/-- The pending input after a cut-off: a newer input replaces one not started (R248); no newer one repeats the last
(R249). -/
def Dev.encTakeInput (d : Dev) (c cut : Nat) : Dev :=
  let x := d.ec c
  let sel := d.encSelect c cut
  let last := d.encLast c
  let fresh : Option EncInput := if sel == last then none else sel
  match x.pend, fresh with
  | some p, some i =>
    if p.input == i && !p.rep then d
    else
      let d := (d.bump O.encodeInputsSkipped c).raiseOnce sec c Code.encInputSkipped c
      d.modEc c fun y => { y with pend := some ⟨i, cut, false⟩ }
  | some _, none => d
  | none, some i => d.modEc c fun y => { y with pend := some ⟨i, cut, false⟩ }
  | none, none => match last with
    | some i => d.modEc c fun y => { y with pend := some ⟨i, cut, true⟩ }
    | none => d

/-- The order of R254 among the contexts of an engine with a pending input. -/
def Dev.encChoose (d : Dev) (e : Nat) : Option (Nat × EncPend) :=
  let ps := (List.range 32).filterMap fun c =>
    let x := d.ec c
    if x.engine = e && x.state == .running then x.pend.map fun p => (c, p) else none
  let key (p : Nat × EncPend) : List Nat := [d.encCutOff p.1 p.2.cutoff, d.rn O.encodePriority p.1, p.1]
  (sortBy (fun a b => key a ≤ key b) ps).head?

/-- An idle engine starts the frame R254 chooses. -/
def Dev.startEncode (d : Dev) (e : Nat) : Dev :=
  if (d.ee e).state != .active || (d.ee e).busy.isSome then d
  else match d.encChoose e with
    | some (c, p) => (d.modEe e fun x => { x with busy := some (c, p, 0), since := d.now }).modEc c fun x => { x with pend := none }
    | none => d

/-- Every idle encode engine looks for work. -/
def Dev.kickEncode (d : Dev) : Dev := d.activeEnc.foldl (fun (d : Dev) e => d.startEncode e) d

/-- ENCODE_INPUT_CUT_OFF (R246 to R249). -/
def execEncodeInputCutOff (t : Nat) (c : Fin 32) (s : State) : Host.Outcome State Fault Refusal :=
  s.run t fun d => d.when d.alive fun d =>
    let d := d.encSourceState c
    if (d.ec c).state == .running then (d.encTakeInput c (d.encCutNow c)).kickEncode else d

/-! ### Rate control (R255, R256) -/

/-- The figures of a frame in units of 1/unit byte: drain per frame, buffer, cap, level, floor. -/
structure RateFig where
  unit : Nat
  drain : Nat
  buffer : Nat
  cap : Nat
  level : Nat
  floor : Nat
deriving DecidableEq, Repr

/-- The figures of context c's next frame, exact. -/
def Dev.rateFig (d : Dev) (c : Nat) : RateFig :=
  let g := d.rn O.encodeGroup c
  let x := d.ec c
  let num := max 1 (d.rn O.gridRateNum g)
  let u := 256 * Nat.lcm x.levelDen (8 * num)
  let drain := 1000 * d.rn O.encodeBitrate c * d.rn O.encodeDivisor c * d.rn O.gridRateDen g * (u / (8 * num))
  let floor := encFloor (d.encH264 c) (d.rn O.encodeOutWidth c) (d.rn O.encodeOutHeight c) * u
  let cap := d.rn O.encodeFrameCap c
  { unit := u, drain := drain, buffer := d.rn O.encodeBitrate c * d.rn O.encodeBufferMs c * (u / 8)
    cap := max floor (if cap = 0 then 3 * drain else cap * u), level := x.level * (u / x.levelDen), floor := floor }

/-- The bytes of the frames of context c sent in the last second. -/
def Dev.encSentRecent (d : Dev) (c : Nat) : Nat := sumL (((d.ec c).sent.filter fun p => d.now < p.1 + sec).map (·.2))

/-- The frame budget Cf and target T, in the units of the figures. -/
def Dev.frameBudget (d : Dev) (c : Nat) (f : RateFig) (estQuality : Nat) : Nat × Nat :=
  if d.rn O.encodeRcMode c = 0 then
    let t := clampI (f.drain / 4 : Nat) f.cap ((f.drain : Int) - ((f.level : Int) - f.buffer / 2) / 8)
    (max (min f.cap (f.buffer - f.level)) f.floor, t.toNat)
  else
    let w := 125 * d.rn O.encodeBitrate c - d.encSentRecent c
    let cf := max (min f.cap (w * f.unit)) f.floor
    (cf, min (estQuality * f.unit) cf)

/-- round(6 log2(a / b)) for a, b above 0: the n with 2^(2n−1) b^12 ≤ a^12 < 2^(2n+1) b^12, within ±96. -/
def sixLog2 (a b : Nat) : Int :=
  let le (n : Int) : Bool :=
    if 1 ≤ n then 2 ^ (2 * n - 1).toNat * b ^ 12 ≤ a ^ 12 else b ^ 12 ≤ a ^ 12 * 2 ^ (1 - 2 * n).toNat
  ((((List.range 193).filter fun (i : Nat) => le ((i : Int) - 96)).length : Nat) : Int) - 97

/-- qp_f (R256); of an estimate or a target of 0 the logarithm is not stated and free (DESIGN CHOICE, log 9). -/
def Dev.frameQp (d : Dev) (c est t unit : Nat) : Int :=
  let prev := (d.ec c).qpPrev
  let step : Int := if est = 0 || t = 0 then (Config.unstated 256 [c, est, t]).toInt else sixLog2 (est * unit) t
  clampI (d.rn O.encodeQpMin c) (d.rn O.encodeQpMax c) (prev + step)

/-- How a row of a frame was coded. -/
inductive RowKind where
  | coded | held | flat
deriving DecidableEq, Repr

/-- The rows of a frame in priority order (R256): bytes spent, what became of each, whether coding has stopped. -/
def codeRows (cf u : Nat) (band : Nat → Bool) (rows : List CodedRow) :
    List Nat → Nat → Bool → List (Nat × RowKind) → Nat × List (Nat × RowKind)
  | [], spent, _, out => (spent, out)
  | r :: rest, spent, stop, out =>
    let row := rows.getD r ⟨[], [], []⟩
    let size (b : Bytes) : Nat := b.length + 4
    if stop && !band r then codeRows cf u band rows rest (spent + size row.skip) stop (out ++ [(r, .held)])
    else if cf < spent + size row.coded + rest.length * (16 + u) then
      if band r then codeRows cf u band rows rest (spent + size row.flat) true (out ++ [(r, .flat)])
      else codeRows cf u band rows rest (spent + size row.skip) true (out ++ [(r, .held)])
    else codeRows cf u band rows rest (spent + size row.coded) stop (out ++ [(r, .coded)])

/-- The code of a row after a frame (Table 9-2). -/
def rowCode (k : RowKind) (prev : Nat) : Nat :=
  match k with
  | .coded => 0
  | .flat => 255
  | .held => if prev = 255 then 255 else min 254 (prev + 1)

/-! ### Refresh (R257, R258) -/

/-- What a frame is: an IDR picture, frame i of n of a gradual cycle, or neither. -/
inductive Refresh where
  | idr
  | cycle (i n : Nat)
  | none
deriving DecidableEq, Repr

/-- The refresh of a frame: none where the input repeats (R249; DEDUCED, log 34). -/
def Dev.refreshOf (d : Dev) (c : Nat) (rep : Bool) : Refresh :=
  let x := d.ec c
  if rep then .none
  else if x.restart then .idr
  else match x.gdr with
    | some (i, n) => .cycle i n
    | none =>
      if x.wantRefresh then (if d.rn O.encodeRefreshMode c = 0 then .idr else .cycle 0 (d.rn O.encodeGdrFrames c)) else .none

/-- Whether a frame starts a refresh. -/
def Refresh.starts : Refresh → Bool
  | .idr => true
  | .cycle i _ => i == 0
  | .none => false

/-- Whether a frame completes a refresh. -/
def Refresh.completes : Refresh → Bool
  | .idr => true
  | .cycle i n => i + 1 == n
  | .none => false

/-- The band of a frame (R257). -/
def Refresh.band (r : Refresh) (rows k : Nat) : Bool :=
  match r with
  | .idr => true
  | .cycle i n => i * rows / n ≤ k && k < (i + 1) * rows / n
  | .none => false

/-! ### The freshness map (R259) -/

/-- The uuid of Table 9-1. -/
def freshUuid : Bytes := be 16 0x6D1F4A2C9B3E4F70A8D521C0E7B94F36

/-- The payload of the freshness map (Table 9-1). -/
def Dev.freshMap (d : Dev) (c : Nat) (p : EncPend) (codes : List Nat) (inCycle : Bool) : Bytes :=
  let held := codes.any (· != 0)
  let dt (ns : Nat) : Bytes := be 6 (ns / 10 ^ 9) ++ be 4 (ns % 10 ^ 9) ++ be 2 0
  let common := (if p.rep then [1] else []) ++ (if held then [2] else []) ++ (if inCycle then [3] else [])
  let src : List Nat × Nat × Nat × Nat × Nat := match p.input with
    | .frame h _ carried alive flags => ([0], h, flags, alive, carried)
    | .pic s _ t => ((if t.integrity != .clean then [4] else []) ++ (if t.frozen then [5] else []) ++
        (if t.cap.arrivalTimed then [6] else []), s, 0, t.sequence % 2 ^ 32, t.cap.time - 1000 * t.cap.uncertainty)
  freshUuid ++ [1, byteOf (mask (common ++ src.1)), byteOf src.2.1, byteOf src.2.2.1] ++ be 4 src.2.2.2.1 ++
    dt src.2.2.2.2 ++ dt p.cutoff ++ be 4 (d.ec c).frame ++ be 2 codes.length ++ codes.map byteOf

/-- Emulation prevention: a 3 before any byte up to 3 that follows two zeros; `z` counts the zeros. -/
def escapeNal : Nat → Bytes → Bytes
  | _, [] => []
  | z, b :: r =>
    if 2 ≤ z && b.toNat ≤ 3 then 3 :: b :: escapeNal (if b = 0 then 1 else 0) r
    else b :: escapeNal (if b = 0 then z + 1 else 0) r

/-- The SEI NAL unit of a map. -/
def seiNal (h264 : Bool) (payload : Bytes) : Bytes :=
  (if h264 then [0x06] else [0x4E, 0x01]) ++ escapeNal 0 ([5, byteOf payload.length] ++ payload ++ [0x80])

/-- The bytes that the map takes of a frame, start code included, before emulation prevention. -/
def seiSize (h264 : Bool) (rows : Nat) : Nat := (if h264 then 1 else 2) + 3 + 54 + rows + 4

/-! ### Packets (R260, R261) -/

/-- Cut a byte string into pieces of at most `k` bytes. -/
def pieces (k : Nat) : Nat → Bytes → List Bytes
  | 0, b => [b]
  | n + 1, b => if b.length ≤ k then [b] else b.take k :: pieces k n (b.drop k)

/-- The RTP payloads of a NAL unit (RFC 7798, RFC 6184): single, or in fragments. -/
def nalPayloads (h264 : Bool) (mtu : Nat) (n : Bytes) : List Bytes :=
  if n.length ≤ mtu then [n]
  else
    let h0 := (n.getD 0 0).toNat; let h1 := n.getD 1 0
    let body := n.drop (if h264 then 1 else 2)
    let ps := pieces (mtu - (if h264 then 2 else 3)) body.length body
    ((List.range ps.length).zip ps).map fun p =>
      let se := (if p.1 = 0 then 0x80 else 0) + (if p.1 + 1 = ps.length then 0x40 else 0)
      (if h264 then [byteOf (h0 / 32 * 32 + 28), byteOf (se + h0 % 32)]
        else [byteOf (h0 / 128 * 128 + 49 * 2 + h0 % 2), h1, byteOf (se + h0 / 2 % 64)]) ++ p.2

/-- Parameter sets and the map in one aggregation packet when they fit. -/
def aggregate (h264 : Bool) (mtu : Nat) (ns : List Bytes) : List Bytes :=
  let ap := (if h264 then [0x78] else [0x60, 0x01]) ++ ns.flatMap fun n => be 2 n.length ++ n
  if 1 < ns.length && ap.length ≤ mtu then [ap] else ns.flatMap (nalPayloads h264 mtu)

/-- The input period P in ns. -/
def Dev.encPeriod (d : Dev) (c : Nat) : Nat :=
  let g := d.rn O.encodeGroup c
  d.rn O.encodeDivisor c * d.rn O.gridRateDen g * 10 ^ 9 / d.rn O.gridRateNum g

/-- The launch time of packet i of n of a frame selected at `cut` (R261). -/
def Dev.encLaunch (d : Dev) (c cut i n : Nat) : Nat :=
  let p := d.encPeriod c
  cut + p + i * p * d.rn O.encodePace c / (100 * n)

/-- The RTP timestamp of an instant at 90 kHz. -/
def rtp90k (ns : Nat) : Nat := ns * 9 / 100000 % 2 ^ 32

/-- Post the packets of a frame, shifted when it completed after its first launch (R261, R262). -/
def Dev.postRelay (d : Dev) (c cut : Nat) (payloads : List Bytes) : Dev :=
  let n := payloads.length
  let x := d.ec c
  let late := d.now - d.encLaunch c cut 0 n
  let d := if 0 < late then d.raiseOnce sec c Code.encLate c else d
  let d := ((List.range n).zip payloads).foldl (fun (d : Dev) p =>
    let m := if p.1 + 1 = n then 0x80 else 0
    let b := [0x80, byteOf (m + d.rn O.encodePayloadType c)] ++ be 2 ((x.seq + p.1) % 65536) ++ be 4 (rtp90k cut) ++
      be 4 (x.ssrc.getD 0) ++ p.2
    let dst := d.rb O.encodeDstAddr c
    let r := d.fresh
    if d.relays then r.2.post (d.relayRing c)
        { id := r.1, dst := dst, dport := d.rn O.encodeDstPort c, payload := b, frameLen := udpFrameLen dst b.length
          launchEn := true, launch := ns48 (d.encLaunch c cut p.1 n + late) }
    else d) d
  d.modEc c fun y => { y with
    seq := (y.seq + n) % 65536, pkts := y.pkts + n, octets := y.octets + sumL (payloads.map (·.length)) }

/-! ### A frame completes -/

/-- The order rows are coded in (R256). -/
def rowOrder (r : Refresh) (rows first : Nat) : List Nat :=
  let l := (List.range rows).map fun i => (first + i) % rows
  (l.filter (r.band rows)) ++ l.filter fun k => !r.band rows k

/-- The state of a context after a coded frame: level, quantiser, rows, refresh, references (R256 to R258). -/
def EncCtx.coded (x : EncCtx) (r : Refresh) (codes : List Nat) (firstHeld : Nat) (rep : Bool) (input : EncInput)
    (level den : Nat) (qp : Int) (ltr : Bool) : EncCtx :=
  let done := r.completes
  { x with
    last := some input, level := level / Nat.gcd level den, levelDen := den / Nat.gcd level den
    qpPrev := if rep then x.qpPrev else qp, rows := codes, firstHeld := firstHeld, frame := (x.frame + 1) % 2 ^ 32
    restart := if rep then x.restart else false
    wantRefresh := if r.starts then false else x.wantRefresh
    gdr := if rep then x.gdr else match r with
      | .cycle i n => if i + 1 < n then some (i + 1, n) else none
      | _ => none
    ltr := if done && ltr then some x.frame else if r == .idr then none else x.ltr
    ltrOnly := if rep then x.ltrOnly else false }

/-- A frame of context c is coded (R249, R255 to R261). -/
def Dev.codeFrame (d : Dev) (c : Nat) (p : EncPend) (params : List Bytes) (rows : List CodedRow) (estPrev estQuality : Nat) :
    Dev :=
  let h264 := d.encH264 c
  let n := encRows h264 (d.rn O.encodeOutHeight c)
  let u := encUnits h264 (d.rn O.encodeOutWidth c)
  let x := d.ec c
  let f := d.rateFig c
  let r := d.refreshOf c p.rep
  let budget := d.frameBudget c f estQuality
  let sets := if r.starts then params else []
  let start := sumL (sets.map fun b => b.length + 4) + seiSize h264 n
  let order := rowOrder r n x.firstHeld
  let res : Nat × List (Nat × RowKind) :=
    if p.rep then (start + sumL (order.map fun k => (rows.getD k ⟨[], [], []⟩).skip.length + 4), order.map fun k => (k, .held))
    else codeRows (budget.1 / f.unit) u (r.band n) rows order start false []
  let kind (k : Nat) : RowKind := tget .held res.2 k
  let codes := (List.range n).map fun k => rowCode (kind k) (x.rows.getD k 0)
  let held := (codes.filter (· != 0)).length
  let first := ((res.2.find? fun q => q.2 == .held).map (·.1)).getD 0
  let inCycle := match r with
    | .cycle _ _ => true
    | _ => false
  let sei := seiNal h264 (d.freshMap c p codes inCycle)
  let slices := (List.range n).map fun k => match kind k with
    | .coded => (rows.getD k ⟨[], [], []⟩).coded
    | .held => (rows.getD k ⟨[], [], []⟩).skip
    | .flat => (rows.getD k ⟨[], [], []⟩).flat
  let cbr := d.rn O.encodeRcMode c = 0
  let level := if cbr then f.level + res.1 * f.unit - f.drain else f.level
  let qp := d.frameQp c estPrev budget.2 f.unit
  let d := if r.starts then (d.bump O.encodeRefreshes c).raise Code.encRefresh c else d
  let d := if held ≠ 0 then (d.bumpBy O.encodeHeldRows c held).raiseOnce sec c Code.encRowsHeld c else d
  let d := ((d.bump O.encodeFrames c).setN O.encodeBytesLast c res.1).setN O.encodeBufferLevel c (level / f.unit : Nat)
  let mtu := d.rn O.encodeMtu c
  let d := d.postRelay c p.cutoff (aggregate h264 mtu (sets ++ [sei]) ++ slices.flatMap (nalPayloads h264 mtu))
  d.modEc c fun y =>
    { y.coded r codes first p.rep p.input level f.unit qp (d.rf O.encodeLtrEnable c) with
      sent := (d.now, res.1) :: y.sent.filter fun q => d.now < q.1 + sec
      lastCrc := crc32c ((sets ++ [sei] ++ slices).flatMap fun b => [0, 0, 0, 1] ++ b) }

/-- Mirrored state replaces a context's own between frames (R399). -/
def EncCtx.take (x : EncCtx) (m : EncMirror) : EncCtx :=
  { x with
    level := m.level, levelDen := m.levelDen, qpPrev := m.qpPrev, sent := m.sent, rows := m.rows, frame := m.frame
    firstHeld := m.firstHeld, gdr := m.gdr, ltr := m.ltr, ltrOnly := m.ltrOnly, seq := m.seq, ssrc := m.ssrc, mirror := none }

/-- See `EncCtx.take`: what waited for the end of a frame. -/
def Dev.encMirrored (d : Dev) (c : Nat) : Dev :=
  match (d.ec c).mirror with
  | some m => d.modEc c fun x => x.take m
  | none => d

/-- The frame of context c that an engine with no spare gave up (R264): it is pending again, unless a newer input is or the
context has restarted; what waited for its end takes effect (DEDUCED, log 34). -/
def Dev.encAbandon (d : Dev) (c : Nat) (p : EncPend) : Dev :=
  let d := (d.modEc c fun x => { x with
    discard := false, pend := if x.discard || x.pend.isSome then x.pend else some p }).encMirrored c
  if (d.ec c).shedAtEnd then d.encShedNow c else d

/-- An engine is retired (R264): engine 4 takes its place while it is a spare, else its contexts are reassigned. -/
def Dev.retireEnc (d : Dev) (e reason : Nat) : Dev :=
  let b := (d.ee e).busy
  let c0 := (b.map (·.1)).getD 0xFFFF
  let own : Own := { code := Code.encEngineRetired, p0 := e, p1 := c0 }
  let cs := (List.range 32).filter fun c => (d.ec c).engine == e
  let d := (((d.modEe e fun x => { x with state := .retired, busy := none }).abandonTest 5 e).recordRetired 5 e).raiseOwn own
  if e < 4 && (d.ee 4).state == .spare then
    let d := ((d.modEe 4 fun x => { x with state := .active, busy := b.map fun y => (y.1, y.2.1, 0), since := d.now }).modEe e fun x => { x with
      replacedBy := some 4 }).abandonTest 5 4
    let d := (d.setN O.encodeSpareState 0 0).raise Code.encSpareEngaged 4 e
    let d := cs.foldl (fun (d : Dev) c => d.setEncEngine c 4) d
    d.noteLasting 5 e own reason (some 4) 0 (if b.isSome then 7 else 3)
  else
    let d := if e = 4 then d.setN O.encodeSpareState 0 0 else d
    let d := match b with
      | some y => d.encAbandon y.1 y.2.1
      | none => d
    ((d.noteLasting 5 e own reason none 0 1).encReassign (cs.filter fun c => (d.ec c).state != .shed)).kickEncode

/-- A rerun that succeeded (R264, R414). -/
def Dev.encRetryOk (d : Dev) (e c : Nat) : Dev :=
  if d.transientOver 5 e then d.retireEnc e 2
  else
    let own : Own := { code := Code.encEngineTransient, p0 := e, p1 := c }
    ((d.bump O.encEngineTransientFaults e).raiseOwn own).noteTransient 5 e own

/-- ENCODE_FRAME_COMPLETE (R254 to R261): the frame is sent and the engine is at a frame boundary. -/
def execEncodeFrameComplete (t : Nat) (e : Fin 5) (params : List Bytes) (rows : List CodedRow)
    (estPrev estQuality : Nat) (s : State) : Host.Outcome State Fault Refusal :=
  s.run t fun d => d.when (d.alive && (d.ee e).state == .active) fun d =>
    match (d.ee e).busy with
    | none => d
    | some (c, p, tries) =>
      let d := if (d.ec c).discard then d.modEc c fun x => { x with discard := false }
        else d.codeFrame c p params rows estPrev estQuality
      let d := d.encMirrored c
      let d := d.modEe e fun x => { x with busy := none, work := workDone x.work x.since d.now }
      let d := if (d.ec c).shedAtEnd then d.encShedNow c else d
      let d := if tries = 0 then d else d.encRetryOk e c
      (d.kickEncode).kickDecode

/-- ENC_ENGINE_SELF_CHECK_FAIL (R264): the frame is rerun at once; a failed rerun retires the engine. -/
def execEncEngineSelfCheckFail (t : Nat) (e : Fin 5) (s : State) : Host.Outcome State Fault Refusal :=
  s.run t fun d => d.when (d.alive && (d.ee e).state == .active) fun d =>
    match (d.ee e).busy with
    | none => d
    | some (c, p, tries) =>
      let d := d.raise Code.encEngineFault e c
      if tries = 0 then d.modEe e fun x => { x with busy := some (c, p, 1) } else d.retireEnc e 1

/-! ### Feedback and reports (R257, R258, R260) -/

/-- A refresh is asked for: one in progress satisfies it (R257). -/
def Dev.wantRefresh (d : Dev) (c : Nat) : Dev :=
  if (d.ec c).gdr.isSome then d else d.modEc c fun x => { x with wantRefresh := true }

/-- A context that codes. -/
def Dev.encOn (d : Dev) (c : Nat) : Bool := (d.ec c).state == .running || (d.ec c).state == .waiting

/-- RTCP_FIR_RECEIVED (R257, R262). -/
def execRtcpFirReceived (t : Nat) (c : Fin 32) (s : State) : Host.Outcome State Fault Refusal :=
  s.run t fun d => d.when (d.alive && d.encOn c && d.relays) fun d =>
    (d.returnRx (16 * d.rn O.encodePort c + 2)).wantRefresh c

/-- RTCP_PLI_RECEIVED (R257, R258): within 1 s of the one before, a refresh; else the next frame refers to the long-term
reference alone. -/
def execRtcpPliReceived (t : Nat) (c : Fin 32) (s : State) : Host.Outcome State Fault Refusal :=
  s.run t fun d => d.when (d.alive && d.encOn c && d.relays) fun d =>
    let d := d.returnRx (16 * d.rn O.encodePort c + 2)
    let soon : Bool := match (d.ec c).lastPli with
      | some x => d.now < x + sec
      | none => false
    let d := if soon then d.wantRefresh c
      else if d.rf O.encodeLtrEnable c && (d.ec c).ltr.isSome then d.modEc c fun x => { x with ltrOnly := true }
      else d
    d.modEc c fun x => { x with lastPli := some d.now }

/-- REFRESH_INTERVAL_TIMER (R257). -/
def execRefreshIntervalTimer (t : Nat) (c : Fin 32) (s : State) : Host.Outcome State Fault Refusal :=
  s.run t fun d => d.when (d.alive && d.encOn c && d.rn O.encodeRefreshInterval c != 0) fun d => d.wantRefresh c

/-- A sender report (R260, RFC 3550): device time in the NTP format, as PTP or UTC. -/
def Dev.senderReport (d : Dev) (c : Nat) : Bytes :=
  let x := d.ec c
  let secs : Int := (d.now / sec : Nat) + 2208988800 - (if d.rn O.encodeSrTimescale c = 0 then d.ri O.timeUtcOffset else 0)
  [0x80, 0xC8] ++ be 2 6 ++ be 4 (x.ssrc.getD 0) ++ be 4 (ofSigned 32 secs) ++ be 4 (d.now % sec * 2 ^ 32 / sec) ++
    be 4 (rtp90k d.now) ++ be 4 x.pkts ++ be 4 x.octets

/-- RELAY_SR_TIMER (R260, R262). -/
def execRelaySrTimer (t : Nat) (c : Fin 32) (s : State) : Host.Outcome State Fault Refusal :=
  s.run t fun d => d.when (d.alive && d.encOn c) fun d => d.relayRtcp c (d.senderReport c)

end Sys2Proof.Machine
end

