-- ==== Sys2Proof/Machine/MemOps.lean ====
section
/-! DEFINITION. The memory subsystem's operations (chapter 11): the address map and its hash, queues, the choice of a command
slot, activates and row disturbance, refresh, read errors and spare rows, regions. -/

namespace Sys2Proof.Machine

/-! ### The address map (R294, R298, R299) -/

/-- Rows per bank. -/
def Mem.rows (m : Mem) : Nat := m.density * 4096

/-- Bytes presented to masters (Table 11-1). -/
def Mem.presented (m : Mem) : Nat := m.density * m.ranks * 2 ^ 31 - m.ranks * 2 ^ 23

/-- Hash mask j in effect. -/
def Mem.maskOf (m : Mem) (j : Nat) : Nat := m.masks.getD j (profileMask 1 j)

/-- Parity of the bits of a number, `n` bounding its width. -/
def parity : Nat → Nat → Nat
  | 0, _ => 0
  | n + 1, v => (v % 2 + parity n (v / 2)) % 2

/-- Hash bit j of an address (R299). -/
def Mem.hashBit (m : Mem) (a j : Nat) : Nat := parity 40 (a &&& m.maskOf j)

/-- Where an address lies: channel, rank, bank, row, burst of the page (Table 11-3). -/
structure Place where
  ch : Nat
  rank : Nat
  bank : Nat
  row : Nat
  col : Nat
deriving DecidableEq, Repr

/-- The map of an address. -/
def Mem.place (m : Mem) (a : Nat) : Place :=
  let hb (l : List Nat) : Nat := l.foldr (fun j v => m.hashBit a j + 2 * v) 0
  { ch := hb [0, 1, 2, 3], rank := if m.ranks = 2 then a / 2 ^ 19 % 2 else 0, bank := hb [4, 5, 6, 7]
    row := a / 2 ^ (if m.ranks = 2 then 20 else 19), col := a / 4096 % 8 * 4 + a / 64 % 4 }

/-- Whether a mask set is valid (R299). -/
def masksOk (l : List Nat) : Bool :=
  l.length == 8 && (l.zipIdx).all fun (v, j) => v % 2 ^ 19 == 2 ^ homeBit j && v < 2 ^ 36

/-- The masks a hash profile selects (R300). -/
def Dev.profileMasks (d : Dev) : List Nat :=
  let p := d.rn O.memoryHashProfile
  (List.range 8).map fun j => if p = 4 then d.rn O.memoryHashMask 0 j else profileMask p j

/-! ### Regions (R316, R317) -/

/-- The regions of Table 11-8: base, size, ECC. -/
def Dev.regions (d : Dev) : List (Nat × Nat × Bool) :=
  [(0, 2 ^ 28, true), (0x10000000, 2 ^ 28, true), (0x20000000, 2 ^ 26, true),
   (0x24000000, d.mem.presented - 0x24000000, d.rf O.memoryFrameEcc)]

/-- Whether an address is in a region's part that masters reach: with ECC the lower seven eighths; the wipe-and-scrub engine
reaches all of it. -/
def Dev.reached (d : Dev) (a : Nat) (wipe : Bool) : Bool :=
  d.regions.any fun r => r.1 ≤ a && a < r.1 + (if r.2.2 && !wipe then r.2.1 / 8 * 7 else r.2.1)

/-- Whether an address is data of an ECC region. -/
def Dev.eccAt (d : Dev) (a : Nat) : Bool := d.regions.any fun r => r.2.2 && r.1 ≤ a && a < r.1 + r.2.1 / 8 * 7

/-! ### Queues (R302) -/

/-- The request class of a master (Table 1-2, R27). -/
def masterClass (m : Nat) (scanout : Bool) : Nat :=
  if m < 14 then 5 else if m < 18 then 4 else if m < 27 then 2 else if m < 32 then 3
  else if m < 50 then (if scanout then 0 else 1) else if m = 52 then 4 else 5

/-- Whether a queue has an entry open to a class: 64 entries, eight held for classes 0 and 1. -/
def queueOpen (q : List MemReq) (cls : Nat) : Bool :=
  q.length < 64 && (cls ≤ 1 || (q.filter fun r => 1 < r.cls).length < 56)

/-- A request enters its queue, or is held at the fabric. -/
def Channel.enqueue (c : Channel) (r : MemReq) : Channel :=
  if r.write then if queueOpen c.writes r.cls then { c with writes := c.writes ++ [r] } else { c with held := c.held ++ [r] }
  else if queueOpen c.reads r.cls then { c with reads := c.reads ++ [r] } else { c with held := c.held ++ [r] }

/-- Held requests enter as entries open, oldest first. -/
def Channel.takeHeld (c : Channel) : Channel := c.held.foldl Channel.enqueue { c with held := [] }

/-- Queue the bursts of an access. -/
def Dev.queueAccess (d : Dev) (cls addr len : Nat) (write : Bool) : Dev :=
  let n := (addr % 64 + len + 63) / 64
  (List.range n).foldl (fun (d : Dev) i =>
    let p := d.mem.place (addr / 64 * 64 + 64 * i)
    d.modCh p.ch fun c => c.enqueue ⟨cls, d.now, p.rank, p.bank, p.row, p.col, write⟩) d

/-! ### The choice of a slot (R32, R303, R309) -/

/-- Urgency ages in ns (Table 1-5). -/
def urgencyNs (cls : Nat) : Nat := [2000, 8000, 40000, 60000, 20000, 100000].getD cls 100000

/-- A request has waited longer than its class's urgency age. -/
def MemReq.urgent (r : MemReq) (now_ : Nat) : Bool := r.time + urgencyNs r.cls < now_

/-- The bank number of a request. -/
def MemReq.bk (r : MemReq) : Nat := 16 * r.rank + r.bank

/-- Whether a request hits an open page: a page stays open 500 ns after its last hit. -/
def Channel.hit (c : Channel) (r : MemReq) (now_ : Nat) : Bool :=
  c.open_.any fun p => p.1 == r.bk && p.2.1 == r.row && now_ ≤ p.2.2 + 500

/-- The oldest of some requests; the first of equals. -/
def oldest (l : List MemReq) : Option MemReq := l.foldl (fun b r => match b with
  | some x => if r.time < x.time then some r else some x
  | none => some r) none

/-- The first by class, then by age. -/
def byClass (l : List MemReq) : Option MemReq := (List.range 6).findSome? fun c => oldest (l.filter fun r => r.cls == c)

/-- What the next slot issues. -/
inductive Slot303 where
  | refresh (rank : Nat)
  | rfm (bk : Nat)
  | req (r : MemReq)
deriving DecidableEq, Repr

/-- The requests in the queues. -/
def Channel.all (c : Channel) : List MemReq := c.reads ++ c.writes

/-- Whether a refresh of the channel may be postponed (R309): urgent requests or row hits are pending. -/
def Channel.busyNow (c : Channel) (now_ : Nat) : Bool := c.all.any fun r => r.urgent now_ || c.hit r now_

/-- The first command that can proceed (R303). A refresh that may no longer be postponed counts as forced. -/
def Channel.pick (c : Channel) (now_ : Nat) : Option Slot303 :=
  let owing := if c.busyNow now_ then c.forced else c.forced ++ (c.owed.filter fun o => 0 < o.2).map (·.1)
  let urgent := c.all.filter fun r => r.urgent now_
  let req (o : Option MemReq) : Option Slot303 := o.map .req
  (([owing.head?.map Slot303.refresh, req (oldest (urgent.filter fun r => r.cls == 0)), c.rfmDue.head?.map Slot303.rfm,
    req (byClass urgent), if c.drain then req (oldest c.writes) else none, req (oldest (c.all.filter fun r => c.hit r now_)),
    req (oldest c.all)] : List (Option Slot303)).findSome? id)

/-- Whether the writes of a channel drain: from 48 entries until 16 are left. -/
def Channel.drainAfter (c : Channel) : Bool := if c.drain then 16 < c.writes.length else 48 ≤ c.writes.length

/-! ### Activates (R305 to R308) -/

/-- A bank becomes due an RFMpb. -/
def Channel.due (c : Channel) (bk : Nat) : Channel :=
  if c.rfmDue.contains bk then c else { c with rfmDue := c.rfmDue ++ [bk] }

/-- The entry with the lowest count of a tally table; the first of equals. -/
def lowest (t : List (Nat × Nat)) : Option (Nat × Nat) := t.foldl (fun b e => match b with
  | some x => if e.2 < x.2 then some e else some x
  | none => some e) none

/-- A tally table after an activate of a row, none when it overflows (R306). -/
def tallyAdd (t : List (Nat × Nat)) (row : Nat) : Option (List (Nat × Nat)) :=
  if (tfind t row).isSome then some (t.map fun e => if e.1 = row then (row, e.2 + 1) else e)
  else if t.length < 64 then some (t ++ [(row, 1)])
  else match lowest t with
    | some x => if x.2 < 32 then some (t.map fun e => if e.1 = x.1 then (row, x.2 + 1) else e) else none
    | none => none

/-- An activate in a bank (R305 to R308). -/
def Dev.activate (d : Dev) (ch bk row : Nat) : Dev :=
  let c := d.ch ch
  let c := { c with acts := tset c.acts bk (tget 0 c.acts bk + 1), raa := tset c.raa bk (tget 0 c.raa bk + 1) }
  let c := if c.raaLimit ≠ 0 && c.raaLimit ≤ tget 0 c.raa bk then c.due bk else c
  let c := match tfind c.pess bk with
    | some n => let c := { c with pess := tset c.pess bk ((n + 1) % 256) }; if (n + 1) % 256 = 0 then c.due bk else c
    | none => c
  match tallyAdd (tget [] c.tally bk) row with
  | some t =>
    let beyond := t.any fun e => e.1 == row && d.rn O.memoryRhThreshold ≤ e.2
    let t := if beyond then t.map fun e => if e.1 = row then (row, 0) else e else t
    let c := { c with tally := tset c.tally bk t }
    d.modCh ch fun _ => if beyond then c.due bk else c
  | none =>
    if (tfind c.pess bk).isSome then d.modCh ch fun _ => c
    else ((d.modCh ch fun _ => { c with pess := tset c.pess bk 0 }).bump O.chanRhOverflow ch).raiseOnce sec ch
      Code.memRhOverflow ch

/-! ### Issuing (R303, R310, R315) -/

/-- A multiplier takes effect (R310, R311). -/
def Dev.setMult (d : Dev) (ch m : Nat) : Dev :=
  let c := d.ch ch
  if c.mult = m then d.modCh ch fun c => { c with multNext := none }
  else
    let late := (c.owed.filter fun o => 0 < o.2).map (·.1)
    (d.modCh ch fun x => { x with
      mult := m, multNext := none, forced := if x.mult < m then (x.forced ++ late).eraseDups else x.forced }).raise
      Code.memRefreshRate ch

/-- Issue a refresh of a rank: its pages close, due corrections and a lower multiplier take effect. -/
def Dev.issueRefresh (d : Dev) (ch rank : Nat) : Dev :=
  let c := d.ch ch
  let n := tget 0 c.owed rank - 1
  let d := (d.modCh ch fun c => { c with
    owed := tset c.owed rank n, forced := if n = 0 then c.forced.filter (· != rank) else c.forced
    open_ := c.open_.filter fun p => p.1 / 16 != rank, retuneDue := c.retuneDue.filter (· != rank) }).emit
      (.memIssue ch (.refresh rank))
  let d := if c.retuneDue.contains rank then d.bump O.chanRetunes ch else d
  match (d.ch ch).multNext with
  | some m => d.setMult ch m
  | none => d

/-- Issue refresh management for a bank (R306, R308). -/
def Dev.issueRfm (d : Dev) (ch bk : Nat) : Dev :=
  ((d.modCh ch fun c => { c with
    rfmDue := c.rfmDue.filter (· != bk), raa := tset c.raa bk 0, open_ := c.open_.filter fun p => p.1 != bk }).bump
      O.chanRfmIssued ch).emit (.memIssue ch (.rfm (bk / 16) (bk % 16)))

/-- Issue a request. -/
def Dev.issueReq (d : Dev) (ch : Nat) (r : MemReq) : Dev :=
  let c := d.ch ch
  let act := !c.hit r d.now
  let d := d.modCh ch fun c => { c with
    reads := if r.write then c.reads else c.reads.erase r, writes := if r.write then c.writes.erase r else c.writes
    open_ := (r.bk, r.row, d.now) :: c.open_.filter fun p => p.1 != r.bk }
  let d := if act then d.activate ch r.bk r.row else d
  let d := (d.bumpBy O.chanBytes ch 64).emit (.memIssue ch (.access r act))
  let d := { d with mem := { d.mem with classBytes := tset d.mem.classBytes r.cls (tget 0 d.mem.classBytes r.cls + 64) } }
  let wait := d.now - r.time
  if r.cls = 0 && d.rn O.chanClass0WaitMax ch < wait then d.setN O.chanClass0WaitMax ch (min wait 0xFFFFFFFF) else d

/-! ### Read errors and spare rows (R318, R319) -/

/-- The unit event of a row (R411). -/
def Place.own (p : Place) (code : Nat) : Own := { code := code, p0 := p.ch, p1 := p.rank, p2 := p.bank, p3 := p.row }

/-- The key a row's transient faults are counted under. -/
def Place.rowKey (p : Place) : Nat := 1 + ((p.ch * 2 + p.rank) * 16 + p.bank) * 2 ^ 20 + p.row

/-- The remap entry of a row in effect, or the one being copied. -/
def Dev.remapOf (d : Dev) (p : Place) (active : Bool) : Option Remap :=
  (d.ch p.ch).remaps.find? fun r => r.rank == p.rank && r.bank == p.bank && r.row == p.row && r.active == active

/-- The spare indexes of a bank still free. -/
def Dev.sparesFree (d : Dev) (ch rank bank : Nat) : List Nat :=
  (List.range 16).filter fun k => !((d.ch ch).remaps.any fun r => r.rank == rank && r.bank == bank && r.spare == k)

/-- Whether the burst at an address is poisoned. -/
def Dev.poisoned (d : Dev) (a : Nat) : Bool :=
  let p := d.mem.place a
  match d.remapOf p true with
  | some r => r.poison.contains p.col
  | none => false

/-- A row is spared: its copy to the lowest free spare begins; without one it stays in place (R319). -/
def Dev.spareRow (d : Dev) (p : Place) (reason : Nat) : Dev :=
  let own := p.own Code.memReadLasting
  if (d.remapOf p false).isSome then d
  else match d.sparesFree p.ch p.rank p.bank with
    | k :: rest =>
      (d.modCh p.ch fun c => { c with remaps := c.remaps ++ [⟨p.rank, p.bank, p.row, k, [], false⟩] }).noteLasting 10 0 own
        reason (some k) rest.length 2
    | [] =>
      let bk := 16 * p.rank + p.bank
      let d := d.noteLasting 10 0 own reason none 0 0
      if (d.ch p.ch).sparesOut.contains bk then d
      else (d.modCh p.ch fun c => { c with sparesOut := bk :: c.sparesOut }).raise Code.memSpareRowsOut p.ch p.rank p.bank

/-- A read at an address is lasting uncorrectable. -/
def Dev.readLasting (d : Dev) (a reason : Nat) : Dev :=
  let p := d.mem.place a
  ((d.bump O.memoryReadLasting).raiseOwn (p.own Code.memReadLasting)).spareRow p reason

/-- A re-read has given good data: transient, or lasting at the limit of R414. -/
def Dev.readTransient (d : Dev) (a : Nat) : Dev :=
  let p := d.mem.place a
  let own := p.own Code.memReadTransient
  let d := d.raiseOwn own
  if d.transientOver 10 p.rowKey then d.readLasting a 2
  else
    let d := { d with health := { d.health with transients := (10, p.rowKey, d.now) :: d.health.transients } }
    (d.logFault 0 10 0 own 0 0 0xFFFF).raiseOnce sec (unitKey 10 p.rowKey) Code.healthTransient 10 0 own.code

/-- A corrected error at an address (R318, R321). -/
def Dev.corrected (d : Dev) (a : Nat) : Dev :=
  let p := d.mem.place a
  let key := [p.ch, p.rank, p.bank, p.row]
  let old := ((d.mem.corrected.find? fun e => e.1 == key).map (·.2)).getD []
  let now_ := d.now :: old.filter fun t => d.now < t + day
  let d := { d with mem := { d.mem with corrected := (key, now_) :: d.mem.corrected.filter fun e => e.1 != key } }
  (d.bump O.memoryEccCorrected).raiseOnce (60 * sec) 0 Code.memEccCorrected

/-- A read that is uncorrectable is re-read once (R318). -/
def Dev.reread (d : Dev) (a master : Nat) : Dev :=
  d.modCh (d.mem.place a).ch fun c => { c with rereads := c.rereads ++ [(a, master)] }

/-- memory.ppr_candidates (R321): spared rows, and rows with 16 corrected errors within 24 h, up to 256. -/
def Dev.pprRows (d : Dev) : List (List Nat) :=
  let spared := (List.range 16).flatMap fun ch => (d.ch ch).remaps.map fun r => [ch, r.rank, r.bank, r.row]
  let weak := (d.mem.corrected.filter fun e => 16 ≤ (e.2.filter fun t => d.now < t + day).length).map (·.1)
  (spared ++ weak).eraseDups.take 256

/-! ### Throttling (R312, R458) -/

/-- thermal.throttled_s: the time of ended throttlings and of the one in progress; saturates. -/
def Dev.throttledS (d : Dev) : Nat :=
  min 0xFFFFFFFF (d.rn O.thermalThrottledS + if d.power.throttle = 0 then 0 else (d.now - d.power.thFrom) / sec)

/-- Throttling begins in step 1. -/
def Dev.throttleOn (d : Dev) : Dev :=
  ({ d with power := { d.power with throttle := 1, thFrom := d.now, thBelow := none } }).raise
    Code.thermalThrottle

/-- Throttling ends. -/
def Dev.throttleOff (d : Dev) : Dev :=
  let d := d.setN O.thermalThrottledS 0 d.throttledS
  { d with power := { d.power with throttle := 0, thBelow := none } }

/-- Whether a channel reports its DRAM above the high-temperature limit. -/
def Dev.dramHot (d : Dev) : Bool := (List.range 16).any fun ch => (d.ch ch).hot

end Sys2Proof.Machine
end

