-- ==== Sys2Proof/Machine/HeadLink.lean ====
section
/-! DEFINITION. Head links (R218 to R233): states of Table 8-4, candidates and attempts, the retry of a lost lock, and lane
calibration (R234 to R236); the meanings of the HPD, link, training and lane commands. -/

namespace Sys2Proof.Machine

/-! ### Candidates (R223, R229) -/

/-- Capacity per lane in Mb/s of a rate code (Table 8-3). -/
def laneCapacity (rate : Nat) : Nat := [1296, 2160, 4320, 6480, 9697, 13091, 19394].getD rate 0

/-- Line rate per lane in Mb/s of a rate code (Table 8-3). -/
def lineRate (rate : Nat) : Nat := [1620, 2700, 5400, 8100, 10000, 13500, 20000].getD rate 0

/-- Bits per pixel of an encoding (R223). -/
def bitsPerPixel (enc : Nat) : Nat := [24, 30, 30, 20].getD enc 30

/-- Whether a rate and lane count carry the mode of head h at a divisor (R223): need at or below 0.97 of the capacity. -/
def Dev.carriesMode (d : Dev) (h rate lanes div : Nat) : Bool :=
  100 * d.rn O.headHTotal h * 1200 * bitsPerPixel (d.rn O.headEncoding h) ≤
    97 * lanes * laneCapacity rate * d.rn O.headLineCycles h * div

/-- The lane counts an attempt may use (R229, R231): made of contiguous lanes from lane 0 that are not failed. -/
def Dev.laneCounts (d : Dev) (h : Nat) : List Nat :=
  let l := d.lk h
  [1, 2, 4].filter fun n => n ≤ l.sinkLanes && n ≤ d.rn O.headLaneCount h && l.failed.all fun f => n ≤ f

/-- The candidates of head h in order (R229): nominal, then fallback where the divisor gives one. -/
def Dev.candidates (d : Dev) (h : Nat) : List Cand :=
  let rates := (List.range 7).filter fun r => r ≤ d.rn O.headMaxRate h && (d.lk h).sinkRates.contains r
  let pairs := rates.flatMap fun r => (d.laneCounts h).map fun n => (r, n)
  let div := d.rn O.headFallbackDivisor h
  let take (dv : Nat) (fb : Bool) : List Cand :=
    (pairs.filter fun p => d.carriesMode h p.1 p.2 dv).map fun p => ⟨p.1, p.2, fb⟩
  take 1 false ++ if div ≤ 1 then [] else take div true

/-! ### States (Tables 8-4 and 8-5) -/

/-- The link takes a state; leaving RUNNING cuts off the frame in progress, which is not sealed (R226). -/
def Dev.linkTo (d : Dev) (h : Nat) (st : LinkState) : Dev :=
  let d := if (d.lk h).state == .running && st != .running then
      d.modHd h fun x => { x with
        emitting := false, sealPend := none, dark := if x.inFrame then (x.start :: x.dark).take 4 else x.dark } else d
  d.modLk h fun l => { l with state := st }

/-- Entry to UNTRAINED with a code; the next retry by the schedule of R233. -/
def Dev.untrained (d : Dev) (h code : Nat) : Dev :=
  ((d.linkTo h .untrained).modLk h fun l => { l with
    retryAt := some (d.now + 1000000 * [100, 400, 1600].getD l.retryStep 5000), retryStep := l.retryStep + 1
    cands := [], sameRetry := false }).raise code h

/-- A full attempt starts (R229 to R231). -/
def Dev.beginAttempt (d : Dev) (h : Nat) : Dev :=
  if d.rf O.clockRefSpread && !(d.lk h).sinkSpread then d.untrained h Code.linkSpreadUnsupported
  else match d.candidates h with
    | [] => d.untrained h Code.linkModeNofit
    | cs => ((d.linkTo h .training).modLk h fun l => { l with
        cands := cs, phase := 0, tookPart := [], lockSeen := [], sameRetry := false, retryAt := none }).bump O.headTrainings h

/-- Entry to READING. -/
def Dev.toReading (d : Dev) (h : Nat) : Dev := (d.linkTo h .reading).modLk h fun l => { l with retryAt := none, cands := [] }

/-- head[h].enable true takes effect (Table 8-5). -/
def Dev.linkEnable (d : Dev) (h : Nat) : Dev :=
  if (d.lk h).state == .disabled then
    if (d.lk h).hpd then d.toReading h else d.linkTo h .absent
  else d

/-- head[h].enable false takes effect. -/
def Dev.linkDisable (d : Dev) (h : Nat) : Dev :=
  (d.linkTo h .disabled).modLk h fun l => { l with cands := [], sameRetry := false, retryAt := none, lossOf := [] }

/-- The lane of DisplayPort lane i of head h (R218). -/
def headLane (h i : Nat) : Nat := 2 * h + i

/-- A head enters RUNNING on a candidate (R222, R226, R231, R233): the frames follow from the next permitted frame
start. -/
def Dev.enterRunning (d : Dev) (h : Nat) (c : Cand) : Dev :=
  let l := d.lk h
  let was := l.degraded
  let deg := mask ((if l.failed.any fun f => f < d.rn O.headLaneCount h then [0] else []) ++ (if c.fallback then [1] else []))
  let d := (d.linkTo h .running).modLk h fun l => { l with
    cur := some c, cands := [], sameRetry := false, lossOf := [], degraded := deg, retryStep := 0, retryAt := none
    runningSince := d.now }
  let d := d.raise Code.linkRunning h
  let d := if deg ≠ 0 then d.raise Code.linkDegraded h else if was ≠ 0 then d.raise Code.linkRestored h else d
  let d := if c.fallback then d.raise Code.linkFallback h else d
  if l.sinkVsc then d else d.raise Code.linkColorimetryLimited h

/-- A lane whose loss of lock the same-setting retry did not mend is a lasting fault of kind 11 (R413; DEDUCED, log 33). -/
def Dev.laneFault (d : Dev) (h i : Nat) : Dev :=
  if (d.lk h).lossOf.contains i then
    d.noteLasting 11 (headLane h i) { code := Code.laneFailed, p0 := h, p1 := i } 1 none 0 0
  else d

/-- An attempt ends (R231): with a trained candidate, at an attempt bound, or with no candidate left. An attempt bound
ends it with LINK_PHASE_TIMEOUT wherever the head goes (R230). -/
def Dev.attemptEnd (d : Dev) (h : Nat) (trained : Option Cand) (timeout : Bool) : Dev :=
  let l := d.lk h
  let new := l.tookPart.filter fun i => !l.lockSeen.contains i
  let d := new.foldl (fun (d : Dev) i => (d.raise Code.laneFailed h i).laneFault h i) d
  let d := d.modLk h fun l => { l with failed := l.failed ++ new }
  if new.contains 0 then
    let d := if timeout then d.raise Code.linkPhaseTimeout h else d
    ((d.linkTo h .down).modLk h fun l => { l with cands := [] }).raise Code.laneNone h
  else match trained with
    | some c => d.enterRunning h c
    | none =>
      if timeout then d.untrained h Code.linkPhaseTimeout
      else if new.isEmpty then d.untrained h Code.linkModeNofit
      else d.beginAttempt h

/-- A head in RUNNING has lanes out of lock: the same candidate is retrained once (R232). -/
def Dev.lockLoss (d : Dev) (h : Nat) (out : List Nat) : Dev :=
  match (d.lk h).state, (d.lk h).cur with
  | .running, some c =>
    if out.isEmpty then d
    else (d.linkTo h .training).modLk h fun l => { l with
      cands := [c], phase := 0, tookPart := [], lockSeen := [], sameRetry := true, lossOf := out }
  | _, _ => d

/-- The status a sink reports: the lanes in use out of lock start the retry of R232. -/
def Dev.linkStatus (d : Dev) (h : Nat) (locked : List Nat) : Dev :=
  match (d.lk h).cur with
  | some c => d.lockLoss h ((List.range c.lanes).filter fun i => !locked.contains i)
  | none => d

/-- The same-setting retry trained (R232): the loss was transient (R413, R414; DEDUCED, log 33). -/
def Dev.lockRegained (d : Dev) (h : Nat) (c : Cand) : Dev :=
  let out := (d.lk h).lossOf
  let own : Own := { code := Code.linkTransient, p0 := h }
  let d := out.foldl (fun (d : Dev) i =>
    if d.transientOver 11 (headLane h i) then d.noteLasting 11 (headLane h i) own 2 none 0 0
    else d.noteTransient 11 (headLane h i) own) (d.raiseOwn own)
  d.enterRunning h c

/-- A write to head[h].retrain (R225, R231, R233). -/
def Dev.retrainHead (d : Dev) (h v : Nat) : Dev :=
  let d := d.modLk h fun l => { l with retryStep := 0, failed := if v = 2 then [] else l.failed }
  match (d.lk h).state with
  | .running => d.beginAttempt h
  | .untrained => d.toReading h
  | .down => if v = 2 then d.toReading h else d
  | _ => d

/-! ### Commands of the link -/

/-- HPD_LOW_TIMEOUT (R225, R231). -/
def execHpdLowTimeout (t : Nat) (h : Fin 32) (s : State) : Host.Outcome State Fault Refusal :=
  s.run t fun d => d.when (d.alive && h < d.gradeHeads) fun d =>
    let st := (d.lk h).state
    let d := d.modLk h fun l => { l with hpd := false, failed := [] }
    if st == .disabled || st == .absent then d
    else ((d.linkTo h .absent).modLk h fun l => { l with
      cands := [], sameRetry := false, lossOf := [], retryAt := none, cur := none }).raise Code.linkAbsent h

/-- HPD_HIGH_STABLE (R225, R228, R233): the count of 10 ms runs from the last IRQ_HPD. -/
def execHpdHighStable (t : Nat) (h : Fin 32) (s : State) : Host.Outcome State Fault Refusal :=
  s.run t fun d => d.when (d.alive && h < d.gradeHeads) fun d =>
    let d := if (d.lk h).hpd then d else d.modLk h fun l => { l with hpd := true, retryStep := 0 }
    if (d.lk h).state == .absent && (d.lk h).countFrom + 10000000 ≤ d.now then
      (d.toReading h).raise Code.linkPresent h
    else d

/-- IRQ_HPD (R228, R232): a low pulse of 0.25 ms to 2 ms. -/
def execIrqHpd (t : Nat) (h : Fin 32) (lowUs : Nat) (locked : List Nat) (s : State) :
    Host.Outcome State Fault Refusal :=
  s.run t fun d => d.when (d.alive && h < d.gradeHeads && 250 ≤ lowUs && lowUs ≤ 2000) fun d =>
    if (d.lk h).state == .absent then d.modLk h fun l => { l with countFrom := d.now }
    else d.linkStatus h locked

/-- LINK_STATUS_POLL (R228, R232). -/
def execLinkStatusPoll (t : Nat) (h : Fin 32) (locked symbolErrors : List Nat) (s : State) :
    Host.Outcome State Fault Refusal :=
  s.run t fun d => d.when (d.alive && (d.lk h).state == .running) fun d =>
    (d.bumpBy O.headSymbolErrors h (sumL symbolErrors)).linkStatus h locked

/-- READING_COMPLETE (R229, R230). -/
def execReadingComplete (t : Nat) (h : Fin 32) (caps : SinkCaps) (s : State) : Host.Outcome State Fault Refusal :=
  s.run t fun d => d.when (d.alive && (d.lk h).state == .reading) fun d =>
    let d := (d.setB O.headSinkCaps h (caps.dpcd.take 257)).setB O.headEdid h (caps.edid.take 1024)
    (d.modLk h fun l => { l with
      sinkRates := caps.rates, sinkLanes := caps.lanes, sinkSpread := caps.spread, sinkVsc := caps.vsc }).beginAttempt h

/-- The drive settings of the lanes in training (head[h].drive): one byte a lane. -/
def driveWord (drive : List Nat) : Nat := leAt (drive.map byteOf) 0 4

/-- TRAINING_PHASE_DONE (R229 to R232). -/
def execTrainingPhaseDone (t : Nat) (h : Fin 32) (locked drive : List Nat) (s : State) :
    Host.Outcome State Fault Refusal :=
  s.run t fun d => d.when (d.alive && (d.lk h).state == .training) fun d =>
    match (d.lk h).cands with
    | [] => d
    | c :: rest =>
      let lanes := List.range c.lanes
      let d := (d.setN O.headDrive h (driveWord (drive.take c.lanes))).modLk h fun l => { l with
        tookPart := (l.tookPart ++ lanes).eraseDups
        lockSeen := (l.lockSeen ++ lanes.filter locked.contains).eraseDups }
      let l := d.lk h
      if lanes.all locked.contains then
        if l.phase = 0 then d.modLk h fun l => { l with phase := 1 }
        else if l.sameRetry then d.lockRegained h c
        else d.attemptEnd h (some c) false
      else if l.sameRetry then d.beginAttempt h
      else if rest.isEmpty then d.attemptEnd h none false
      else d.modLk h fun l => { l with cands := rest, phase := 0 }

/-- TRAINING_ATTEMPT_TIMEOUT (R230, R231): in READING, or in an attempt; the retry of R232 gives way to a full
attempt. -/
def execTrainingAttemptTimeout (t : Nat) (h : Fin 32) (s : State) : Host.Outcome State Fault Refusal :=
  s.run t fun d => d.when d.alive fun d =>
    match (d.lk h).state with
    | .reading => d.untrained h Code.linkPhaseTimeout
    | .training => if (d.lk h).sameRetry then d.beginAttempt h else d.attemptEnd h none true
    | _ => d

/-- LINK_RETRY_TIMER (R233). -/
def execLinkRetryTimer (t : Nat) (h : Fin 32) (s : State) : Host.Outcome State Fault Refusal :=
  s.run t fun d => d.when (d.alive && (d.lk h).state == .untrained && ((d.lk h).retryAt.getD 0 ≤ d.now)) fun d =>
    d.toReading h

/-- LINK_RESTORE_TIMER (R233). -/
def execLinkRestoreTimer (t : Nat) (h : Fin 32) (s : State) : Host.Outcome State Fault Refusal :=
  s.run t fun d =>
    let l := d.lk h
    let n := d.rn O.headRestoreInterval h
    d.when (d.alive && l.state == .running && l.degraded != 0 && n != 0 && l.runningSince + n * sec ≤ d.now) fun d =>
      d.beginAttempt h

/-! ### Lanes -/

/-- LANE_CALIBRATION_TIMER (R234, R235): a receiving lane takes new settings when the measurements agree and exceed its
FOM; a head lane, which only transmits, recalibrates its driver. -/
def execLaneCalibrationTimer (t : Nat) (lane : Fin 72) (fom1 fom2 eye : Nat) (s : State) :
    Host.Outcome State Fault Refusal :=
  s.run t fun d => d.when d.alive fun d =>
    if lane.val < 64 then d.modLn lane fun l => { l with correction := some (0, 0) }
    else if gapOf fom1 fom2 ≤ 8 && 2 * (d.ln72 lane).fom < fom1 + fom2 then
      (d.modLn lane fun l => { l with correction := some ((fom1 + fom2) / 2 % 256, min 128 eye) }).bump O.laneCalAccepted lane
    else d.bump O.laneCalRejected lane

/-- Whether a lane's line is in blanking (R236): a head lane's after the seal window and outside the active lines, an
Ethernet lane's while no frame is sent. -/
def Dev.laneBlank (d : Dev) (lane : Nat) : Bool :=
  if lane < 64 then
    let own (h : Nat) : Bool := (d.lk h).cur.any fun c => 2 * h ≤ lane && lane < 2 * h + c.lanes
    match (List.range 32).find? fun h => own h && (d.hd h).emitting with
    | some h => !(d.hd h).inFrame && d.sealEnd h ≤ six d.now
    | none => true
  else if lane < 68 then (d.port (lane - 64)).sending.isNone
  else true

/-- LANE_CORRECTION_APPLY (R236): a correction that cannot find blanking waits. -/
def execLaneCorrectionApply (t : Nat) (lane : Fin 72) (s : State) : Host.Outcome State Fault Refusal :=
  s.run t fun d => d.when (d.alive && d.laneBlank lane) fun d =>
    match (d.ln72 lane).correction with
    | some (fom, eye) => d.modLn lane fun _ => { fom := fom, eye := eye, correction := none }
    | none => d

end Sys2Proof.Machine
end

