-- ==== Sys2Proof/Machine/RopeOps.lean ====
section
/-! DEFINITION. The rope link's shared operations (R237 to R245): blocks, flits, bring-up, replay, lane loss, and what the
other units send over it. -/

namespace Sys2Proof.Machine

/-- Change the rope. -/
def Dev.modRope (d : Dev) (f : Rope → Rope) : Dev := { d with rope := f d.rope }

/-- The rope carries flits. -/
def Dev.ropeIsUp (d : Dev) : Bool := d.rope.state == 2

/-! ### Blocks (Table 8-8) -/

/-- A lane marker: logical lane, lane count, speed, marker sequence. -/
def markerBlock (logical count speed seq : Nat) : Bytes :=
  [0xE1, byteOf logical, byteOf count, byteOf speed] ++ be 4 seq ++ zeros 8

/-- A training set of a lane. -/
def trainingBlock (lane offered highest speed preset : Nat) (ready : Bool) : Bytes :=
  [0xAA, byteOf lane, byteOf offered, byteOf highest, byteOf speed, byteOf preset, if ready then 1 else 0] ++ zeros 8 ++ [0x4A]

/-- The idle exit burst block. -/
def burstBlock : Bytes := (0x78 : Byte) :: (List.range 15).map fun i => if i % 2 = 0 then 0x00 else 0xFF

/-- The electrical idle entry block. -/
def idleEntryBlock : Bytes := (0x1E : Byte) :: zeros 15

/-- Send a block on lanes. -/
def Dev.ropeBlocks (d : Dev) (lanes : List Nat) (b : Bytes) : Dev :=
  lanes.foldl (fun (d : Dev) l => d.emit (.ropeBlock l b)) d

/-- A marker on every active transmit lane (R238). -/
def Dev.ropeMarkers (d : Dev) : Dev :=
  let r := d.rope
  let n := r.txLanes.length
  let d := ((List.range n).zip r.txLanes).foldl (fun (d : Dev) p => d.emit (.ropeBlock p.2 (markerBlock p.1 n r.step r.markerSeq))) d
  d.modRope fun x => { x with markerSeq := (x.markerSeq + 1) % 2 ^ 32 }

/-- Training sets of a step on lanes (R239): the equalisation preset is the receiver's choice and free (DESIGN CHOICE, log 9). -/
def Dev.ropeTrain (d : Dev) (lanes : List Nat) : Dev :=
  let r := d.fresh
  lanes.foldl (fun (d : Dev) l => d.emit (.ropeBlock l
    (trainingBlock l (mask lanes) (d.rn O.ropeMaxSpeed) d.rope.step (r.1 % 8) false))) r.2

/-! ### Flits (Table 8-10) -/

/-- The 256 bytes of a flit with the acknowledgement of its sending. -/
def flitBytes (typ chan seq ack len flags : Nat) (payload : Bytes) : Bytes :=
  let b := [byteOf typ, byteOf chan] ++ be 2 seq ++ be 2 ack ++ [byteOf len, byteOf flags] ++ fit 244 payload
  b ++ be 4 (crc32c b)

/-- Put a queued flit on the line. -/
def Dev.emitFlit (d : Dev) (f : Flit) : Dev :=
  d.emit (.flit (flitBytes f.typ f.chan f.seq d.rope.expect f.data.length (if f.last then 5 else 1) f.data))

/-- Send an acknowledge-only flit, with NAK when asked (R244). -/
def Dev.sendAck (d : Dev) (nak : Bool) : Dev :=
  (d.emit (.flit (flitBytes 2 0 0 d.rope.expect 0 (if nak then 3 else 1) []))).modRope fun x => { x with unacked := 0 }

/-- Move waiting flits to the line while fewer than 128 are unacknowledged (R244); `n` bounds the moves. -/
def Dev.flushRope : Nat → Dev → Dev
  | 0, d => d
  | n + 1, d =>
    match d.rope.sendQ with
    | [] => d
    | f :: rest =>
      if 128 ≤ d.rope.replayQ.length || d.rope.idleTx || !d.ropeIsUp then d
      else
        let f := { f with seq := d.rope.nextSend }
        let d := d.modRope fun x => { x with
          sendQ := rest, replayQ := x.replayQ ++ [f], nextSend := (x.nextSend + 1) % 65536, idleSince := d.now, unacked := 0
          advanceAt := if x.replayQ.isEmpty then d.now else x.advanceAt }
        Dev.flushRope n (d.emitFlit f)

/-- Queue a flit and send what can be sent. -/
def Dev.queueFlit (d : Dev) (f : Flit) : Dev :=
  let d := d.modRope fun x => { x with sendQ := x.sendQ ++ [f] }
  d.flushRope d.rope.sendQ.length

/-- The fragments of a message, 244 bytes each. -/
def fragments : Nat → Bytes → List Bytes
  | 0, b => [b]
  | n + 1, b => if b.length ≤ 244 then [b] else b.take 244 :: fragments n (b.drop 244)

/-- Send a message on a channel of the rope; a rope that is not up carries nothing (R240). -/
def Dev.ropeSend (d : Dev) (chan : Nat) (msg : Bytes) : Dev :=
  if d.ropeIsUp && tget 0 d.health.dmaFault (unitKey 16 0) == 0 then
    let fs := fragments msg.length msg
    ((List.range fs.length).zip fs).foldl (fun (d : Dev) p => d.queueFlit ⟨1, chan, 0, p.2, p.1 + 1 == fs.length⟩) d
  else d

/-- A management flit (Table 8-10): 1 LANE_DROP, 2 LANE_ADD. -/
def Dev.sendLaneCmd (d : Dev) (cmd lane : Nat) : Dev := d.queueFlit ⟨3, 0, 0, [byteOf cmd, byteOf lane], false⟩

/-! ### Bring-up (R239, R240) -/

/-- The numbers and queues of a fresh link. -/
def Rope.cleared (r : Rope) : Rope :=
  { r with txLanes := [], rxLanes := [], rxOld := [], retrying := [], rejoin := [], nextSend := 0, expect := 0, replayQ := []
           sendQ := [], nakSent := false, unacked := 0, replays := 0, idleTx := false, parts := [] }

/-- Bring-up starts: 2.5 Gb/s on every lane that is not lost. -/
def Dev.ropeStart (d : Dev) : Dev :=
  let d := d.modRope fun x => { x.cleared with state := 1, step := 0, prevLanes := [], lastStep := false, retryAt := none }
  d.ropeTrain [0, 1, 2, 3]

/-- The rope goes DOWN with ROPE_DOWN; the next bring-up by the schedule of R240. -/
def Dev.ropeDown (d : Dev) : Dev :=
  (d.modRope fun x => { x.cleared with
    state := 0, retryAt := some (d.now + 1000000 * [100, 400, 1600].getD x.retryStep 5000), retryStep := x.retryStep + 1 }).raise
    Code.ropeDown

/-- Down from any other state than DOWN. -/
def Dev.ropeFail (d : Dev) : Dev := if d.rope.state = 0 then d else d.ropeDown

/-- The link becomes UP on lanes (R239). -/
def Dev.ropeUp (d : Dev) (lanes : List Nat) : Dev :=
  let d := d.modRope fun x => { x with
    state := 2, txLanes := lanes, rxLanes := lanes, rxOld := lanes, retryStep := 0, idleSince := d.now, advanceAt := d.now }
  (d.ropeMarkers.raise Code.ropeUp).raise Code.ropeSpeed d.rope.step (mask lanes)

/-- A training step ends with the lanes that locked and their FOM (R239): the next speed, back to the previous one, or
UP. -/
def Dev.ropeStep (d : Dev) (locked : List (Nat × Nat)) (partnerMax : Nat) : Dev :=
  let r := d.rope
  let ok := locked.filter fun p => p.1 < 4 && !r.lostLanes.contains p.1
  let lanes := (List.range 4).filter fun l => ok.any fun p => p.1 == l
  let d := ok.foldl (fun (d : Dev) p => d.modLn (68 + p.1) fun x => { x with fom := min 255 p.2 }) d
  let worse := r.step != 0 && !r.lastStep &&
    (lanes.length < r.prevLanes.length || ok.any fun p => p.2 < d.rn O.ropeFomFloor)
  if lanes.isEmpty && !worse then d.ropeDown
  else if worse then
    (d.modRope fun x => { x with step := x.step - 1, lastStep := true }).ropeTrain r.prevLanes
  else if r.lastStep || min (d.rn O.ropeMaxSpeed) partnerMax ≤ r.step then d.ropeUp lanes
  else
    ((d.ropeBlocks lanes idleEntryBlock).modRope fun x => { x with step := x.step + 1, prevLanes := lanes }).ropeTrain lanes

/-! ### Lanes of the rope (R238, R241) -/

/-- A receiving lane is lost: LANE_DROP goes to the partner and the lane is retried for 10 ms; the last lane of a
direction takes the rope down. -/
def Dev.ropeLaneLoss (d : Dev) (lane : Nat) : Dev :=
  let rest := d.rope.rxLanes.filter (· != lane)
  if rest.isEmpty then d.ropeDown
  else (d.modRope fun x => { x with
      rxOld := x.rxLanes, rxLanes := rest, retrying := tset x.retrying lane d.now, rejoin := x.rejoin.filter (· != lane) }).sendLaneCmd 1 lane

/-- Striping stops on a lane at the next marker (LANE_DROP): training sets go out on it instead. -/
def Dev.ropeDropTx (d : Dev) (lane : Nat) : Dev :=
  if d.rope.txLanes.contains lane then
    let d := d.modRope fun x => { x with txLanes := x.txLanes.filter (· != lane) }
    if d.rope.txLanes.isEmpty then d.ropeDown else d.ropeMarkers.ropeTrain [lane]
  else d

/-- A lane rejoins at the next marker (LANE_ADD). -/
def Dev.ropeAddTx (d : Dev) (lane : Nat) : Dev :=
  if lane < 4 && !d.rope.txLanes.contains lane then
    (d.modRope fun x => { x with txLanes := (List.range 4).filter fun l => l == lane || x.txLanes.contains l }).ropeMarkers
  else d

/-! ### Replay (R244) -/

/-- The signed 16-bit difference of two sequences. -/
def seqDiff (a b : Nat) : Int := toSigned 16 (a + 65536 - b % 65536)

/-- Send everything outstanding again, from a sequence on; the fifth in a row without advance takes the rope down. -/
def Dev.ropeReplay (d : Dev) (from_ : Nat) : Dev :=
  if 4 ≤ d.rope.replays then d.ropeDown
  else
    let d := (d.modRope fun x => { x with replays := x.replays + 1, advanceAt := d.now }).raiseOnce sec 0 Code.ropeReplay
    (d.rope.replayQ.filter fun f => 0 ≤ seqDiff f.seq from_).foldl (fun (d : Dev) f => d.emitFlit f) d

/-- The acknowledgement of a received flit: what precedes it is done; an advance after a replay counts it. -/
def Dev.ropeAcked (d : Dev) (ack : Nat) : Dev :=
  let q := d.rope.replayQ.filter fun f => 0 ≤ seqDiff f.seq ack
  if q.length = d.rope.replayQ.length then d
  else
    let d := if d.rope.replays = 0 then d else d.bump O.ropeReplays
    let d := d.modRope fun x => { x with replayQ := q, replays := 0, advanceAt := d.now }
    d.flushRope d.rope.sendQ.length

end Sys2Proof.Machine
end

