-- ==== Sys2Proof/Machine/ServiceOps.lean ====
section
/-! DEFINITION. Services (chapter 13), their operations: protection units and the checks of accesses, mailboxes, the reset of
a processor and of the ends bound to it. -/

namespace Sys2Proof.Machine

/-! ### Protection units (R370 to R375) -/

/-- The register window (R370). -/
abbrev regWindow : Nat := 0xF000000000

/-- Fields of a region word (Table 13-10): base, size, whether it holds an address. -/
def regionBase (w : Nat) : Nat := w / 2 ^ 12 % 2 ^ 28 * 2 ^ 12
/-- See `regionBase`. -/
def regionLog (w : Nat) : Nat := w / 2 ^ 42 % 64
/-- See `regionBase`. -/
def regionHas (w a : Nat) : Bool := bit w 63 && regionBase w ≤ a && a < regionBase w + 2 ^ regionLog w

/-- The bit of a kind of access. -/
def accessBit : Access → Nat
  | .read => 62
  | .write => 61
  | .fetch => 60

/-- The code of a kind of access (R370). -/
def accessCode : Access → Nat
  | .read => 0
  | .write => 1
  | .fetch => 2

/-- Whether a region word grants an access to an address. -/
def regionGrants (w right a : Nat) : Bool :=
  regionHas w a && bit w right && !bit w (48 + (a - regionBase w) / 2 ^ (regionLog w - 3))

/-- Whether master n may access one address (R370). -/
def Dev.mayAccess (d : Dev) (n right a : Nat) : Bool :=
  (d.reached a (n == 54) || (regWindow ≤ a && a < regWindow + 2 ^ 32)) && (d.prot n).active.any fun w => regionGrants w right a

/-- The code an access is refused with; 0 when it is allowed. -/
def Dev.protCheck (d : Dev) (n : Nat) (k : Access) (addr len : Nat) : Nat :=
  let ok := (List.range len).map fun i => d.mayAccess n (accessBit k) (addr + i)
  if ok.all id then 0 else if ok.any id then Code.protStraddle else Code.protViolation

/-- The region of master n that holds an address. -/
def Dev.protRegion (d : Dev) (n a : Nat) : Option Nat := (List.range 16).find? fun i => regionHas ((d.prot n).active.getD i 0) a

/-- An access is refused: counted, recorded, raised at most once per second per master (R370). -/
def Dev.protRefuse (d : Dev) (n code addr len kind : Nat) : Dev :=
  let r := d.protRegion n addr
  ((d.bump O.protectViolations n).setB O.protectLastFault n
    (le 8 addr ++ le 2 len ++ [byteOf kind, byteOf (r.getD 0xFF)] ++ le 2 code ++ [0, 0])).raiseOnce sec n code n (r.getD 0xFFFF)
      (addr % 2 ^ 32) (addr / 2 ^ 32 % 256 + len % 65536 * 256 + kind * 2 ^ 24)

/-- A register write of a master: by its map, and only where `own` holds (R358, R370); otherwise refused as a violation. -/
def Dev.regWrite (d : Dev) (n addr len : Nat) (own : Bool) (f : Dev → Dev) : Dev :=
  let code := d.protCheck n .write addr len
  if code ≠ 0 then d.protRefuse n code addr len 1
  else if own then f d
  else d.protRefuse n Code.protViolation addr len 1

/-- A stretch of addresses with the rights it carries: read, write, execute. -/
structure Stretch where
  lo : Nat
  hi : Nat
  r : Bool
  w : Bool
  x : Bool

/-- Stretches of Table 13-11; the frame store is taken up to the top of the largest memory (DEDUCED, log 36). -/
def Stretch.firmware : Stretch := ⟨0, 2 ^ 28, true, false, true⟩
/-- See `Stretch.firmware`. -/
def Stretch.control (r w : Bool) : Stretch := ⟨0x10000000, 0x20000000, r, w, false⟩
/-- See `Stretch.firmware`. -/
def Stretch.summit : Stretch := ⟨0x20000000, 0x21000000, true, true, false⟩
/-- See `Stretch.firmware`. -/
def Stretch.faultLog (w : Bool) : Stretch := ⟨0x21000000, 0x22000000, true, w, false⟩
/-- See `Stretch.firmware`. -/
def Stretch.frame (w : Bool) : Stretch := ⟨0x24000000, 2 ^ 36, true, w, false⟩
/-- See `Stretch.firmware`. -/
def Stretch.regs : Stretch := ⟨regWindow, regWindow + 2 ^ 32, true, true, false⟩

/-- The floor of master n. -/
def protFloor (n : Nat) : List Stretch :=
  if n < 9 then [.firmware, .control true true, .faultLog true, .regs]
  else if n < 13 then [.firmware, .control true true, .frame false, .regs]
  else if n = 13 then [.firmware, .control true true, .summit, .regs]
  else if n < 18 then [.control true true, .frame true]
  else if n < 50 then [.frame true]
  else if n < 52 then []
  else if n = 52 then [.control true true]
  else if n = 53 then [.control false true]
  else [⟨0, 2 ^ 36, true, true, false⟩]

/-- What a map of master n may grant: its floor and its envelope. -/
def protEnvelope (n : Nat) : List Stretch :=
  protFloor n ++ (if n < 9 then [.frame true] else if n = 13 then [.faultLog false]
    else if n = 50 || n = 51 then [.control true true, .frame true] else if n = 52 then [.frame false] else [])

/-- Whether stretches grant what a right asks at an address. -/
def granted (l : List Stretch) (right a : Nat) : Bool :=
  l.any fun s => s.lo ≤ a && a < s.hi && (if right = 62 then s.r else if right = 61 then s.w else s.x)

/-- The rights (bits of a region word) a stretch carries. -/
def Stretch.rights (s : Stretch) : List Nat :=
  (if s.r then [62] else []) ++ (if s.w then [61] else []) ++ (if s.x then [60] else [])

/-- The starts of the eighths of the enabled regions of a map. -/
def eighths (ws : List Nat) : List Nat :=
  (ws.filter fun w => bit w 63).flatMap fun w => (List.range 9).map fun i => regionBase w + i * 2 ^ (regionLog w - 3)

/-- Whether a map covers a stretch: checked where the map's rights can change, up to the end of what is presented. -/
def Dev.mapCovers (d : Dev) (ws : List Nat) (s : Stretch) : Bool :=
  let hi := if s.hi = 2 ^ 36 then d.mem.presented else s.hi
  ((s.lo :: eighths ws).filter fun a => s.lo ≤ a && a < hi).all fun a => s.rights.all fun r => ws.any fun w => regionGrants w r a

/-- Whether a region word stays within stretches: checked where rights can change inside it. -/
def wordWithin (l : List Stretch) (w : Nat) : Bool :=
  let pts := (eighths [w] ++ l.flatMap fun s => [s.lo, s.hi]).filter fun a => regionHas w a
  pts.all fun a => [62, 61, 60].all fun r => !regionGrants w r a || granted l r a

/-- Whether the format of a region word is valid on master n's unit (R373). -/
def wordOk (n w : Nat) : Bool :=
  let s := regionLog w
  12 ≤ s && s ≤ 36 && regionBase w % 2 ^ s == 0 && (!bit w 60 || n < 14)

/-- The first failure of a map (R373): its code and the regions concerned. -/
def Dev.mapFault (d : Dev) (n : Nat) (ws : List Nat) : Option (Nat × Nat × Nat) :=
  let on := (ws.zipIdx).filter fun p => bit p.1 63
  let first (ok : Nat → Bool) : Option (Nat × Nat × Nat) :=
    (on.find? fun p => !ok p.1).map fun p => (Code.protRegionInvalid, p.2, 0xFF)
  match first (wordOk n) with
  | some e => some e
  | none => match first (wordWithin (protEnvelope n)) with
    | some e => some e
    | none =>
      if !((protFloor n).all fun s => d.mapCovers ws s) then some (Code.protRegionInvalid, 0xFF, 0xFF)
      else (on.findSome? fun p => (on.find? fun q => p.2 < q.2 &&
          regionBase p.1 < regionBase q.1 + 2 ^ regionLog q.1 && regionBase q.1 < regionBase p.1 + 2 ^ regionLog p.1).map
            fun q => (Code.protOverlap, p.2, q.2))

/-- The shadow of master n. -/
def Dev.protShadow (d : Dev) (n : Nat) : List Nat := (List.range 16).map fun i => d.rn O.protectRegionShadow n i

/-- A commit of master n's map (R373, R374): held while an earlier one drains. -/
def Dev.protCommit (d : Dev) (n : Nat) : Dev :=
  if (d.prot n).cstate = 1 then d.modProt n fun p => { p with held := true }
  else match d.mapFault n (d.protShadow n) with
    | none => d.modProt n fun p => { p with active := d.protShadow n, cstate := 1, held := false }
    | some e => ((d.modProt n fun p => { p with cstate := 2, held := false }).setN O.protectRefusal n
        (e.1 * 65536 + e.2.1 * 256 + e.2.2 : Nat)).raise e.1 n

/-! ### Mailboxes (R355 to R369) -/

/-- Direction k of a channel. -/
def Mbx.dir (m : Mbx) (k : Nat) : MbxDir := if k = 0 then m.d0 else m.d1

/-- Change direction k of channel m. -/
def Dev.modDir (d : Dev) (m k : Nat) (f : MbxDir → MbxDir) : Dev :=
  d.modMb m fun x => if k = 0 then { x with d0 := f x.d0 } else { x with d1 := f x.d1 }

/-- The master at the sending or the receiving end of direction k. -/
def Mbx.sender (m : Mbx) (k : Nat) : Nat := if k = 0 then m.endA else m.endB
/-- See `Mbx.sender`. -/
def Mbx.receiver (m : Mbx) (k : Nat) : Nat := if k = 0 then m.endB else m.endA

/-- The epoch of the sending end of direction k. -/
def Mbx.sendEpoch (m : Mbx) (k : Nat) : Nat := if k = 0 then m.epochA else m.epochB

/-- The address of a register of direction k of channel m (R358). -/
def mbxAddr (m k off : Nat) : Nat := regWindow + 0x100000 + m * 0x200 + k * 0x100 + off

/-- Whether a channel can carry a message (R359, R367 to R369). -/
def Dev.mbxBound (d : Dev) (m : Nat) : Bool :=
  if m < 16 then true
  else if m < 24 then d.ropeIsUp
  else (d.mb m).claim.isSome && d.rn O.mbxService m != 0

/-- A header (Table 13-3). -/
def mbxHeader (sender flags epoch seq len posted : Nat) : Bytes :=
  [byteOf sender, byteOf flags] ++ le 2 epoch ++ le 4 seq ++ [byteOf len, 0, 0, 0] ++ le 4 (ns48 posted % 2 ^ 32)

/-- Ring a direction's doorbell: at the sender or at the receiver. -/
def MbxDir.ring (x : MbxDir) (toSender : Bool) : MbxDir :=
  { x with bells := if toSender then (x.bells.1 + 1, x.bells.2) else (x.bells.1, x.bells.2 + 1) }

/-- A notice to the partner's end of a twin channel (DEDUCED, log 36): 0 post, 1 take, 2 acknowledgement, 3 reset of the end. -/
def Dev.mbxNotice (d : Dev) (m kind : Nat) (body : Bytes) : Dev := d.ropeSend (0x10 + (m - 16)) (byteOf kind :: body)

/-- A refused post (R359): last_post, and for a busy direction the collision. -/
def Dev.mbxRefused (d : Dev) (m k why : Nat) : Dev :=
  let d := d.modDir m k fun x => { x with lastPost := why }
  if why = 1 then (d.bump O.mbxCollisions m).raiseOnce sec m Code.mbxCollision m else d

/-- A post on direction k of channel m (R359): the reason of its refusal, or the message in its slot. -/
def Dev.mbxPost (d : Dev) (m k : Nat) (data : Bytes) (len flags : Nat) : Dev :=
  let c := d.mb m
  let x := c.dir k
  if x.outstanding then d.mbxRefused m k 1
  else if 48 < len then d.mbxRefused m k 2
  else if !d.mbxBound m then d.mbxRefused m k 3
  else
    let seq := nextSeq32 x.seq
    let hdr := mbxHeader (c.sender k) flags (c.sendEpoch k) seq len d.now
    let pay := fit 48 (data.take len)
    let d := (d.modDir m k fun y => ({ y with
      full := true, awaiting := false, outstanding := true, lastPost := 0, hdr := hdr, data := pay, hdrEpoch := c.sendEpoch k
      posted := d.now, seq := seq } : MbxDir).ring false).bump O.mbxPosts m
    if 16 ≤ m && m < 24 then d.mbxNotice m 0 (hdr ++ pay) else d

/-- The outstanding message of direction k ends with a result (R360 to R363): one posted under an earlier epoch of its sender
is discarded and counted. -/
def Dev.mbxResult (d : Dev) (m k code reply : Nat) : Dev :=
  let x := (d.mb m).dir k
  let seq := leAt x.hdr 4 4
  let d := d.modDir m k fun y => { y with full := false, awaiting := false, outstanding := false }
  if x.hdrEpoch = (d.mb m).sendEpoch k then
    d.modDir m k fun y => ({ y with resultValid := true, result := (seq, code, if code = 0 then reply else 0) } : MbxDir).ring true
  else
    let d := d.bump O.mbxAcksDiscarded m
    if code = 0 then d.raise Code.mbxAckDiscarded m else d

/-- The message in the slot is taken (R360, R363). -/
def Dev.mbxTake (d : Dev) (m k : Nat) : Dev :=
  let x := (d.mb m).dir k
  if !x.full then d
  else
    let d := d.modDir m k fun y => { y with full := false, awaiting := true }
    if x.hdrEpoch = (d.mb m).sendEpoch k then d else d.raise Code.mbxSenderReset m

/-- An acknowledgement that matches no outstanding message (R360). -/
def Dev.mbxAckStray (d : Dev) (m : Nat) : Dev := (d.bump O.mbxAcksDiscarded m).raise Code.mbxAckDiscarded m

/-- DTIME of a dictionary format (Table 0-2), in ns. -/
def dtimeLe (b : Bytes) : Nat := leAt b 0 6 * 10 ^ 9 + leAt b 6 4

/-- The reply of a host channel's service to a payload (Table 13-8). -/
def Dev.serviceReply (d : Dev) (m : Nat) (p : Bytes) : Nat :=
  if d.rn O.mbxService m = 2 then
    if min 1024 d.config.points ≤ leAt p 0 2 then 1 else if d.now < dtimeLe (slice p 4 12) then 2 else 0
  else 0

/-- What a service does with a message it has acknowledged: loopback posts it back, an accepted telemetry point is kept for
the partner (Table 14-6, type 7). -/
def Dev.serviceDone (d : Dev) (m reply : Nat) (hdr p : Bytes) : Dev :=
  let sv := d.rn O.mbxService m
  if sv = 1 then d.mbxPost m 0 p (leAt hdr 8 1) 0
  else if sv = 2 && reply = 0 then { d with twin := { d.twin with points := d.twin.points ++ [(d.now, p)] } }
  else d

/-- An acknowledgement of direction k of channel m (R360, R363, R369): it takes a message still in the slot. -/
def Dev.mbxAck (d : Dev) (m k seq reply : Nat) : Dev :=
  let x := (d.mb m).dir k
  if !x.outstanding || leAt x.hdr 4 4 != seq then d.mbxAckStray m
  else
    let reply := if 24 ≤ m && k = 1 then d.serviceReply m x.data else reply
    let d := (d.mbxTake m k).mbxResult m k 0 reply
    if 24 ≤ m && k = 1 then d.serviceDone m reply x.hdr x.data else d

/-- An end of channel m resets (R357, R362, R363): e 0 end A, 1 end B. -/
def Dev.mbxReset (d : Dev) (m e : Nat) : Dev :=
  let up (n : Nat) : Nat := if 0xFFFF ≤ n then 1 else n + 1
  let d := d.modMb m fun x => if e = 0 then { x with epochA := up x.epochA } else { x with epochB := up x.epochB }
  let k := 1 - e
  let d := if ((d.mb m).dir k).outstanding then
      ((d.mbxResult m k Code.ackAbortRxReset 0).bump O.mbxAborts m).raise Code.ackAbortRxReset m
    else d
  if 16 ≤ m && m < 24 && e = 0 then d.mbxNotice m 3 (le 2 (d.mb m).epochA) else d

/-- Every mailbox end bound to a processor resets. -/
def Dev.endsReset (d : Dev) (c : Nat) : Dev :=
  (List.range 32).foldl (fun (d : Dev) m =>
    let x := d.mb m
    let d := if x.endA = c then d.mbxReset m 0 else d
    if x.endB = c && m < 16 then d.mbxReset m 1 else d) d

/-- The mailbox ends bound to a processor move to another; a move counts as a reset (R357). -/
def Dev.endsMove (d : Dev) (c dest : Nat) : Dev :=
  (List.range 32).foldl (fun (d : Dev) m =>
    let x := d.mb m
    let d := if x.endA = c then (d.modMb m fun y => { y with endA := dest }).mbxReset m 0 else d
    if x.endB = c && m < 16 then (d.modMb m fun y => { y with endB := dest }).mbxReset m 1 else d) d

/-- A message of a twin channel arrives from the partner (R367; DEDUCED, log 36). -/
def Dev.mbxFromPartner (d : Dev) (m : Nat) (msg : Bytes) : Dev :=
  let kind := leAt msg 0 1
  let b := msg.drop 1
  if kind = 0 then
    let hdr := (slice b 0 1) ++ [1] ++ slice b 2 14
    (d.modMb m fun x => { x with epochB := leAt hdr 2 2 }).modDir m 1 fun y => ({ y with
      full := true, awaiting := false, outstanding := true, hdr := hdr, data := fit 48 (b.drop 16), hdrEpoch := leAt hdr 2 2
      seq := leAt hdr 4 4, posted := d.now } : MbxDir).ring false
  else if kind = 1 then d.modDir m 0 fun y => if y.full then { y with full := false, awaiting := true } else y
  else if kind = 2 then
    let x := (d.mb m).d0
    if x.outstanding && leAt x.hdr 4 4 == leAt b 0 4 then d.mbxResult m 0 0 (leAt b 4 2) else d.mbxAckStray m
  else
    let d := d.modMb m fun x => { x with epochB := leAt b 0 2 }
    if ((d.mb m).d0).outstanding then
      ((d.mbxResult m 0 Code.ackAbortRxReset 0).bump O.mbxAborts m).raise Code.ackAbortRxReset m
    else d

/-- Release a host channel's claim: its host end resets (R357, R368). -/
def Dev.hostRelease (d : Dev) (m : Nat) : Dev := (d.modMb m fun x => { x with claim := none }).mbxReset m 1

/-! ### Registers (Table 13-4, R377) -/

/-- The bytes of direction k's register block. -/
def Mbx.block (m : Mbx) (k : Nat) : Bytes :=
  let x := m.dir k
  let st := mask ((if x.full then [31] else []) ++ (if x.awaiting then [30] else []) ++ (if x.resultValid then [29] else [])) +
    x.lastPost * 2 ^ 24
  let rx := mask ((if x.full then [31] else []) ++ (if x.full && x.hdrEpoch != m.sendEpoch k then [30] else []))
  fit 48 x.tx ++ zeros 4 ++ le 4 st ++ le 2 x.result.2.2 ++ le 2 x.result.2.1 ++ le 4 x.result.1 ++
    (if x.full then fit 16 x.hdr else zeros 16) ++ (if x.full then fit 48 x.data else zeros 48) ++ zeros 4 ++ le 4 rx ++ zeros 8 ++
    le 2 m.epochA ++ le 2 m.epochB ++ zeros 108

/-- The bytes of a check-value unit's block; busy reads 0, since what is written has been absorbed (R379). -/
def Cvu.block (c : Cvu) : Bytes :=
  le 4 (c.alg + if c.aliveEn then 4 else 0) ++ le 4 c.alive ++ le 4 c.running ++ le 4 c.result ++ zeros 48

/-- The bytes of the register window at an address; what is no register of the spec reads as nothing stated (DESIGN CHOICE, log 9). -/
def Dev.regRead (d : Dev) (addr len : Nat) : Bytes :=
  let off := addr - regWindow
  (List.range len).map fun i =>
    let o := off + i
    if 0x100000 ≤ o && o < 0x104000 then ((d.mb ((o - 0x100000) / 512)).block ((o - 0x100000) / 256 % 2)).getD (o % 256) 0
    else if 0x120000 ≤ o && o < 0x120200 then ((d.cvu ((o - 0x120000) / 64)).block).getD (o % 64) 0
    else byteOf (Config.unstated 358 [o]).toNat

end Sys2Proof.Machine
end

