-- ==== Sys2Proof/Machine/QdpOps.lean ====
section
/-! DEFINITION. QDP (R330 to R341), its operations: keys, the checks of a received datagram, sessions, answers and their
cache, segmented transfers, peer sessions. -/

namespace Sys2Proof.Machine

/-! ### Datagrams (Table 12-4) -/

/-- A datagram as its header lays it out; `tag` its last 16 bytes. -/
structure Dgram where
  typ : Nat
  session : Nat
  seq : Nat
  length : Nat
  body : Bytes
  tag : Bytes
  signed : Bytes

/-- The fields of a datagram of at least 32 bytes. -/
def parseDgram (b : Bytes) : Dgram :=
  let n := b.length
  ⟨beAt b 3 1, beAt b 4 4, beAt b 8 4, beAt b 12 2, slice b 16 (n - 32), b.drop (n - 16), b.take (n - 16)⟩

/-- Whether a type is one the device receives (Table 12-5). -/
def qdpTypeKnown (t : Nat) : Bool :=
  [0x01, 0x02, 0x03, 0x04, 0x05, 0x06, 0x10, 0x12, 0x18, 0x20, 0x31, 0x7F].contains t || (0x40 ≤ t && t < 0x50)

/-- The body size of a type that has one size; none where it varies (R333, R336, R338, R340, R387). -/
def qdpBodySize (t : Nat) : Option Nat :=
  if t = 1 then some 20 else if t = 2 then some 36 else if t = 3 then some 32 else if t = 4 then some 8
  else if t = 5 then some 1 else if t = 6 then some 0 else if t = 0x18 then some 8 else if t = 0x20 then some 4
  else if 0x40 ≤ t && t < 0x50 then some 48 else none

/-- A datagram is counted, dropped and never answered (R331). -/
def Dev.qdpReject (d : Dev) (code : Nat) : Dev := (d.bump O.qdpRejected).raiseOnce sec 0 code

/-! ### Keys (R333, R334, R337) -/

/-- The key of a role letter the device serves; none for a letter it does not (the Anchor's in twin.mode 2, R390), nor for
one without a key (PRESUMED, log 37). -/
def Dev.roleKey (d : Dev) (r : Nat) : Option Bytes :=
  let k := if r = 0x4F then d.rb O.qdpRoleKey 0 0 else if r = 0x50 then d.rb O.qdpRoleKey 0 1
    else if r = 0x45 then d.rb O.qdpRoleKey 0 2 else if r = 0x49 then d.rb O.qdpRoleKey 0 3
    else if r = 0x56 then be 32 Config.vendorKey.toNat
    else if r = 0x41 && d.rn O.twinMode == 2 then d.rb O.qdpPeerKey 0 1
    else []
  if k.isEmpty then none else some k

/-- The role number of a letter: 1 O to 5 V; 0 for a peer. -/
def roleOf (r : Nat) : Nat :=
  if r = 0x4F then 1 else if r = 0x50 then 2 else if r = 0x45 then 3 else if r = 0x49 then 4 else if r = 0x56 then 5 else 0

/-- P and the session key of a handshake (R333): what follows "QDP1" or "QDPK". -/
def hsMsg (r s : Nat) (nh nd : Bytes) : Bytes := byteOf r :: be 4 s ++ nh ++ nd
/-- See `hsMsg`. -/
def hsProof (k : Bytes) (r s : Nat) (nh nd : Bytes) : Bytes := hmac k (ascii "QDP1" ++ hsMsg r s nh nd)
/-- See `hsMsg`. -/
def hsKey (k : Bytes) (r s : Nat) (nh nd : Bytes) : Bytes := hmac k (ascii "QDPK" ++ hsMsg r s nh nd)

/-! ### Sessions -/

/-- The session of an identifier. -/
def Dev.sessionOf (d : Dev) (id : Nat) : Option Session := d.dict.sessions.find? fun se => se.id == id

/-- Add a session. -/
def Dev.addSession (d : Dev) (se : Session) : Dev := { d with dict := { d.dict with sessions := d.dict.sessions ++ [se] } }

/-- Drop the sessions a test selects. -/
def Dev.dropSessions (d : Dev) (p : Session → Bool) : Dev :=
  { d with dict := { d.dict with sessions := d.dict.sessions.filter fun se => !p se } }

/-- The open sessions (R334). -/
def Dev.openSessions (d : Dev) : Nat := (d.dict.sessions.filter fun se => se.phase == 1).length

/-- Peer `k` as the device keeps it: 0 the station gateway, 1 the Anchor. -/
def Dev.peerOf (d : Dev) (k : Nat) : Peer := tget {} d.dict.peers k
/-- Change peer `k`. -/
def Dev.modPeer (d : Dev) (k : Nat) (f : Peer → Peer) : Dev :=
  { d with dict := { d.dict with peers := tset d.dict.peers k (f (d.peerOf k)) } }

/-- The peer number of a role letter. -/
def peerNo (role : Nat) : Nat := if role = 0x47 then 0 else 1

/-- A session ends (R336): its claims of host channels are released (R368); a peer session is opened again after 1 s
(R337; PRESUMED, log 37). -/
def Dev.sessionEnd (d : Dev) (se : Session) : Dev :=
  let d := (d.dropSessions fun x => x.id == se.id).raise Code.qdpSessionClosed
  let d := (List.range 32).foldl (fun (d : Dev) m => if (d.mb m).claim = some se.id then d.hostRelease m else d) d
  if se.peer then d.modPeer (peerNo se.role) fun p => { p with step := 0, retryAt := some (d.now + sec), noted := false } else d

/-- The device closes a session with a reason (R336). -/
def Dev.closeSession (d : Dev) (id reason : Nat) : Dev :=
  match d.sessionOf id with
  | none => d
  | some se => if se.phase = 1 then (d.sendQdp se 9 0x05 [byteOf reason]).sessionEnd se else d.dropSessions fun x => x.id == id

/-- Sessions whose numbers run out are closed with reason 2 (R335). -/
def Dev.closeExhausted (d : Dev) : Dev :=
  (d.dict.sessions.filter fun se => se.phase == 1 && (0xFFFFFF00 ≤ se.sendSeq || 0xFFFFFF00 ≤ se.recvMax)).foldl
    (fun (d : Dev) se => d.closeSession se.id 2) d

/-! ### Sending answers and transfers (R335, R340) -/

/-- The data bytes of a full segment. -/
def Dev.segSize (d : Dev) : Nat := d.rn O.qdpMaxDatagram - 44

/-- Send one segment of an outgoing transfer on ring 16p + 11. -/
def Dev.sendSegment (d : Dev) (id : Nat) (off : Nat) : Dev :=
  match d.sessionOf id with
  | none => d
  | some se =>
    match se.outT with
    | none => d
    | some tr =>
      let body := (tr.parts.head?.map (·.2)).getD []
      let data := slice body off d.segSize
      let seg := be 2 tr.num ++ [0, 0] ++ be 4 tr.total ++ be 4 off ++ data
      (d.setSession { se with sendSeq := se.sendSeq + 1, outT := some { tr with
          sent := max tr.sent (off + data.length), sentAt := d.now } }).sendUdp (16 * se.port + 11) se.addr se.udp
        (qdpDatagram se.key tr.typ se.id se.sendSeq true seg)

/-- Send the segments from a byte on, at most 16 beyond what is acknowledged. -/
def Dev.sendWindow (d : Dev) (id from_ : Nat) : Dev :=
  match (d.sessionOf id).bind (·.outT) with
  | none => d
  | some tr =>
    let offs := ((List.range 16).map fun i => tr.acked + i * d.segSize).filter fun o => from_ ≤ o && o < tr.total
    offs.foldl (fun (d : Dev) o => d.sendSegment id o) d

/-- Send a message of a session: in one datagram, or in segments when it is too large for one (R330, R340). -/
def Dev.sendMessage (d : Dev) (id typ : Nat) (body : Bytes) : Dev :=
  match d.sessionOf id with
  | none => d
  | some se =>
    if body.length + 32 ≤ d.rn O.qdpMaxDatagram then d.sendQdp se 9 typ body
    else
      let tr : Transfer := ⟨se.nextT, typ, body.length, [(0, body)], 0, 0, d.now, d.now⟩
      (d.setSession { se with outT := some tr, nextT := (se.nextT + 1) % 65536 }).sendWindow id 0

/-- Answer a request; the last 16 answers are kept (R335). -/
def Dev.qdpAnswer (d : Dev) (id seq : Nat) (tag : Bytes) (typ : Nat) (body : Bytes) : Dev :=
  match d.sessionOf id with
  | none => d
  | some se =>
    let l := se.answers ++ [⟨seq, tag, typ, se.sendSeq, body⟩]
    (d.setSession { se with answers := l.drop (l.length - 16) }).sendMessage id typ body

/-- An answered request comes again: the same answer, from the cache (R335). -/
def Dev.qdpRepeat (d : Dev) (se : Session) (a : Answer) : Dev :=
  if a.body.length + 32 ≤ d.rn O.qdpMaxDatagram then
    d.sendUdp (16 * se.port + 9) se.addr se.udp (qdpDatagram se.key a.typ se.id a.sentSeq false a.body)
  else d.sendMessage se.id a.typ a.body

/-- ERROR in answer to a request (Table 12-5). -/
def errorBody (seq code : Nat) : Bytes := be 4 seq ++ be 2 code ++ [0, 0]

/-- A datagram of the handshake: session and sequence 0, a zero tag. -/
def Dev.sendHandshake (d : Dev) (p : Nat) (addr : Bytes) (udp typ session : Nat) (key body : Bytes) : Dev :=
  d.sendUdp (16 * p + 9) addr udp (qdpDatagram key typ session 0 false body)

/-! ### The checks (R331) -/

/-- Whether a sequence may be accepted (R335). -/
def Session.accepts (se : Session) (q : Nat) : Bool :=
  se.recvMax < q || (q != 0 && se.recvMax ≤ q + 64 && q != se.recvMax && !se.recvSeen.contains q)

/-- The session with a sequence accepted. -/
def Session.took (se : Session) (q now : Nat) : Session :=
  let m := max se.recvMax q
  { se with recvMax := m, recvSeen := (q :: se.recvSeen).filter fun x => m ≤ x + 64, last := now }

/-- The session a datagram belongs to, in the phase its type asks for (R333). -/
def Dev.dgramSession (d : Dev) (g : Dgram) : Option Session :=
  d.dict.sessions.find? fun se =>
    if g.typ = 2 then g.session == 0 && se.phase == 2 && se.nh == slice g.body 20 16
    else if g.typ = 3 then se.id == g.session && se.phase == 0 && d.now ≤ se.time + 5 * sec
    else if g.typ = 4 then se.id == g.session && se.phase == 3
    else se.id == g.session && se.phase == 1

/-- The tag a datagram must carry: zero in HELLO and CHALLENGE, else under the session key (R333). -/
def tagOk (g : Dgram) (key : Bytes) : Bool :=
  g.tag == (if g.typ = 1 || g.typ = 2 then zeros 16 else (hmac key g.signed).take 16)

/-- A failed authentication from an address (R333, R334): the fifth within 60 s locks it for 60 s. -/
def Dev.authFailed (d : Dev) (src : Bytes) : Dev :=
  let d := (d.bump O.qdpAuthFailures).raise Code.qdpAuthFailed
  let old := ((d.dict.fails.find? fun f => f.1 == src).map (·.2)).getD []
  let now := d.now :: old.filter fun t => d.now < t + 60 * sec
  let rest := d.dict.fails.filter fun f => f.1 != src
  if 5 ≤ now.length then
    ({ d with dict := { d.dict with fails := rest, locked := (d.dict.locked.filter fun (l : Bytes × Nat) => l.1 != src) ++ [(src, d.now)] } }).raise
      Code.qdpAuthLockout
  else { d with dict := { d.dict with fails := rest ++ [(src, now)] } }

/-- A received datagram, checked in the order of R331; `f` acts on what passes: the device with the session's sequence
accepted, the session (none for HELLO), the datagram. A row of the table acts on its own type; `seg` selects segmented
datagrams, which are one row whatever their type. -/
def Dev.qdpIn (d : Dev) (p : Nat) (src b : Bytes) (row : Nat) (seg : Bool) (f : Dev → Option Session → Dgram → Dev) : Dev :=
  if !bit (d.rn O.qdpPorts) p || b.length < 32 then d
  else
    let g := parseDgram b
    if beAt b 0 2 ≠ 0x5144 || beAt b 2 1 ≠ 1 then d.qdpReject Code.qdpVersion
    else if !qdpTypeKnown g.typ then d.qdpReject Code.qdpMsgType
    else if (!seg && g.typ != row) || (g.length == 0xFFFF) != seg then d
    else
      let se := d.dgramSession g
      if (g.typ = 1 && g.session ≠ 0) || (g.typ ≠ 1 && se.isNone) then d.qdpReject Code.qdpSessionUnknown
      else if (!seg && (g.length + 32 ≠ b.length || (qdpBodySize g.typ).any fun n => n != g.body.length)) ||
          (seg && (g.typ < 5 || g.body.length < 12)) then d.qdpReject Code.qdpLength
      else
        let key := match se with
          | none => []
          | some x => if g.typ = 3 then hsKey ((d.roleKey x.role).getD []) x.role x.id x.nh x.nd else x.key
        if !tagOk g key then
          let d := d.qdpReject Code.qdpTag
          match se with
          | some x =>
            if g.typ = 3 && g.body != hsProof ((d.roleKey x.role).getD []) x.role x.id x.nh x.nd then d.authFailed src else d
          | none => d
        else if g.typ ≤ 4 then if g.seq ≠ 0 then d.qdpReject Code.qdpReplay else f d se g
        else match se with
          | none => d
          | some x =>
            if x.accepts g.seq then (f (d.setSession (x.took g.seq d.now)) (some (x.took g.seq d.now)) g).closeExhausted
            else match x.answers.find? fun a => a.seq == g.seq && a.tag == g.tag with
              | some a => (d.setSession { x with last := d.now }).qdpRepeat x a
              | none => d.qdpReject Code.qdpReplay

/-! ### The handshake (R333) -/

/-- An identifier for a new session: random, not zero, not in use. -/
def Dev.freshSession (d : Dev) : Nat × Dev :=
  let r := d.fresh
  let s := r.1 % (2 ^ 32 - 1) + 1
  let used := d.dict.sessions.map (·.id)
  let all := (List.range (used.length + 1)).map fun i => (s - 1 + i) % (2 ^ 32 - 1) + 1
  ((all.find? fun x => !used.contains x).getD s, r.2)

/-- Blank or Retired (R325). -/
def Dev.vendorOnly (d : Dev) : Bool := d.power.life == 0 || d.power.life == 4

/-- HELLO (R325, R333, R334). -/
def Dev.qdpHello (d : Dev) (p : Nat) (src : Bytes) (sport : Nat) (g : Dgram) : Dev :=
  let r := beAt g.body 0 1
  let d := d.dropSessions fun se => se.phase == 0 && se.time + 5 * sec < d.now
  if d.dict.locked.any fun l => l.1 == src && d.now < l.2 + 60 * sec then d
  else if d.vendorOnly && r != 0x56 then d.sendHandshake p src sport 0x7F 0 [] (errorBody 0 Code.objLifecycle)
  else if (d.roleKey r).isNone then d
  else if 16 ≤ d.openSessions then d.sendHandshake p src sport 0x7F 0 [] (errorBody 0 Code.qdpSessionsFull)
  else
    let nh := slice g.body 4 16
    let x := d.freshSession
    let y := x.2.freshBytes 16
    (y.2.addSession
        { id := x.1, role := r, phase := 0, peer := false, port := Fin.ofNat 4 p, addr := src, udp := sport, nh := nh, nd := y.1
          time := d.now, last := d.now }).sendHandshake p src sport 2 0 [] (be 4 x.1 ++ y.1 ++ nh)

/-- PROVE (R333): its tag has been found right. -/
def Dev.qdpProve (d : Dev) (src : Bytes) (se : Session) (g : Dgram) : Dev :=
  let k := (d.roleKey se.role).getD []
  if g.body != hsProof k se.role se.id se.nh se.nd then d.authFailed src
  else if 16 ≤ d.openSessions then
    (d.dropSessions fun x => x.id == se.id).sendHandshake se.port se.addr se.udp 0x7F 0 [] (errorBody 0 Code.qdpSessionsFull)
  else
    let key := hsKey k se.role se.id se.nh se.nd
    ((d.setSession { se with phase := 1, key := key, last := d.now }).sendHandshake se.port se.addr se.udp 4 se.id key
      ([byteOf se.role, 0, 0, 0] ++ be 4 (d.rn O.qdpIdleTimeout))).raise Code.qdpSessionOpen

/-! ### Peer sessions (R337) -/

/-- Where a peer is, when the device is to have a session with it: the gateway's address, or the Anchor's in twin.mode 1
with the QDP path. -/
def Dev.peerAddr (d : Dev) (k : Nat) : Option (Bytes × Nat) :=
  let a := if k = 0 then (d.rb O.witnessGatewayAddr, d.rn O.witnessGatewayPort) else (d.rb O.twinAnchorAddr, d.rn O.twinAnchorPort)
  if a.1.isEmpty || (k = 1 && (d.rn O.twinMode != 1 || !bit (d.rn O.twinAnchorPath) 0)) || d.vendorOnly then none else some a

/-- The port a peer session runs on: the lowest of qdp.ports with its link up, else the lowest (PRESUMED, log 37). -/
def Dev.peerPort (d : Dev) : Nat :=
  let ps := (List.range 4).filter fun p => bit (d.rn O.qdpPorts) p
  ((ps.find? fun p => (d.port p).linkUp).or ps.head?).getD 0

/-- The letter of a peer. -/
def peerRole (k : Nat) : Nat := if k = 0 then 0x47 else 0x41

/-- Begin a handshake as the host; the next try is due after 1, 2, 4, then 8 s. -/
def Dev.peerConnect (d : Dev) (k : Nat) : Dev :=
  let d := d.dropSessions fun se => se.peer && se.role == peerRole k && se.phase != 1
  match d.peerAddr k with
  | none => d.modPeer k fun p => { p with retryAt := none }
  | some a =>
    let x := d.freshBytes 16
    let y := x.2.freshSession
    let p := d.peerPort
    let d := y.2.modPeer k fun q => { q with
      retryAt := some (d.now + sec * [1, 2, 4].getD q.step 8), step := q.step + 1 }
    (d.addSession
        { id := y.1, role := peerRole k, phase := 2, peer := true, port := Fin.ofNat 4 p, addr := a.1, udp := a.2, nh := x.1
          time := d.now, last := d.now }).sendHandshake p a.1 a.2 1 0 [] ([byteOf (peerRole k), 0, 0, 0] ++ x.1)

/-- CHALLENGE in a handshake the device began: PROVE under the identifier given. -/
def Dev.qdpChallenge (d : Dev) (se : Session) (g : Dgram) : Dev :=
  let s := beAt g.body 0 4
  let nd := slice g.body 4 16
  let k := d.rb O.qdpPeerKey 0 (peerNo se.role)
  let key := hsKey k se.role s se.nh nd
  if s = 0 || (s != se.id && (d.sessionOf s).isSome) then d
  else
    ((d.dropSessions fun x => x.id == se.id).addSession { se with id := s, nd := nd, key := key, phase := 3 }).sendHandshake
      se.port se.addr se.udp 3 s key (hsProof k se.role s se.nh nd)

/-- ACCEPT: the peer session is open; beyond 16 open sessions it is not, and the handshake is tried again (DEDUCED from R334,
log 37). -/
def Dev.qdpAccept (d : Dev) (se : Session) : Dev :=
  if 16 ≤ d.openSessions then d
  else (d.setSession { se with phase := 1, last := d.now }).modPeer (peerNo se.role) fun p =>
    { p with step := 0, retryAt := none, noted := false }

/-! ### Segments received (R340) -/

/-- The bytes received without a gap from the start. -/
def contiguous : Nat → List (Nat × Bytes) → Nat → Nat
  | 0, _, n => n
  | k + 1, parts, n =>
    match parts.find? fun p => p.1 ≤ n && n < p.1 + p.2.length with
    | some p => contiguous k parts (p.1 + p.2.length)
    | none => n

/-- Byte i of a transfer. -/
def partByte (parts : List (Nat × Bytes)) (i : Nat) : Byte :=
  ((parts.find? fun p => p.1 ≤ i && i < p.1 + p.2.length).map fun p => p.2.getD (i - p.1) 0).getD 0

/-- A segment arrives: acknowledged, or the transfer abandoned; `done` acts on a complete body. -/
def Dev.segment (d : Dev) (se : Session) (g : Dgram) (done : Dev → Session → Bytes → Dev) : Dev :=
  let num := beAt g.body 0 2
  let total := beAt g.body 4 4
  let off := beAt g.body 8 4
  let data := g.body.drop 12
  let fresh : Transfer := ⟨num, g.typ, total, [], 0, 0, d.now, d.now⟩
  let tr := match se.inT with
    | some t => if t.num = num then t else fresh
    | none => fresh
  if total = 0 || 16777344 < total then (d.setSession { se with inT := none }).qdpReject Code.qdpLength
  else if tr.total ≠ total || total < off + data.length then (d.setSession { se with inT := none }).raise Code.qdpSegment
  else
    let parts := tr.parts ++ [(off, data)]
    let n := contiguous parts.length parts 0
    let whole := n == total
    let se := { se with inT := if whole then none else some { tr with parts := parts, acked := n, progress := d.now } }
    let d := d.setSession se
    let d := d.sendQdp se 9 0x18 (be 2 num ++ [0, 0] ++ be 4 n)
    if whole then done d ((d.sessionOf se.id).getD se) ((List.range total).map (partByte parts)) else d

/-- SEGMENT_ACK (R340). -/
def Dev.segmentAck (d : Dev) (se : Session) (g : Dgram) : Dev :=
  let n := beAt g.body 4 4
  match se.outT with
  | none => d
  | some tr =>
    if tr.num ≠ beAt g.body 0 2 || n ≤ tr.acked || tr.total < n then d
    else if n = tr.total then d.setSession { se with outT := none }
    else (d.setSession { se with outT := some { tr with acked := n, progress := d.now } }).sendWindow se.id (max tr.sent n)

/-- 200 ms, or 5 s, without progress (R340). -/
def Dev.segmentTimeout (d : Dev) (id : Nat) : Dev :=
  match d.sessionOf id with
  | none => d
  | some se =>
    match se.outT with
    | none => d
    | some tr =>
      if tr.progress + 5 * sec ≤ d.now then (d.setSession { se with outT := none }).raise Code.qdpSegment
      else if tr.sentAt + 200000000 ≤ d.now then d.sendWindow id tr.acked
      else d

end Sys2Proof.Machine
end

