-- ==== Sys2Proof/Machine/DecodeCluster.lean ====
section
/-! DEFINITION. The meanings of the decode cluster's commands (chapter 5): AU_PARSED, DECODE_COMPLETE,
DEC_ENGINE_SELF_CHECK_FAIL, START_WAIT_EXPIRY, FIR_INTERVAL_EXPIRY; retiring an engine. -/

namespace Sys2Proof.Machine

/-! ### Parsing (R139 to R146, R158 to R161) -/

/-- Whether a parameter set lies within Table 5-1, the level apart. -/
def psSupported (p : ParamSet) : Bool :=
  if p.h265 then
    p.profile ≤ 1 && !p.highTier && p.progressive && p.chroma == 1 && !p.tools &&
      (p.depth == 8 || (p.profile == 1 && p.depth == 10))
  else p.profile ≤ 2 && p.progressive && (p.chroma == 1 || (p.profile == 2 && p.chroma == 0)) && p.depth == 8 && !p.tools

/-- Whether a picture has more luma samples than its standard's level allows (Table 5-2). -/
def psTooLarge (p : ParamSet) : Bool :=
  if p.h265 then 8912896 < p.width * p.height else 36864 < cdiv p.width 16 * cdiv p.height 16

/-- The code of a parameter set that halts its context (Tables 5-1 and 5-2). -/
def Dev.haltCode (d : Dev) (s : Nat) (p : ParamSet) : Option Nat :=
  if !psSupported p then some Code.decUnsupported
  else if 51 < p.level || psTooLarge p then some Code.decLevelExceeded
  else if d.rn O.streamPicSlots s < p.dpb + 2 then some Code.decDpbShort
  else none

/-- stream[s].profile (Table 5-10). -/
def psProfile (p : ParamSet) : Nat := if p.h265 then p.profile + 1 else p.profile + 3

/-- A parameter set arrives with an access unit: it halts the context, or is taken; out of HALTED it restarts the context
(R139, R145), and a new resolution resets the freeze run (R57). A picture still in decoding ends in a HALTED context: `rasl`
keeps whether the context was tainted. -/
def Dev.takeParams (d : Dev) (s : Nat) (p : ParamSet) : Dev :=
  match d.haltCode s p with
  | some code =>
    let d := (d.decError s code).modCx s fun c => { c with
      startTimer := none, firNext := none, rasl := if c.state == .halted then c.rasl else c.rasl || c.state != .clean }
    d.setCtxState s .halted
  | none =>
    let d := if (d.cx s).state == .halted then d.restartNow s else d
    let new := match (d.cx s).ps with
      | some o => o.width != p.width || o.height != p.height
      | none => true
    let d := d.modCx s fun c => { c with
      ps := some p, run := if new then { c.run with resetPending := true } else c.run }
    (d.setN O.streamCodedSize s (p.width * 65536 + p.height : Nat)).setN O.streamProfile s (psProfile p)

/-- The code of a picture that breaks a limit of its own (Table 5-2). -/
def Dev.limitCode (d : Dev) (s : Nat) (p : ParamSet) (hdr : PicHeader) : Option Nat :=
  if p.width < 64 || 4096 < p.width || p.height < 64 || 4096 < p.height || d.rn O.streamMaxWidth s < p.width ||
      d.rn O.streamMaxHeight s < p.height || d.rn O.streamBitDepth s < p.depth then some Code.decSizeExceeded
  else if (if p.h265 then 200 else 256) < hdr.slices then some Code.decSliceLimit
  else if p.codedBound < hdr.codedBytes then some Code.decCodedSize
  else none

/-- Start points (R144). -/
def startPoint : PicKind → Bool
  | .idr | .bla | .cra | .recovery => true
  | _ => false

/-- Whether a context decodes, or has a start point on its way. -/
def Dev.decodes (d : Dev) (s : Nat) : Bool :=
  let c := d.cx s
  c.state == .clean || c.state == .tainted || (c.state == .waiting && (!c.jobs.isEmpty || (d.decodingOn s).isSome))

/-- Picture order counts a picture may refer to: those held, in decoding or queued. -/
def Dev.heldPocs (d : Dev) (s : Nat) : List Int :=
  (((d.cx s).slots.filter fun sl => !sl.doomed).map (·.poc)) ++ (d.cx s).jobs.map (·.hdr.poc)

/-- A context becomes TAINTED (R160, R161): a full intra request, then one every interval. -/
def Dev.taint (d : Dev) (s : Nat) : Dev :=
  if (d.cx s).state == .clean then
    ((d.setCtxState s .tainted).modCx s fun c => { c with
      firNext := some (d.now + 1000000 * d.rn O.streamFirInterval s), recoverAt := none }).requestFir s
  else d

/-- A picture the controller found: lost, parsed and not decoded, or made a job (R140 to R144, R159, R160). -/
def Dev.pictureParsed (d : Dev) (s : Nat) (au : Au) (hdr : PicHeader) : Dev :=
  match (d.cx s).ps with
  | none => d
  | some p =>
    if (d.cx s).state == .halted || (d.cx s).state == .shed || (d.cx s).state == .unbound then d
    else match d.limitCode s p hdr with
      | some code => d.pictureLost s code
      | none =>
        if !d.decodes s && !startPoint hdr.kind then d
        else
          let held := d.heldPocs s
          let subst := hdr.refs.any fun r => !held.contains r
          let d := if subst then (d.decError s Code.decMissingRef).taint s else d
          let d := d.modCx s fun c => { c with jobs := c.jobs ++ [{ au := au, hdr := hdr, ps := p, subst := subst }] }
          let e := (d.cx s).engine
          if e < 9 then d.startDecode e else d

/-- A controller finishes parsing the oldest released access unit of a stream (R141). -/
def Dev.auParsed (d : Dev) (s : Nat) (r : Parsed) : Dev :=
  match (d.ing s).releaseQ with
  | [] => d
  | au :: rest =>
    let d := d.modIng s fun g => { g with releaseQ := rest }
    let params (d : Dev) (ps : Option ParamSet) : Dev := match ps with
      | some p => if (d.cx s).state == .shed || (d.cx s).state == .unbound then d else d.takeParams s p
      | none => d
    match r with
    | .syntaxError => if (d.cx s).state == .shed then d else d.pictureLost s Code.decSyntax
    | .headersOnly ps => params d ps
    | .picture ps hdr => (params d ps).pictureParsed s au hdr

/-- AU_PARSED (R141). -/
def execAuParsed (t : Nat) (st : Fin 128) (p : Parsed) (s : State) : Host.Outcome State Fault Refusal :=
  s.run t fun d => d.when (d.alive && d.parses st) fun d => d.auParsed st p

/-! ### Retiring an engine (R162, R163) -/

/-- What waited for the end of a picture of a context takes effect (R148). -/
def Dev.endOfPicture (d : Dev) (s : Nat) : Dev :=
  match (d.cx s).atEnd with
  | some k => (d.modCx s fun c => { c with atEnd := none }).ctxEffect s k
  | none => d

/-- Whether a context is bound and not SHED, so that it loads an engine (R151). -/
def Dev.loaded (d : Dev) (s : Nat) : Bool := (d.cx s).state != .unbound && (d.cx s).state != .shed

/-- An engine is retired: engine 8 takes its contexts and its picture while it is a spare, else they are reassigned. -/
def Dev.retireEngine (d : Dev) (e reason : Nat) : Dev :=
  let b := (d.eng e).busy
  let strm := (b.map (·.stream)).getD 0xFFFF
  let own : Own := { code := Code.decEngineRetired, p0 := e, p1 := strm }
  let cs := d.engCtxs e
  let d := (d.modEng e fun x => { x with state := .retired, busy := none }).recordRetired 4 e
  let d := d.raiseOwn own
  if e < 8 && d.engState 8 == .spare then
    let d := ((d.modEng 8 fun x => { x with state := .active, busy := b.map fun y => { y with tries := 0, bad := false }, since := d.now }).modEng e
      fun x => { x with replacedBy := some 8 }).abandonTest 4 8
    let d := (d.setN O.decodeSpareState 0 0).raise Code.decSpareEngaged 8 e
    let d := cs.foldl (fun (d : Dev) s => d.setEngine s 8) d
    d.noteLasting 4 e own reason (some 8) 0 (if b.isSome then 7 else 3)
  else
    let d := if e = 8 then d.setN O.decodeSpareState 0 0 else d
    let d := match b with
      | some y =>
        let d := d.modCx y.stream fun c => { c with slots := c.slots.filter fun sl => sl.tag.isSome }
        d.endOfPicture y.stream
      | none => d
    ((d.noteLasting 4 e own reason none 0 1).reassign (cs.filter d.loaded)).kickDecode

/-- DEC_ENGINE_SELF_CHECK_FAIL (R162): the picture is rerun at once; a failed rerun retires the engine. -/
def execDecEngineSelfCheckFail (t : Nat) (e : Fin 9) (s : State) : Host.Outcome State Fault Refusal :=
  s.run t fun d => d.when (d.alive && d.engState e == .active) fun d =>
    match (d.eng e).busy with
    | none => d
    | some b =>
      let d := d.raise Code.decEngineFault e b.stream
      if b.tries = 0 then d.modEng e fun x => { x with busy := some { b with tries := 1 } }
      else d.retireEngine e 1

/-! ### A picture completes (R48, R54 to R56, R142, R143, R157 to R161) -/

/-- The state of a context after a picture, and whether that picture is tainted (R145, R160). -/
def Ctx.after (c : Ctx) (h265 : Bool) (k : PicKind) (poc recov : Int) (out : Nat) (concealed : Bool) : CtxState × Option Int × Bool × Bool :=
  let target : Int := if h265 then poc + recov else (out : Int) + recov
  let here : Int := if h265 then poc else out
  let rec_ := if k == .recovery && (c.state == .waiting || c.state == .tainted) && c.recoverAt.isNone then some target else c.recoverAt
  if concealed then (if c.state == .waiting || c.state == .clean then (.tainted, rec_, false, true) else (c.state, rec_, c.rasl, true))
  else match k with
    | .idr | .bla => (.clean, none, false, false)
    | .cra => (.clean, none, c.state != .clean || c.rasl, false)
    | .rasl => (c.state, rec_, c.rasl, c.rasl || c.state == .tainted)
    | _ =>
      let st := if c.state == .waiting then .tainted else c.state
      let foul := st == .tainted || (st == .halted && c.rasl)
      match rec_ with
      | some r => if st == .tainted && r ≤ here then (.clean, none, false, false) else (st, rec_, c.rasl, foul)
      | none => (st, none, c.rasl, foul)

/-- The state change of a completed picture, with the codes of R145, R147, R160 and R161; a HALTED context stays so. -/
def Dev.afterPicture (d : Dev) (s : Nat) (a : CtxState × Option Int × Bool × Bool) : Dev :=
  let old := (d.cx s).state
  let d := d.modCx s fun c => { c with recoverAt := a.2.1, rasl := a.2.2.1 }
  if old == a.1 || old == .halted then d
  else
    let d := (d.setCtxState s a.1).modCx s fun c => { c with startTimer := none }
    if a.1 == .clean then
      let d := d.modCx s fun c => { c with firNext := none }
      if old == .tainted then d.raise Code.decRecovered s else d
    else
      (d.modCx s fun c => { c with firNext := some (d.now + 1000000 * d.rn O.streamFirInterval s) }).requestFir s

/-- A completed picture as the cross-check keeps it (R404, R406): the newest four and the last eight clean ones. -/
def Dev.notePic (d : Dev) (s : Nat) (r : PicRec) : Dev :=
  let l := r :: tget [] d.twin.pics s
  let clean := (l.filter fun x => x.integrity == 0).take 8
  let keep := l.filter fun x => (l.take 4).contains x || clean.contains x
  { d with twin := { d.twin with pics := tset d.twin.pics s keep } }

/-- The picture an engine has decoded is stamped (R40, R48, R54, R143) and counted. -/
def Dev.stamp (d : Dev) (e : Nat) (b : Busy) (p : Planes) (concealed : Bool) : Dev :=
  let s := b.stream
  let j := b.job
  let a := (d.cx s).after j.ps.h265 j.hdr.kind j.hdr.poc j.hdr.recoveryCnt (d.cx s).outSeq concealed
  let d := d.afterPicture s a
  let clean := !concealed && !a.2.2.2
  let sg : Nat × Bool := if clean then d.signature s p else (0, false)
  let d := if clean then d.noteProbe s (sg.2 || d.rn O.streamFreezeMode s != 0) else d
  let tag : Tag :=
    { stream := s, integrity := if concealed then .concealed else if a.2.2.2 then .tainted else .clean, cap := j.au.cap
      probe := sg.2, frozen := (d.cx s).run.frozen, signature := sg.1
      sequence := (d.cx s).outSeq + (if j.ps.reorder = 0 then 0 else j.hdr.ahead)
      completion := d.now, runStart := (d.cx s).run.start }
  let d := d.modCx s fun c => { c with slots := c.slots.map fun sl =>
    if sl.tag.isNone && sl.poc == j.hdr.poc then
      { sl with tag := some tag, planes := p, colour := psColour j.ps, checksum := checksum p } else sl }
  let d := ((d.bump O.streamPictures s).bump O.enginePictures e).setN O.streamChecksum s (checksum p)
  let d := if concealed then d.bump O.streamConcealed s else d
  let d := d.notePic s ⟨tag.sequence, checksum p, if concealed then 2 else if a.2.2.2 then 1 else 0, d.now⟩
  d.outputAll s j.ps.reorder ((d.cx s).slots.length + 1)

/-- A rerun that succeeded (R162, R414): transient, or lasting over the limit. -/
def Dev.engineRetryOk (d : Dev) (e strm : Nat) : Dev :=
  if d.transientOver 4 e then d.retireEngine e 2
  else
    let own : Own := { code := Code.decEngineTransient, p0 := e, p1 := strm }
    ((d.bump O.engineTransientFaults e).raiseOwn own).noteTransient 4 e own

/-- An engine completes its picture and is at a picture boundary. -/
def Dev.decodeComplete (d : Dev) (e : Nat) (b : Busy) (p : Planes) (sliceError refBad : Bool) : Dev :=
  let s := b.stream
  let d := if sliceError then (d.decError s Code.decSliceData).taint s else d
  let d := if refBad || b.bad then ((d.decError s Code.decRefUnreadable).decError s Code.decMissingRef).taint s else d
  let concealed := b.job.subst || sliceError || refBad || b.bad
  let d := d.stamp e b p concealed
  let d := d.modEng e fun x => { x with busy := none, work := workDone x.work x.since d.now }
  let d := d.endOfPicture s
  let d := if b.tries = 0 then d else d.engineRetryOk e s
  d.kickDecode

/-- DECODE_COMPLETE (R48). -/
def execDecodeComplete (t : Nat) (e : Fin 9) (planes : Planes) (sliceError refUnreadable : Bool) (s : State) :
    Host.Outcome State Fault Refusal :=
  s.run t fun d => d.when (d.alive && d.engState e == .active) fun d =>
    match (d.eng e).busy with
    | none => d
    | some b => d.decodeComplete e b planes sliceError refUnreadable

/-! ### Full intra requests (R147, R161) -/

/-- START_WAIT_EXPIRY (R147). -/
def execStartWaitExpiry (t : Nat) (st : Fin 128) (s : State) : Host.Outcome State Fault Refusal :=
  s.run t fun d => d.when (d.alive && (d.cx st).state == .waiting && (match (d.cx st).startTimer with
      | some x => x ≤ d.now
      | none => false)) fun d =>
    (d.modCx st fun c => { c with startTimer := none, firNext := some (d.now + 1000000 * d.rn O.streamFirInterval st) }).requestFir st

/-- FIR_INTERVAL_EXPIRY (R147, R161). -/
def execFirIntervalExpiry (t : Nat) (st : Fin 128) (s : State) : Host.Outcome State Fault Refusal :=
  s.run t fun d => d.when (d.alive && ((d.cx st).state == .waiting || (d.cx st).state == .tainted) &&
      (match (d.cx st).firNext with
        | some x => x ≤ d.now
        | none => false)) fun d =>
    (d.modCx st fun c => { c with firNext := some (d.now + 1000000 * d.rn O.streamFirInterval st) }).requestFir st

end Sys2Proof.Machine
end

