-- ==== Sys2Proof/Machine/Network.lean ====
section
/-! DEFINITION. The meanings of the network commands (chapter 4): frames, block lock, transmission, compare registers, access
unit release, SSRC, RTCP, RTSP, groups. -/

namespace Sys2Proof.Machine

/-! ### Answers of service firmware: ARP, ND, ICMP echo, duplicate address detection (R107; RFC 826, 792, 4443, 4861, 4862,
PRESUMED, PRESUMED, log 46) -/

/-- The internet checksum. -/
def inetSum (b : Bytes) : Nat :=
  let s := sumL ((List.range (cdiv b.length 2)).map fun i => beAt (b ++ [0]) (2 * i) 2)
  let f (n : Nat) : Nat := n % 65536 + n / 65536
  0xFFFF - f (f (f s))

/-- An ICMP message with its checksum; version 6 counts the addresses. -/
def icmpMessage (src dst : Bytes) (typ : Nat) (rest : Bytes) : Bytes :=
  let v6 := isV6 dst
  let pseudo := if v6 then be 16 (addr128 src) ++ be 16 (addr128 dst) ++ be 4 (rest.length + 4) ++ be 4 58 else []
  [byteOf typ, 0] ++ be 2 (inetSum (pseudo ++ [byteOf typ, 0, 0, 0] ++ rest)) ++ rest

/-- Send an ICMP message on port p. -/
def Dev.sendIcmp (d : Dev) (p : Nat) (src dst : Bytes) (typ : Nat) (rest : Bytes) : Dev :=
  let m := icmpMessage src dst typ rest
  let r := d.fresh
  r.2.post (16 * p + 10) { id := r.1, dst := dst, payload := m, frameLen := 14 + (if isV6 dst then 40 else 20) + m.length }

/-- The IPv6 addresses of port p. -/
def Dev.v6Addrs (d : Dev) (p : Nat) : List Bytes := (d.portAddrs p).filter isV6

/-- The unspecified address, which a sender that still detects duplicates uses. -/
def unspecified : Bytes := ascii "::"

/-- Duplicate address detection starts on port p: a neighbour solicitation for each address. -/
def Dev.startDad (d : Dev) (p : Nat) : Dev :=
  let d := d.modPort p fun y => { y with conflicts := [], dadFrom := some d.now }
  (d.v6Addrs p).foldl (fun (d : Dev) a =>
    let dst := ascii "ff02::1:ff" ++ hexText (addr128 a / 65536 % 256) ++ [0x3A] ++ hexText (addr128 a % 65536)
    d.sendIcmp p unspecified dst 135 (zeros 4 ++ be 16 (addr128 a))) d

/-- Another node uses address a: it is not used while detection runs, 1 s. -/
def Dev.dadHeard (d : Dev) (p : Nat) (a : Bytes) : Dev :=
  if (d.port p).dadFrom.any fun t => d.now ≤ t + sec then
    (d.modPort p fun y => { y with conflicts := y.conflicts ++ [a] }).raise Code.netAddrConflict p
  else d

/-- Service firmware handles an ARP, ND or ICMP echo frame of ring 2. -/
def Dev.answerFrame (d : Dev) (p : Nat) (f : EthFrame) : Dev :=
  match f.ip with
  | none =>
    let own := d.rb O.portIpv4Addr p
    if f.etherType = 0x0806 && beAt f.data 6 2 == 1 && !own.isEmpty && beAt f.data 24 4 == addrLow32 own then
      let r := d.fresh
      r.2.post (16 * p + 10) { id := r.1, payload := [0, 1, 8, 0, 6, 4, 0, 2] ++ be 6 (d.portMac p) ++ slice f.data 24 4 ++ slice f.data 8 10 }
    else d
  | some ip =>
    let own := (d.portAddrs p).contains ip.dst
    let typ := beAt f.data 0 1
    let target := (d.v6Addrs p).find? fun a => addr128 a == beAt f.data 8 16
    if ip.fragment || ip.udp.isSome then d
    else if !ip.v6 && ip.proto == 1 && typ == 8 && own then d.sendIcmp p ip.dst ip.src 0 (f.data.drop 4)
    else if !ip.v6 || ip.proto != 58 then d
    else if typ = 128 && own then d.sendIcmp p ip.dst ip.src 129 (f.data.drop 4)
    else match target with
      | none => d
      | some a =>
        if typ = 136 || (typ = 135 && addr128 ip.src == 0 && (d.port p).dadFrom.any fun t => d.now ≤ t + sec) then d.dadHeard p a
        else if typ = 135 then
          let dst := if addr128 ip.src = 0 then ascii "ff02::1" else ip.src
          d.sendIcmp p a dst 136 ((if addr128 ip.src = 0 then [0x20, 0, 0, 0] else [0x60, 0, 0, 0]) ++ be 16 (addr128 a) ++ [2, 1] ++ be 6 (d.portMac p))
        else d

/-- Whether service firmware answers a frame by itself: ARP, ICMP and ICMPv6. -/
def isAnswered (f : EthFrame) : Bool :=
  match f.ip with
  | none => f.etherType == 0x0806
  | some ip => !ip.fragment && ip.udp.isNone && (if ip.v6 then ip.proto == 58 && [128, 135, 136].contains (beAt f.data 0 1) else ip.proto == 1)

/-- FRAME_RECEIVED (R105, R107, R110, R112, R114): timestamped, classified into a ring or dropped; a media packet goes to the
ingest; service firmware answers ARP, ND and ICMP echo and returns their descriptors. -/
def execFrameReceived (t : Nat) (p : Fin 4) (f : EthFrame) (s : State) : Host.Outcome State Fault Refusal :=
  s.run t fun d => d.when (d.alive && d.rn O.portMode p != 0) fun d =>
    match d.classify p f with
    | none => d.bump O.portRxDropped p
    | some pl =>
      if pl.ring = 2 && isAnswered f && (d.ring (16 * p + 2)).rx.length < d.rn O.ringSize (16 * p + 2) then
        (d.bump O.ringFrames (16 * p + 2)).answerFrame p f
      else if pl.ring < 4 then d.deliverRx (16 * p + pl.ring) (rxDescOf f (d.arrivalOf p) pl)
      else match f.ip with
        | some ip => match ip.udp with
          | some u =>
            if u.csumBad then d
            else (d.bump O.ringFrames (16 * p + pl.ring)).media pl.stream (d.arrivalOf p) ip.src u
          | none => d
        | none => d

/-- BLOCK_LOCK_LOSS_TIMEOUT (R106). -/
def execBlockLockLossTimeout (t : Nat) (p : Fin 4) (s : State) : Host.Outcome State Fault Refusal :=
  s.run t fun d => d.when (d.alive && (d.port p).linkUp) fun d => d.linkDown p

/-- BLOCK_LOCK_RETURN (R106, R107). -/
def execBlockLockReturn (t : Nat) (p : Fin 4) (s : State) : Host.Outcome State Fault Refusal :=
  s.run t fun d => d.when (d.alive && d.rn O.portMode p != 0 && !(d.port p).linkUp &&
      tget 0 d.health.dmaFault (unitKey 14 p) == 0) fun d =>
    (((d.modPort p fun y => { y with linkUp := true }).setN O.portLink p 1).raise Code.netLinkUp p).startDad p

/-- FRAME_TRANSMIT_START (R106, R111, R113, R134). -/
def execFrameTransmitStart (t : Nat) (p : Fin 4) (s : State) : Host.Outcome State Fault Refusal :=
  s.run t fun d => d.when (d.alive && (d.port p).linkUp && (d.port p).sending.isNone) fun d => d.txStart p

/-- LAUNCH_LATE_WINDOW_EXPIRY (R113). -/
def execLaunchLateWindowExpiry (t : Nat) (ring : Fin 64) (s : State) : Host.Outcome State Fault Refusal :=
  s.run t fun d => d.when d.alive fun d => d.lateHead ring

/-- FRAME_TRANSMIT_DONE (R109, R111, R130). -/
def execFrameTransmitDone (t : Nat) (p : Fin 4) (s : State) : Host.Outcome State Fault Refusal :=
  s.run t fun d => d.when d.alive fun d => d.txDone p

/-- COMPARE_FIRE (R135): a general trigger fires and is no longer set. A launch makes its frame eligible and a grid instant
starts frames: what follows is the step of FRAME_TRANSMIT_START, HEAD_FRAME_START, PITCH_START or ENCODE_INPUT_CUT_OFF. -/
def execCompareFire (t : Nat) (target : CompareTarget) (s : State) : Host.Outcome State Fault Refusal :=
  s.run t fun d => d.when d.alive fun d =>
    match target with
    | .trigger i => match tfind d.triggers i.val with
      | some x => if compareFires x d.now then { d with triggers := tdel d.triggers i.val } else d
      | none => d
    | .launch ring => if (d.port (ring.val / 16)).linkUp && (d.port (ring.val / 16)).sending.isNone then
        d.txStart (ring.val / 16) else d
    | .grid _ => d

/-- AU_RELEASE (R119, R120). -/
def execAuRelease (t : Nat) (st : Fin 128) (s : State) : Host.Outcome State Fault Refusal :=
  s.run t fun d => d.when d.alive fun d => d.releaseAus st ((d.ing st).jitter.length)

/-- SSRC_IDLE_TIMEOUT (R122): the next SSRC seen is adopted. -/
def execSsrcIdleTimeout (t : Nat) (st : Fin 128) (s : State) : Host.Outcome State Fault Refusal :=
  s.run t fun d => d.when (d.alive && (d.ing st).ssrc.isSome && (d.ing st).ssrcLast + 200000000 ≤ d.now) fun d =>
    d.modIng st fun g => { g with ssrcIdle := true }

/-- RTCP_SR_RECEIVED (R41, R123): the mapping of the context's own SSRC. -/
def execRtcpSrReceived (t : Nat) (st : Fin 128) (ssrc ntpSec ntpFrac rtp : Nat) (gm : Option Nat) (s : State) :
    Host.Outcome State Fault Refusal :=
  s.run t fun d => d.when (d.alive && (d.ing st).bound) fun d =>
    let d := d.returnRx (16 * d.rn O.streamPort st + 3)
    if (d.ing st).ssrc = some ssrc then
      (d.modIng st fun g => { g with sr := some ⟨ntpSec, ntpFrac, rtp, d.now, gm⟩ }).setN O.streamLastSr st (dtime d.now)
    else d

/-- RTCP_RR_TIMER (R124). -/
def execRtcpRrTimer (t : Nat) (st : Fin 128) (s : State) : Host.Outcome State Fault Refusal :=
  s.run t fun d => d.when (d.alive && (d.ing st).bound) fun d => d.sendRr st

/-- RTSP_RESPONSE (R117, R123, R125). -/
def execRtspResponse (t : Nat) (st : Fin 128) (r : RtspReply) (s : State) : Host.Outcome State Fault Refusal :=
  s.run t fun d => d.when (d.alive && (d.ing st).bound && d.rn O.streamSourceMode st == 2) fun d =>
    (d.returnRx (16 * d.rn O.streamPort st + 2)).rtspReply st r

/-- RTSP_RETRY_TIMER (R125). -/
def execRtspRetryTimer (t : Nat) (st : Fin 128) (s : State) : Host.Outcome State Fault Refusal :=
  s.run t fun d => d.when (d.alive && (d.rts st).state == 5 && (d.rts st).due ≤ d.now) fun d => d.rtspStart st

/-- RTSP_KEEPALIVE_TIMER (R125). -/
def execRtspKeepaliveTimer (t : Nat) (st : Fin 128) (s : State) : Host.Outcome State Fault Refusal :=
  s.run t fun d => d.when (d.alive && (d.rts st).state == 4 && (d.rts st).due ≤ d.now) fun d =>
    (d.modRts st fun r => { r with due := d.now + r.timeout * sec / 2 }).sendRtsp st "GET_PARAMETER"

/-- MULTICAST_QUERY_RECEIVED (R126): every membership is answered. -/
def execMulticastQueryReceived (t : Nat) (p : Fin 4) (s : State) : Host.Outcome State Fault Refusal :=
  s.run t fun d => d.when (d.alive && (d.port p).linkUp) fun d =>
    (d.port p).joins.foldl (fun (d : Dev) j => d.sendReport p j.mode j) (d.returnRx (16 * p + 2))

/-- MULTICAST_REPORT_TIMER (R126): the second unsolicited report of each new membership. -/
def execMulticastReportTimer (t : Nat) (p : Fin 4) (s : State) : Host.Outcome State Fault Refusal :=
  s.run t fun d => d.when d.alive fun d =>
    let due := (d.port p).joins.filter (·.again)
    let d := d.modPort p fun y => { y with joins := y.joins.map fun j => { j with again := false } }
    due.foldl (fun (d : Dev) j => d.sendReport p (j.mode + 2) j) d

end Sys2Proof.Machine
end

