-- ==== Sys2Proof/Machine/Services.lean ====
section
/-! DEFINITION. The meanings of the service commands (chapter 13): processors, mailbox registers, accesses of masters and
their protection, check-value units. -/

namespace Sys2Proof.Machine

/-! ### Processors (R352 to R354) -/

/-- The health kind and instance of a processor (R411). -/
def procUnit (c : Nat) : Nat × Nat := if c < 9 then (1, c) else if c < 13 then (2, c - 9) else (3, 0)

/-- The load of a core over the last 10 s, in per cent: nothing the device is told of fixes it (DESIGN CHOICE, log 9). -/
def Dev.coreLoad (d : Dev) (c : Nat) : Nat := (Config.unstated 352 [c, d.now / (10 * sec)]).toNat % 101

/-- The contexts of a retired controller go to the others in turn, at most 64 each; the rest are shed (R164). -/
def Dev.redistribute (d : Dev) (c : Nat) : Dev :=
  let live := (List.range 4).filter fun k => k != c && (d.proc (9 + k)).state != 2
  let count (d : Dev) (k : Nat) : Nat := (d.allStreams.filter fun s => d.ctrlOf s == k).length
  let r := (d.allStreams.filter fun s => d.ctrlOf s == c).foldl (fun (st : Dev × List Nat) s =>
    let d := st.1
    match st.2.find? fun k => count d k < 64 with
    | some k => (d.modCx s fun x => { x with ctrl := some k }, (st.2.filter (· != k)) ++ [k])
    | none =>
      let d := d.modCx s fun x => { x with ctrl := some 0xFF }
      (if (d.cx s).state == .unbound || (d.cx s).state == .shed then d else d.ctxEvent s 2, st.2)) (d, live)
  r.1

/-- A processor's tasks and mailbox ends move whole to another. -/
def Dev.moveTasks (d : Dev) (c dest : Nat) : Dev :=
  let ts := (d.proc c).tasks
  ((d.modProc c fun p => { p with tasks := [] }).modProc dest fun p => { p with tasks := p.tasks ++ ts }).endsMove c dest

/-- A service core is retired: core 8 takes its work while a spare, else the active core of the lowest load (R353). -/
def Dev.retireCore (d : Dev) (c reason : Nat) : Dev :=
  let own : Own := { code := Code.coreRetired, p0 := c }
  let wasSpare := decide (c = 8 && (d.proc 8).tasks.isEmpty)
  let d := ((d.modProc c fun p => { p with state := 2, faultAt := none }).recordRetired 1 c).raiseOwn own
  if wasSpare then d.noteLasting 1 c own reason none 0 1
  else if c != 8 && (d.proc 8).state == 1 then
    let d := ((d.abandonTest 1 8).modProc 8 fun p => { p with state := 0 }).moveTasks c 8
    (d.raise Code.coreSpareEngaged 8 c).noteLasting 1 c own reason (some 8) 0 7
  else
    let d := d.noteLasting 1 c own reason none 0 5
    let act := (List.range 9).filter fun k => (d.proc k).state == 0
    match act.find? fun k => act.all fun j => d.coreLoad k ≤ d.coreLoad j with
    | some k => d.moveTasks c k
    | none => d

/-- A codec controller is retired (R353, R164). -/
def Dev.retireController (d : Dev) (c reason : Nat) : Dev :=
  let own : Own := { code := Code.coreRetired, p0 := c }
  let d := ((d.modProc c fun p => { p with state := 2, faultAt := none }).recordRetired 2 (c - 9)).raiseOwn own
  ((d.raise Code.decControllerRetired (c - 9)).noteLasting 2 (c - 9) own reason none 0 5).redistribute (c - 9)

/-- A processor's fault is lasting. -/
def Dev.procLasting (d : Dev) (c reason : Nat) : Dev :=
  if c < 9 then d.retireCore c reason
  else if c < 13 then d.retireController c reason
  else (d.modProc 13 fun p => { p with state := 2, faultAt := none }).signerLost reason

/-- A processor fails a check (R353, R354): it is reset alone; within 10 s of its last restart the fault is lasting. -/
def Dev.procFault (d : Dev) (c code : Nat) : Dev :=
  let p := d.proc c
  if p.state = 2 then d
  else
    let d := (d.raise code c).endsReset c
    let again : Bool := match p.faultAt with
      | some t => decide (d.now < t + 10 * sec)
      | none => false
    if again then d.procLasting c 1
    else (d.modProc c fun x => { x with state := 3, faultAt := some d.now }).bump O.procRestarts c

/-- CORE_SELF_CHECK_FAIL (R353). -/
def execCoreSelfCheckFail (t : Nat) (c : Fin 13) (s : State) : Host.Outcome State Fault Refusal :=
  s.run t fun d => d.when d.alive fun d => d.procFault c Code.coreFault

/-- CORE_WATCHDOG_EXPIRY (R353). -/
def execCoreWatchdogExpiry (t : Nat) (c : Fin 13) (s : State) : Host.Outcome State Fault Refusal :=
  s.run t fun d => d.when d.alive fun d => d.procFault c Code.coreWatchdog

/-- SEC_CORE_SELF_CHECK_FAIL (R354). -/
def execSecCoreSelfCheckFail (t : Nat) (s : State) : Host.Outcome State Fault Refusal :=
  s.run t fun d => d.when d.alive fun d => d.procFault 13 Code.secCoreFault

/-- PROCESSOR_RESTART_DONE (R353): the 10 s of its probation count from here. -/
def execProcessorRestartDone (t : Nat) (c : Fin 14) (s : State) : Host.Outcome State Fault Refusal :=
  s.run t fun d => d.when (d.alive && (d.proc c).state == 3) fun d =>
    d.modProc c fun p => { p with
      state := if c.val = 8 && p.tasks.isEmpty then 1 else 0, faultAt := p.faultAt.map fun _ => d.now }

/-- CORE_RUN_PERIOD (R353, R413, R414). -/
def execCoreRunPeriod (t : Nat) (c : Fin 14) (s : State) : Host.Outcome State Fault Refusal :=
  s.run t fun d => d.when d.alive fun d =>
    let p := d.proc c
    let u := procUnit c
    match p.faultAt with
    | some since =>
      if p.state != 3 && p.state != 2 && since + 10 * sec ≤ d.now then
        if d.transientOver u.1 u.2 then d.procLasting c 2
        else
          let d := d.modProc c fun p => { p with faultAt := none }
          if c.val = 13 then d.noteTransient 3 0 { code := Code.secCoreFault }
          else (d.raise Code.coreTransient c).noteTransient u.1 u.2 { code := Code.coreTransient, p0 := c }
      else d
    | none => d

/-! ### Mailbox registers (R358 to R364) -/

/-- The bytes of a register that a direction's control is written through: ACK_IN has 64 bits, the others 32 (Table 13-4). -/
def mbxRegBytes (off : Nat) : Nat := if off = 0x88 then 8 else 4

/-- A write of a sender or receiver register: from the master at that end. -/
def Dev.mbxWrite (d : Dev) (m k off master : Nat) (sender : Bool) (f : Dev → Dev) : Dev :=
  d.regWrite master (mbxAddr m k off) (mbxRegBytes off) (master == if sender then (d.mb m).sender k else (d.mb m).receiver k) f

/-- Whether a channel is one of the twin's. -/
def mbxTwin (m : Nat) : Bool := decide (16 ≤ m) && decide (m < 24)

/-- A message in the slot is withdrawn (R364); one on a twin channel has left for the partner and stays (DEDUCED, log 36). -/
def Dev.mbxWithdraw (d : Dev) (m k : Nat) : Dev :=
  if ((d.mb m).dir k).full && !mbxTwin m then d.modDir m k fun x => { x with full := false, outstanding := false } else d

/-- A take, told to the partner on a twin channel (R360, R367). -/
def Dev.mbxTakeIn (d : Dev) (m k : Nat) : Dev :=
  let had := ((d.mb m).dir k).full
  let d := d.mbxTake m k
  if had && mbxTwin m then d.mbxNotice m 1 [] else d

/-- An acknowledgement, told to the partner on a twin channel (R360, R367). -/
def Dev.mbxAckIn (d : Dev) (m k seq reply : Nat) : Dev :=
  let x := (d.mb m).dir k
  let ok := x.outstanding && leAt x.hdr 4 4 == seq
  let d := d.mbxAck m k seq reply
  if ok && mbxTwin m then d.mbxNotice m 2 (le 4 seq ++ le 2 reply) else d

/-- MBX_POST (R359). -/
def execMbxPost (t : Nat) (m : Fin 32) (dir : Fin 2) (master : Fin 55) (len : Nat) (s : State) :
    Host.Outcome State Fault Refusal :=
  s.run t fun d => d.when d.alive fun d => d.mbxWrite m dir 0x30 master true fun d =>
    d.mbxPost m dir ((d.mb m).dir dir).tx len 0

/-- MBX_WITHDRAW (R364). -/
def execMbxWithdraw (t : Nat) (m : Fin 32) (dir : Fin 2) (master : Fin 55) (s : State) : Host.Outcome State Fault Refusal :=
  s.run t fun d => d.when d.alive fun d => d.mbxWrite m dir 0x30 master true fun d => d.mbxWithdraw m dir

/-- MBX_TAKE (R360, R363). -/
def execMbxTake (t : Nat) (m : Fin 32) (dir : Fin 2) (master : Fin 55) (s : State) : Host.Outcome State Fault Refusal :=
  s.run t fun d => d.when d.alive fun d => d.mbxWrite m dir 0x80 master false fun d => d.mbxTakeIn m dir

/-- MBX_ACK_IN (R360, R363). -/
def execMbxAckIn (t : Nat) (m : Fin 32) (dir : Fin 2) (master : Fin 55) (seq reply : Nat) (s : State) :
    Host.Outcome State Fault Refusal :=
  s.run t fun d => d.when d.alive fun d => d.mbxWrite m dir 0x88 master false fun d => d.mbxAckIn m dir seq reply

/-- MBX_RESULT_CLEAR (Table 13-5). -/
def execMbxResultClear (t : Nat) (m : Fin 32) (dir : Fin 2) (master : Fin 55) (s : State) :
    Host.Outcome State Fault Refusal :=
  s.run t fun d => d.when d.alive fun d => d.mbxWrite m dir 0x34 master true fun d =>
    d.modDir m dir fun x => { x with resultValid := false }

/-- MBX_ACK_TIMEOUT (R361, R367). -/
def execMbxAckTimeout (t : Nat) (m : Fin 32) (dir : Fin 2) (s : State) : Host.Outcome State Fault Refusal :=
  s.run t fun d => d.when d.alive fun d =>
    let x := (d.mb m).dir dir
    if x.outstanding && x.posted + 1000000 * d.rn O.mbxAckTimeout m ≤ d.now then
      ((d.mbxResult m dir Code.ackTimeout 0).bump O.mbxTimeouts m).raiseOnce sec m Code.ackTimeout m
    else d

/-! ### Check-value units (R376 to R381) -/

/-- The address of a register of unit u. -/
def cvuAddr (u off : Nat) : Nat := regWindow + 0x120000 + u * 0x40 + off

/-- The data register of a width. -/
def cvuDataOff (regWidth : Nat) : Nat := if regWidth = 8 then 0x10 else if regWidth = 16 then 0x14 else 0x18

/-- A write to CTRL (R378). -/
def Dev.cvuCtrl (d : Dev) (u value : Nat) : Dev :=
  if value % 4 = 3 then d.raise Code.cvuConfigInvalid u
  else d.modCvu u fun c => { c with alg := value % 4, aliveEn := bit value 2, running := cvInit (value % 4) }

/-- A write of `width` bits to the data register of `regWidth`, least significant byte first (R376, R378). -/
def Dev.cvuData (d : Dev) (u regWidth width value : Nat) : Dev :=
  if width != regWidth then d.raise Code.cvuConfigInvalid u
  else d.modCvu u fun c => { c with running := (le (width / 8) value).foldl (cvByte c.alg) c.running }

/-- What FINISH does to a unit (R380). -/
def Cvu.finish (c : Cvu) : Cvu :=
  let r := if c.aliveEn then cvByte c.alg c.running (byteOf c.alive) else c.running
  { c with result := r ^^^ cvFinal c.alg, running := cvInit c.alg, alive := if c.aliveEn then (c.alive + 1) % 256 else c.alive }

/-- A write to FINISH (R380). -/
def Dev.cvuFinish (d : Dev) (u : Nat) : Dev := (d.modCvu u Cvu.finish).bump O.cvuFinishes u

/-! ### Accesses (R358, R370) -/

/-- A write of `n` bytes at an offset of a direction's block (Table 13-4): what each register does, from the end it belongs to;
every other write is a violation (R358). Withdrawals come before posts (R365). -/
def Dev.mbxStore (d : Dev) (master addr n value m k off : Nat) : Dev :=
  let atEnd (sender : Bool) : Bool := master == if sender then (d.mb m).sender k else (d.mb m).receiver k
  if off + n ≤ 48 then
    d.regWrite master addr n (atEnd true) fun d => d.modDir m k fun x =>
      let b := fit 48 x.tx
      { x with tx := b.take off ++ le n value ++ b.drop (off + n) }
  else if n != mbxRegBytes off then d.regWrite master addr n false id
  else if off = 0x30 then
    d.regWrite master addr n (atEnd true) fun d =>
      let d := if bit value 30 then d.mbxWithdraw m k else d
      if bit value 31 then d.mbxPost m k ((d.mb m).dir k).tx (value % 64) 0 else d
  else if off = 0x34 then
    d.regWrite master addr n (atEnd true) fun d =>
      if bit value 29 then d.modDir m k fun x => { x with resultValid := false } else d
  else if off = 0x80 then d.regWrite master addr n (atEnd false) fun d => if bit value 0 then d.mbxTakeIn m k else d
  else if off = 0x88 then
    d.regWrite master addr n (atEnd false) fun d => d.mbxAckIn m k (value / 2 ^ 32 % 2 ^ 32) (value % 65536)
  else d.regWrite master addr n false id

/-- A write of `n` bytes at an offset of a check-value unit's block (R377, R378, R380, R381). -/
def Dev.cvuStore (d : Dev) (master addr n value u off : Nat) : Dev :=
  d.regWrite master addr n (master < 14) fun d =>
    if off = 0 then d.cvuCtrl u value
    else if off = 4 then d.modCvu u fun c => { c with alive := value % 256 }
    else if off = 8 then d.modCvu u fun c => { c with running := value % 2 ^ (if c.alg = 2 then 16 else 32) }
    else if off = 0x10 then d.cvuData u 8 (8 * n) value
    else if off = 0x14 then d.cvuData u 16 (8 * n) value
    else if off = 0x18 then d.cvuData u 32 (8 * n) value
    else if off = 0x1C then d.cvuFinish u
    else d

/-- A write of `n` bytes in the register window. -/
def Dev.regStore (d : Dev) (master addr n value : Nat) : Dev :=
  let o := addr - regWindow
  if 0x100000 ≤ o && o < 0x104000 then
    d.mbxStore master addr n value ((o - 0x100000) / 512) ((o - 0x100000) / 256 % 2) (o % 256)
  else if 0x120000 ≤ o && o < 0x120200 then d.cvuStore master addr n value ((o - 0x120000) / 64) (o % 64)
  else d.regWrite master addr n true id

/-- REGISTER_WRITE (R358, R370, R381). -/
def execRegisterWrite (t : Nat) (master : Fin 55) (addr width value : Nat) (s : State) : Host.Outcome State Fault Refusal :=
  s.run t fun d => d.when d.alive fun d =>
    if regWindow ≤ addr then d.regStore master addr (width / 8) value
    else d.regWrite master addr (width / 8) false id

/-- The bursts an access covers whole. -/
def wholeBursts (addr len : Nat) : List Nat :=
  (List.range 6).filterMap fun i =>
    let a := addr / 64 * 64 + 64 * i
    if addr ≤ a && a + 64 ≤ addr + len then some a else none

/-- A write of a whole burst clears its poison (R319). -/
def Dev.clearPoison (d : Dev) (a : Nat) : Dev :=
  let p := d.mem.place a
  let fixed (r : Remap) : Remap :=
    if r.rank == p.rank && r.bank == p.bank && r.row == p.row && r.active then
      { r with poison := r.poison.filter (· != p.col) }
    else r
  d.modCh p.ch fun c => { c with remaps := c.remaps.map fixed }

/-- A read of DRAM as a master sees it (R318, R319): poisoned bursts are zeros with an error. -/
def Dev.dramRead (d : Dev) (m : List Host.Cell) (addr len : Nat) : Bytes × Bool :=
  let bad := (List.range len).map fun i => d.poisoned (addr + i)
  if bad.any id then (((List.range len).map fun i => if d.poisoned (addr + i) then 0 else Memory.peek m (addr + i)), true)
  else (Memory.read m addr len, false)

/-- MASTER_ACCESS (R302, R318, R319, R370). -/
def execMasterAccess (t : Nat) (master : Fin 55) (kind : Access) (scanout : Bool) (addr len : Nat) (data : Bytes)
    (found : Found) (s : State) : Host.Outcome State Fault Refusal :=
  s.runMem t fun d m =>
    if !d.alive then (d, m)
    else
      let code := d.protCheck master kind addr len
      let cls := masterClass master scanout
      if code ≠ 0 then
        let d := d.protRefuse master code addr len (accessCode kind)
        (if kind == .write then d else d.emit (.access master addr (zeros len) true), m)
      else if regWindow ≤ addr then
        (if kind == .write then d.regStore master addr len (ofLe (fit len data))
          else d.emit (.access master addr (d.regRead addr len) false), m)
      else match kind with
        | .write =>
          let d := d.queueAccess cls addr len true
          ((wholeBursts addr len).foldl (fun (d : Dev) a => d.clearPoison a) d, Memory.write m addr (fit len data))
        | _ =>
          let d := d.queueAccess cls addr len false
          match found with
          | .uncorrectable => (d.reread addr master, m)
          | f =>
            let d := if f == .corrected then d.corrected addr else d
            let r := d.dramRead m addr len
            (d.emit (.access master addr r.1 r.2), m)

/-- PROT_DRAIN_END (R374). -/
def execProtDrainEnd (t : Nat) (n : Fin 55) (s : State) : Host.Outcome State Fault Refusal :=
  s.run t fun d => d.when (d.alive && (d.prot n).cstate == 1) fun d =>
    let held := (d.prot n).held
    let d := (d.modProt n fun p => { p with cstate := 0, held := false }).raise Code.protCommitDone n
    if held then d.protCommit n else d

/-- CVU_CTRL_WRITE (R378). -/
def execCvuCtrlWrite (t : Nat) (u : Fin 8) (master : Fin 55) (value : Nat) (s : State) : Host.Outcome State Fault Refusal :=
  s.run t fun d => d.when d.alive fun d => d.regWrite master (cvuAddr u 0) 4 (master.val < 14) fun d => d.cvuCtrl u value

/-- CVU_DATA_WRITE (R376, R378). -/
def execCvuDataWrite (t : Nat) (u : Fin 8) (master : Fin 55) (regWidth width value : Nat) (s : State) :
    Host.Outcome State Fault Refusal :=
  s.run t fun d => d.when d.alive fun d =>
    d.regWrite master (cvuAddr u (cvuDataOff regWidth)) (width / 8) (master.val < 14) fun d => d.cvuData u regWidth width value

/-- CVU_FINISH (R380). -/
def execCvuFinish (t : Nat) (u : Fin 8) (master : Fin 55) (s : State) : Host.Outcome State Fault Refusal :=
  s.run t fun d => d.when d.alive fun d => d.regWrite master (cvuAddr u 0x1C) 4 (master.val < 14) fun d => d.cvuFinish u

end Sys2Proof.Machine
end

