-- ==== Sys2Proof/Machine/TouchOps.lean ====
section
/-! DEFINITION. Console touch, what a scan is computed from (chapter 10): electrodes, fitting frequencies, baselines,
blobs, contacts, touch records, action regions, and the interlock of R74. -/

namespace Sys2Proof.Machine

/-! ### Electrodes (R265, R266) -/

/-- Byte `k` of pin p of a pin map. -/
def pinByte (m : Bytes) (p k : Nat) : Nat := (m.getD (2 * p + k) 0).toNat

/-- The electrodes of a role (1 drive, 2 sense) of panel n: index and pin, in order of index. -/
def electrodes (m : Bytes) (n role : Nat) : List (Nat × Nat) :=
  sortBy (fun a b => a.1 ≤ b.1) (((List.range 256).filter fun p => pinByte m p 0 / 64 == role && pinByte m p 0 % 4 == n).map
    fun p => (pinByte m p 1, p))

/-- Whether a pin map keeps R265. -/
def pinMapOk (m : Bytes) : Bool :=
  ((List.range 256).all fun p => pinByte m p 0 / 64 != 3) && (List.range 4).all fun n =>
    let dr := electrodes m n 1; let se := electrodes m n 2
    dr.length + se.length ≤ 128 && dr.length ≤ 64 && se.length ≤ 96 &&
      dr.map (·.1) == List.range dr.length && se.map (·.1) == List.range se.length

/-- The drive and sense electrodes of panel n. -/
def Dev.drives (d : Dev) (n : Nat) : List (Nat × Nat) := electrodes (d.rb O.touchPinMap) n 1
/-- See `drives`. -/
def Dev.senses (d : Dev) (n : Nat) : List (Nat × Nat) := electrodes (d.rb O.touchPinMap) n 2

/-- Whether head h is one a panel can use (R266). -/
def Dev.panelHeadOk (d : Dev) (n : Nat) : Bool := d.headOn (d.rn O.panelHead n)

/-- The default calibration matrix (R281). -/
def Dev.defaultCal (d : Dev) (n : Nat) : Bytes :=
  let h := d.rn O.panelHead n
  let a (px k : Nat) : Nat := if k ≤ 1 then 0 else (px - 1) * 65536 / ((k - 1) * 256)
  le 4 (a (d.headW h) (d.senses n).length) ++ zeros 12 ++ le 4 (a (d.headH h) (d.drives n).length) ++ zeros 4

/-- The calibration matrix in effect: what was written, else the default. -/
def Dev.calMatrix (d : Dev) (n : Nat) : Bytes :=
  let b := d.rb O.panelCalMatrix n
  if b.isEmpty then d.defaultCal n else b

/-! ### Frequencies (R269 to R273) -/

/-- Hop frequency f of panel n in kHz. -/
def Dev.hopFreq (d : Dev) (n f : Nat) : Nat :=
  if f = 0 then d.rn O.panelFreq0 n else if f = 1 then d.rn O.panelFreq1 n
  else if f = 2 then d.rn O.panelFreq2 n else d.rn O.panelFreq3 n

/-- Whether panel n takes horizontal scans (R270). -/
def Dev.takesHorizontal (d : Dev) (n : Nat) : Bool :=
  let h := d.rn O.panelHead n; let g := d.groupOf h
  d.rn O.panelQuietMode n == 1 && d.rn O.gridRateNum g ≤ 60 * d.rn O.gridRateDen g * d.headDiv h

/-- Whether frequency f fits the scans panel n takes (R269). -/
def Dev.freqFits (d : Dev) (n f : Nat) : Bool :=
  let h := d.rn O.panelHead n
  let k := d.hopFreq n f
  let lc := d.rn O.headLineCycles h * d.headDiv h
  let vt := d.rn O.headVTotal h; let va := d.headH h; let ht := d.rn O.headHTotal h
  let vert := 6 * (80000000 + 20000 * k) + (5 * d.trimCap h lc + 10 * d.rn O.headLineCycles h) * k ≤ 5 * lc * (vt - va) * k
  let hor := 480000000 ≤ (va - d.rn O.panelHScanLine n) * 5 * lc * k && 1500 * ht ≤ (ht - d.headW h) * 5 * lc
  vert && (!d.takesHorizontal n || hor)

/-- The fitting frequencies of panel n. -/
def Dev.fitting (d : Dev) (n : Nat) : List Nat := (List.range 4).filter (d.freqFits n)

/-- What panel n keeps of frequency f. -/
def Panel.fr (p : Panel) (f : Nat) : Freq := tget {} p.freqs f

/-- Change it. -/
def Panel.modFr (p : Panel) (f : Nat) (g : Freq → Freq) : Panel := { p with freqs := tset p.freqs f (g (p.fr f)) }

/-- The noise of a frequency squared, as a sum of squares and the number of integrals it is over (R273). -/
def Freq.noiseSq (x : Freq) (ns : Nat) : Nat × Nat := (sumL x.noise, x.noise.length * ns)

/-- Integer square root. -/
def isqrt (n : Nat) : Nat := Nat.sqrt n

/-- The noise figure in counts, rounded down. -/
def Freq.figure (x : Freq) (ns : Nat) : Nat :=
  let s := x.noiseSq ns
  if s.2 = 0 then 0 else isqrt (s.1 / s.2)

/-! ### Nodes -/

/-- The value of node (i, j). -/
def nodeAt (m : List (List Int)) (i j : Nat) : Int := (m.getD i []).getD j 0

/-- A grid of nodes from a function. -/
def grid (nd ns : Nat) (f : Nat → Nat → Int) : List (List Int) :=
  (List.range nd).map fun i => (List.range ns).map fun j => f i j

/-- The nodes of a grid. -/
def nodesOf (nd ns : Nat) : List (Nat × Nat) := (List.range nd).flatMap fun i => (List.range ns).map fun j => (i, j)

/-- Mean of a list, rounded half up. -/
def meanI (l : List Int) : Int := rdivI (l.foldl (· + ·) 0) (max 1 l.length)

/-- The mean of scans, node by node (R274). -/
def meanScan (nd ns : Nat) (l : List (List (List Int))) : List (List Int) := grid nd ns fun i j => meanI (l.map fun m => nodeAt m i j)

/-- Whether two nodes lie within k pitches (R266). -/
def near (k : Nat) (a b : Nat × Nat) : Bool :=
  a.1 ≤ b.1 + k && b.1 ≤ a.1 + k && a.2 ≤ b.2 + k && b.2 ≤ a.2 + k

/-- Whether two nodes are neighbours in a row or column. -/
def touching (a b : Nat × Nat) : Bool :=
  (a.1 == b.1 && (a.2 == b.2 + 1 || b.2 == a.2 + 1)) || (a.2 == b.2 && (a.1 == b.1 + 1 || b.1 == a.1 + 1))

/-- Grow a set of nodes through allowed ones, `n` bounding the rounds. -/
def flood : Nat → List (Nat × Nat) → List (Nat × Nat) → List (Nat × Nat)
  | 0, s, _ => s
  | n + 1, s, rest =>
    let add := rest.filter fun q => s.any (touching q)
    if add.isEmpty then s else flood n (s ++ add) (rest.filter fun q => !add.contains q)

/-- The 4-connected sets of a list of nodes. -/
def components : Nat → List (Nat × Nat) → List (List (Nat × Nat))
  | 0, _ => []
  | _ + 1, [] => []
  | n + 1, q :: rest =>
    let c := flood rest.length [q] rest
    c :: components n (rest.filter fun x => !c.contains x)

/-- The measurement with the nodes of open electrodes at the mean of their neighbours' (R289). -/
def Dev.mendOpen (d : Dev) (n : Nat) (m : List (List Int)) : List (List Int) :=
  let dr := d.drives n; let se := d.senses n
  let openD := (dr.filter fun e => (d.pn n).openPins.contains e.2).map (·.1)
  let openS := (se.filter fun e => (d.pn n).openPins.contains e.2).map (·.1)
  let m1 := grid dr.length se.length fun i j =>
    if openD.contains i then rdivI (nodeAt m (i - 1) j + nodeAt m (i + 1) j) 2 else nodeAt m i j
  grid dr.length se.length fun i j =>
    if openS.contains j then rdivI (nodeAt m1 i (j - 1) + nodeAt m1 i (j + 1)) 2 else nodeAt m1 i j

/-- Whether open electrodes leave a panel usable (R289): at most 4, none at an edge, no two adjacent. -/
def Dev.openOk (d : Dev) (n : Nat) (pins : List Nat) : Bool :=
  let axis (es : List (Nat × Nat)) : Bool :=
    let o := (es.filter fun e => pins.contains e.2).map (·.1)
    o.all fun i => i != 0 && i + 1 != es.length && !o.contains (i + 1)
  pins.length ≤ 4 && axis (d.drives n) && axis (d.senses n)

/-! ### Touches (R278, R279) -/

/-- A blob with its peak node, peak delta, position. -/
structure Blob where
  nodes : List (Nat × Nat)
  peak : Int
  u : Int
  v : Int
deriving DecidableEq, Repr

/-- The blob of a connected set: peak, and the delta-weighted centroid of the 3 × 3 nodes around it. -/
def blobOf (delta : List (List Int)) (nd ns : Nat) (c : List (Nat × Nat)) : Blob :=
  let pk := c.foldl (fun b q => if nodeAt delta b.1 b.2 < nodeAt delta q.1 q.2 then q else b) (c.headD (0, 0))
  let ring := (nodesOf nd ns).filter (near 1 pk)
  let w (q : Nat × Nat) : Int := nodeAt delta q.1 q.2
  let sum := ring.foldl (fun a q => a + w q) 0
  let su := ring.foldl (fun a q => a + w q * (q.2 * 256 : Nat)) 0
  let sv := ring.foldl (fun a q => a + w q * (q.1 * 256 : Nat)) 0
  let pos (s : Int) (at_ : Nat) : Int := if 0 < sum then rdivI s sum.toNat else (Config.unstated 278 [at_]).toNat
  { nodes := c, peak := nodeAt delta pk.1 pk.2, u := pos su pk.2, v := pos sv pk.1 }

/-- The blobs of a scan: nodes at or above half the threshold. -/
def blobsOf (delta : List (List Int)) (nd ns thr : Nat) : List Blob :=
  let on := (nodesOf nd ns).filter fun q => (thr : Int) ≤ 2 * nodeAt delta q.1 q.2
  (components on.length on).map (blobOf delta nd ns)

/-- The area of a blob in mm², rounded up. -/
def Dev.blobArea (d : Dev) (n : Nat) (c : List (Nat × Nat)) : Nat :=
  cdiv (c.length * d.rn O.panelPitchDrive n * d.rn O.panelPitchSense n) 1000000

/-- Whether a blob is a large object (R279); the sides of its bounding box count whole nodes (DEDUCED, log 35). -/
def Dev.largeBlob (d : Dev) (n : Nat) (c : List (Nat × Nat)) : Bool :=
  let side (l : List Nat) (pitch : Nat) : Nat := (maxL l - (l.min?).getD 0 + 1) * pitch
  let a := side (c.map (·.1)) (d.rn O.panelPitchDrive n)
  let b := side (c.map (·.2)) (d.rn O.panelPitchSense n)
  d.rn O.panelPalmArea n < d.blobArea n c ||
    (30000 ≤ max a b && d.rn O.panelPalmAspect n * min a b ≤ 10 * max a b)

/-! ### Head coordinates and hits (R281, R282) -/

/-- A head pixel from panel coordinates: x, y and whether it lies off the screen. -/
def Dev.toPixel (d : Dev) (n : Nat) (u v : Int) : Int × Int × Bool :=
  let m := d.calMatrix n
  let k (i : Nat) : Int := toSigned 32 (leAt m (4 * i) 4)
  let x := (k 0 * u + k 1 * v + k 2 + 32768) / 65536
  let y := (k 3 * u + k 4 * v + k 5 + 32768) / 65536
  let w : Int := d.headW (d.rn O.panelHead n); let ht : Int := d.headH (d.rn O.panelHead n)
  if -64 ≤ x && x < w + 64 && -64 ≤ y && y < ht + 64 then (clampI 0 (w - 1) x, clampI 0 (ht - 1) y, false)
  else (x, y, true)

/-- A pixel coordinate as a U16 field; what a field shows of a number it cannot hold is not stated (DESIGN CHOICE, log 9). -/
def pix16 (x : Int) : Nat := if 0 ≤ x && x < 65536 then x.toNat else (Config.unstated 281 [x.natAbs]).toNat % 65536

/-- The layer under a pixel: the topmost live or informative one, with its evaluation on glass at an instant (R76,
R282). -/
def Dev.hitLayer (d : Dev) (h : Nat) (x y : Int) (at_ : Nat) : Option (Nat × Desc × Option LEval) :=
  let beneath := (d.vlayers h).filter fun l => l.2.1.evaluated && l.2.2.holds x.toNat y.toNat
  (beneath.getLast?).map fun l => (l.1, l.2.1, (d.ly l.1).hist.find? fun v => v.tFirst ≤ six at_)

/-- Whether a region holds a pixel. -/
def Region.holdsPx (r : Region) (x y : Int) : Bool :=
  (r.x : Int) ≤ x && x < r.x + r.w && (r.y : Int) ≤ y && y < r.y + r.h

/-- The regions of panel n, by number. -/
def Dev.regionsOf (d : Dev) (n : Nat) : List (Nat × Region) :=
  ((List.range 256).map fun r => (r, d.actionRegion r)).filter fun p => p.2.panel == n

/-- The lowest-numbered region of a panel that holds a contact. -/
def Dev.regionAt (d : Dev) (n : Nat) (x y : Int) (off : Bool) : Option Nat :=
  if off then none else ((d.regionsOf n).find? fun p => p.2.holdsPx x y).map (·.1)

/-- A touch record (Table 10-2) of a contact or large object at a pixel, with event and reason 0; the second part is the
state of the layer it reports. -/
def Dev.touchRecord (d : Dev) (n id area peak : Nat) (x y : Int) (off : Bool) (sample : Nat) (holding : Bool)
    (event : Nat) : Bytes × Nat :=
  let hit := if off then none else d.hitLayer (d.rn O.panelHead n) x y sample
  let ev := hit.bind (·.2.2)
  let tag : Option Tag := match ev.bind (·.shown) with
    | some (.pic _ _ t) => some t
    | _ => none
  let flags := mask ((if holding then [0] else []) ++ (if off then [1] else []) ++ (if tag.any (·.cap.arrivalTimed) then [2] else []))
  let st := (ev.map fun v => v.state.code).getD 0
  let stream := match hit with
    | some (_, e, _) => if e.kind = 0 then e.source else 0xFFFF
    | none => 0xFFFF
  ([byteOf n, byteOf id, byteOf event, 0] ++ le 2 (pix16 x) ++ le 2 (pix16 y) ++ le 2 (min 0xFFFF area) ++
    le 2 ((hit.map (·.1)).getD 0xFFFF) ++ [byteOf st, byteOf flags] ++ le 2 stream ++
    le 4 ((ev.map (·.age)).getD 0) ++ le 8 sample ++ le 2 ((d.regionAt n x y off).getD 0xFFFF) ++ le 2 (min 0xFFFF peak), st)

/-! ### The interlock (R74, R75, R227) -/

/-- The start of the frame of head h on glass for a layer's top line at an instant: the last one whose first line is at
or before it. -/
def Dev.frameOnGlass (d : Dev) (h y0 at_ : Nat) : Option Nat :=
  let hd := d.hd h
  ((if hd.inFrame then [hd.start] else []) ++ hd.frames.map (·.start)).find? fun st => lineAt st hd.lineCycles y0 ≤ six at_

/-- The reason of R75 a request is refused for; none when the interlock accepts it. -/
def Dev.interlock (d : Dev) (h layer down tc : Nat) (ev : Option LEval) (start : Option Nat) (y0 : Nat) : Option Nat :=
  let hd := d.hd h
  let spans (st : Nat) : Bool := let f := lineAt st hd.lineCycles y0; six down ≤ f && f ≤ six tc
  match ev, start with
  | some v, some st =>
    let unc (t : Tag) : Nat := ageUs (six tc) (six t.cap.time) t.cap.uncertainty
    let tooOld : Bool := match v.shown with
      | some (.pic _ _ t) => v.bound < unc t
      | _ => true
    if (d.lk h).state != .running || hd.dark.contains st then some 1
    else if hd.overdraw.isSome || v.state == .suspectFrozen then some 3
    else if v.state != .live then some 1
    else if tooOld then some 2
    else if hd.dark.any spans then some 1
    else if (d.ly layer).notLive.any fun f => six down ≤ f && f ≤ six tc then some 5
    else none
  | _, _ => some 1

/-- A live-required region fires with a confirm instant (R74, R75, R285). -/
def Dev.requestLive (d : Dev) (n region : Nat) (r : Region) (down tc : Nat) (hold : Bool) (record : Bytes) : Dev :=
  let h := d.rn O.panelHead n
  let e := d.desc r.witness
  let vis := if r.witness < 512 && e.head = h && e.kind = 0 && e.live && e.enabled then d.visOf e else none
  let y0 := (vis.map (·.y0)).getD 0
  let start := d.frameOnGlass h y0 tc
  let ev := if vis.isSome then (d.ly r.witness).hist.find? fun v => v.tFirst ≤ six tc else none
  let q : Request :=
    { record := record, seq := 0, kind := 1, reason := 0, panel := n, region := region, action := r.action, hold := hold
      head := h, layer := r.witness, tc := tc, eval := ev, frameStart := start.getD 0, content := none, tries := 0, epoch := 0 }
  if (d.rb O.witnessGatewayAddr).isEmpty then d.refuseLive q 6
  else if vis.isNone then d.refuseLive q 4
  else match d.interlock h r.witness down tc ev start y0 with
    | some reason => d.refuseLive q reason
    | none => d.acceptRequest q

/-! ### Holds and regions (R285) -/

/-- A record that names a region. -/
def withRegion (r : Bytes) (region : Nat) : Bytes := r.take 28 ++ le 2 region ++ r.drop 30

/-- A hold is cancelled: event 5, TOUCH_ACTION_CANCELLED, counted. -/
def Dev.cancelHold (d : Dev) (n : Nat) (k : Hold) : Dev :=
  (((d.bumpAction k.region 1).postTouch (withRegion k.record k.region) 5 0).raise Code.touchActionCancelled n k.region)

/-- Cancel the running holds of a panel that meet a condition, in order of contact; completed ones stay. -/
def Dev.cancelHolds (d : Dev) (n : Nat) (bad : Hold → Bool) : Dev :=
  let gone := (d.pn n).holds.filter fun k => k.doneAt.isNone && bad k
  let d := d.modPn n fun p => { p with holds := p.holds.filter fun k => !(k.doneAt.isNone && bad k) }
  (sortBy (fun a b => a.contact ≤ b.contact) gone).foldl (fun (d : Dev) k => d.cancelHold n k) d

/-- A region fires: it disarms until the contacts inside it lift; a live-required one goes to the interlock. -/
def Dev.fireRegion (d : Dev) (n r : Nat) (record : Bytes) (down tc : Nat) (hold : Bool) : Dev :=
  let rg := d.actionRegion r
  let inside := ((d.pn n).contacts.filter fun c => !c.off && rg.holdsPx c.x c.y).map (·.id)
  let d := d.modPn n fun p => { p with fired := tset p.fired r inside }
  let rec_ := withRegion record r
  if rg.kind = 1 then d.requestLive n r rg down tc hold rec_
  else ((d.bumpAction r 0).postTouch rec_ 4 0).raise Code.touchActionFired n r

/-- The length in ns of a region's hold (Table 10-3). -/
def Dev.holdNs (d : Dev) (n : Nat) (r : Region) : Nat := 1000000 * if r.hold = 0 then d.rn O.panelHold n else r.hold

/-- A contact touches down on region r: an armed region fires at once or starts its hold; a second touch-down leaves a
running hold alone (DEDUCED, log 35). -/
def Dev.touchDown (d : Dev) (n r : Nat) (c : Contact) : Dev :=
  let rg := d.actionRegion r
  let p := d.pn n
  if (tfind p.fired r).isSome || p.holds.any (fun k => k.region == r) then d
  else if rg.confirm = 0 then d.fireRegion n r c.record c.down c.down false
  else d.modPn n fun p => { p with holds := p.holds ++
    [{ region := r, contact := c.id, down := c.down, length := d.holdNs n rg, record := c.record }] }

/-! ### Panel states (Table 10-5) -/

/-- A panel's head is lost (R288). -/
def Dev.headLost (d : Dev) (n : Nat) : Bool :=
  let h := d.rn O.panelHead n
  !d.headOn h || (d.hd h).shed || (d.lk h).state != .running

/-- Report every contact that is not silent lifted with a reason, and cancel every hold (R285, R287 to R289). -/
def Dev.liftAll (d : Dev) (n reason : Nat) : Dev :=
  let d := ((d.pn n).contacts.filter fun c => !c.silent).foldl (fun (d : Dev) c => d.postTouch c.record 2 reason) d
  d.cancelHolds n fun _ => true

/-- A panel leaves its state for another: contacts lifted, holds cancelled, the scan in progress dropped. -/
def Dev.panelTo (d : Dev) (n : Nat) (st : PanelState) (reason : Nat) : Dev :=
  (d.liftAll n reason).modPn n fun p => { p with
    state := st, contacts := [], holds := p.holds.filter fun k => k.doneAt.isSome
    large := [], fired := [], scan := none, failed := false, failPins := [], lost := false }

/-- FAULT (R289, R290). -/
def Dev.panelFault (d : Dev) (n : Nat) : Dev := (d.panelTo n .fault 4).raise Code.touchPanelFault n

/-- BASELINING from the first fitting frequency (R274). -/
def Dev.panelBaseline (d : Dev) (n : Nat) : Dev :=
  let f := (d.fitting n).headD 0
  (d.panelTo n .baselining 4).modPn n fun p => { p with cur := f, freqs := [], freqStart := d.now }

/-- The state an enabled panel takes with a usable head (R266, R267, R287, R289). -/
def Dev.panelStart (d : Dev) (n : Nat) : Dev :=
  if !d.rf O.panelEnable n then d.panelTo n .off 4
  else if !d.panelHeadOk n then (d.panelTo n .off 5).raise Code.touchNoHead n
  else if !d.holdsLead then d.panelTo n .standby 6
  else if (d.pn n).present then d.panelTo n .testing 4
  else d.panelTo n .absent 4

/-- The enable of head h has changed (R266): its panels go to OFF or leave it. -/
def Dev.touchHead (d : Dev) (h : Nat) : Dev :=
  (List.range 4).foldl (fun (d : Dev) n =>
    if d.rn O.panelHead n == h && d.rf O.panelEnable n then
      if !d.headOn h then if (d.pn n).state == .off then d else (d.panelTo n .off 5).raise Code.touchNoHead n
      else if (d.pn n).state == .off then d.panelStart n
      else d
    else d) d

/-- A frame of head h starts (R270): its panels enter or leave NO_QUIET; a current frequency that no longer fits or has
no baseline gives way to the first that does (DEDUCED, log 35). -/
def Dev.touchFrame (d : Dev) (h : Nat) : Dev :=
  (List.range 4).foldl (fun (d : Dev) n =>
    let p := d.pn n
    let fits := d.fitting n
    let based := fits.filter fun f => (p.fr f).base.isSome
    if d.rn O.panelHead n != h then d
    else if p.state == .baselining || p.state == .active || p.state == .noQuiet then
      if fits.isEmpty then
        if p.state == .noQuiet then d else (d.panelTo n .noQuiet 4).raise Code.touchQuietShort n
      else if p.state == .noQuiet then
        if based == fits then (d.panelTo n .active 4).modPn n fun p => { p with cur := fits.headD 0 } else d.panelBaseline n
      else if p.state == .active then
        if based.isEmpty then d.panelBaseline n
        else if based.contains p.cur then d else d.modPn n fun p => { p with cur := based.headD 0 }
      else d
    else d) d

/-- A write of true to panel[n].test (R289). -/
def Dev.panelTest (d : Dev) (n : Nat) : Dev :=
  let st := (d.pn n).state
  if st == .off || st == .absent || st == .standby then d else d.panelTo n .testing 4

/-- A commit has changed action regions (R285): holds on them are cancelled. -/
def Dev.regionsChanged (d : Dev) (rs : List Nat) : Dev :=
  (List.range 4).foldl (fun (d : Dev) n => d.cancelHolds n fun k => rs.contains k.region) d

/-- The unit no longer holds lead (R267): its panels stand by. -/
def Dev.touchStandby (d : Dev) : Dev :=
  (List.range 4).foldl (fun (d : Dev) n => if (d.pn n).state == .off then d else d.panelTo n .standby 6) d

/-- The unit gains lead (R267): every contact of the mirrored set is reported lifted with reason 6, every mirrored hold is
cancelled, and scanning goes on from the mirrored baselines where every fitting frequency has one. -/
def Dev.touchTake (d : Dev) : Dev :=
  (List.range 4).foldl (fun (d : Dev) n =>
    let p := d.pn n
    if p.state != .standby then d
    else
      let d := p.mirrored.foldl (fun (d : Dev) r => d.postTouch r 2 6) d
      let d := (d.cancelHolds n fun _ => true).modPn n fun p => { p with mirrored := [], contacts := [], holds := [] }
      let fits := d.fitting n
      if !p.present then d.panelTo n .absent 6
      else if fits.isEmpty then (d.panelTo n .noQuiet 6).raise Code.touchQuietShort n
      else if fits.all fun f => (p.fr f).base.isSome then
        (d.panelTo n .active 6).modPn n fun q => { q with cur := if fits.contains q.cur then q.cur else fits.headD 0 }
      else d.panelTo n .testing 6) d

end Sys2Proof.Machine
end

