-- ==== Sys2Proof/Machine/Touch.lean ====
section
/-! DEFINITION. The meanings of the touch commands (chapter 10): scans, holds, expiry, baselines, presence, the electrode
test. A scan is processed in the order of R286. -/

namespace Sys2Proof.Machine

/-! ### Taking scans (R268 to R271, R273) -/

/-- The frequency of the next scan: the one in capture, else the current one, every sixteenth scan without contacts
another fitting one in rotation. -/
def Dev.nextFreq (d : Dev) (n : Nat) : Nat :=
  let p := d.pn n
  let others := (d.fitting n).filter fun f => f != p.cur && (p.fr f).base.isSome
  if p.state == .active && (p.scanCount + 1) % 16 == 0 && p.contacts.isEmpty && !others.isEmpty then
    ((others.find? fun f => p.rot < f).getD (others.headD 0))
  else p.cur

/-- A scan starts: its sample time is 40 chips on (R268). -/
def Dev.startScan (d : Dev) (n : Nat) : Dev :=
  let f := d.nextFreq n
  d.modPn n fun p => { p with
    scan := some (f, d.now + 40000000 / d.hopFreq n f), scanCount := p.scanCount + 1
    rot := if f = p.cur then p.rot else f }

/-- Whether panel n takes scans at all. -/
def Dev.scanning (d : Dev) (n : Nat) : Bool :=
  d.alive && d.holdsLead && ((d.pn n).state == .baselining || (d.pn n).state == .active)

/-- Whether the next frame of panel n's head has a vertical scan before it: above 120 Hz only frames of even grid index. -/
def Dev.takesVertical (d : Dev) (n : Nat) : Bool :=
  let h := d.rn O.panelHead n
  let g := d.groupOf h
  d.rn O.gridRateNum g ≤ 120 * d.rn O.gridRateDen g * d.headDiv h ||
    match (d.hd h).nextStart with
    | some t => d.gridK g t % 2 == 0
    | none => false

/-- VERTICAL_SCAN_START (R269, R270). -/
def execVerticalScanStart (t : Nat) (n : Fin 4) (s : State) : Host.Outcome State Fault Refusal :=
  s.run t fun d => d.when (d.scanning n && d.takesVertical n) fun d => d.startScan n

/-- HORIZONTAL_SCAN_START (R269, R270). -/
def execHorizontalScanStart (t : Nat) (n : Fin 4) (s : State) : Host.Outcome State Fault Refusal :=
  s.run t fun d => d.when (d.scanning n && d.takesHorizontal n) fun d => d.startScan n

/-! ### Processing a scan (R286) -/

/-- What a good scan is processed with: panel, frequency, sample time, nodes, drive and sense counts, threshold. -/
structure ScanIn where
  n : Nat
  f : Nat
  at_ : Nat
  m : List (List Int)
  nd : Nat
  ns : Nat
  thr : Nat

/-- The electrodes a scan fault implicates are retired as open (R290); without any, or when R289 is not met, the panel is
in FAULT. Every hold is cancelled. -/
def Dev.scanLasting (d : Dev) (n : Nat) (pins : List Nat) (reason : Nat) : Dev :=
  let d := d.cancelHolds n fun _ => true
  let d := d.modPn n fun p => { p with
    failed := false, failPins := []
    openPins := (p.openPins ++ pins).eraseDups, retiredPins := (p.retiredPins ++ pins).eraseDups }
  let d := pins.foldl (fun (d : Dev) pin =>
    let own : Own := { code := Code.touchChannelRetired, p0 := n, p1 := pin }
    (d.raiseOwn own).noteLasting 13 pin own reason none 0 1) d
  if pins.isEmpty || !d.openOk n (d.pn n).openPins then d.panelFault n else d

/-- A failed scan (R290). -/
def Dev.scanFailed (d : Dev) (n : Nat) (pins : List Nat) : Dev :=
  let d := (d.modPn n fun p => { p with scan := none }).raise Code.touchScanFault n
  if (d.pn n).failed then d.scanLasting n pins 1
  else d.modPn n fun p => { p with failed := true, failPins := pins }

/-- The retry of a failed scan has passed (R290, R414). -/
def Dev.scanRetryOk (d : Dev) (n : Nat) : Dev :=
  let p := d.pn n
  if !p.failed then d
  else
    let d := (d.modPn n fun p => { p with failed := false, failPins := [] }).raise Code.touchScanTransient n
    let beyond := p.failPins.filter fun pin => d.transientOver 13 pin
    let d := (p.failPins.filter fun pin => !beyond.contains pin).foldl (fun (d : Dev) pin =>
      d.noteTransient 13 pin { code := Code.touchScanTransient, p0 := n }) d
    if beyond.isEmpty then d else d.scanLasting n beyond 2

/-- The baseline of the scan's frequency. -/
def Dev.baseOf (d : Dev) (x : ScanIn) : List (List Int) := ((d.pn x.n).fr x.f).base.getD x.m

/-- The deltas of a scan (R274). -/
def Dev.deltas (d : Dev) (x : ScanIn) : List (List Int) :=
  grid x.nd x.ns fun i j => nodeAt (d.baseOf x) i j - nodeAt x.m i j

/-- Set the baseline of some nodes to the scan's measurement. -/
def Dev.rebase (d : Dev) (x : ScanIn) (nodes : List (Nat × Nat)) : Dev :=
  let b := d.baseOf x
  let b' := grid x.nd x.ns fun i j => if nodes.contains (i, j) then nodeAt x.m i j else nodeAt b i j
  (d.modPn x.n fun p => { (p.modFr x.f fun r => { r with base := some b' }) with
    changed := p.changed ++ nodes.map fun q => (x.f, q.1, q.2) }).bump O.panelRebaselines x.n

/-- Regions of negative delta are re-baselined (R276). -/
def Dev.rebaseline (d : Dev) (x : ScanIn) : Dev :=
  let dl := d.deltas x
  let covered := (d.pn x.n).contacts.flatMap (·.blob)
  let free := (nodesOf x.nd x.ns).filter fun q => !covered.contains q
  let low := free.filter fun q => nodeAt dl q.1 q.2 ≤ -(x.thr : Int)
  let half := free.filter fun q => 2 * nodeAt dl q.1 q.2 < -(x.thr : Int)
  (components low.length low).foldl (fun (d : Dev) reg =>
    let grown := flood half.length reg (half.filter fun q => !reg.contains q)
    let set := free.filter fun q => grown.contains q || reg.any (near 1 q)
    (d.rebase x set).raise Code.baselineRecovered x.n set.length) d

/-- Whether a contact is expired at a scan with a sample time (R277): large objects and tracking, which come after expiry in
the order of R286, leave it to CONTACT_EXPIRY. -/
def Dev.expiring (d : Dev) (n at_ : Nat) (c : Contact) : Bool := c.down + d.rn O.panelExpiry n * sec ≤ at_

/-- The blobs of a scan that do not belong to a large object (R279): an owner of a large one is lifted with reason 3. -/
def Dev.rejectLarge (d : Dev) (x : ScanIn) (lost : Bool) : List Blob × Dev :=
  let r := (blobsOf (d.deltas x) x.nd x.ns x.thr).foldl (fun (st : List Blob × List (List (Nat × Nat)) × Dev) b =>
    let d := st.2.2
    let meets (l : List (Nat × Nat)) : Bool := l.any b.nodes.contains
    let old := (d.pn x.n).large.any meets
    let owners := (d.pn x.n).contacts.filter fun c => meets c.blob
    if owners.any (d.expiring x.n x.at_) then (st.1 ++ [b], st.2.1, d)
    else if old || (((x.thr : Int) ≤ b.peak || !owners.isEmpty) && d.largeBlob x.n b.nodes) then
      let d := owners.foldl (fun (d : Dev) c => if c.silent then d else d.postTouch c.record 2 3) d
      let d := d.modPn x.n fun p => { p with contacts := p.contacts.filter fun c => !meets c.blob }
      let d : Dev :=
        if old then d
        else
          let px := d.toPixel x.n b.u b.v
          let rec_ := (d.touchRecord x.n 0xFF (d.blobArea x.n b.nodes) b.peak.toNat px.1 px.2.1 px.2.2 x.at_ false 3).1
          (if lost then d else d.postTouch rec_ 3 0).raiseOnce sec x.n Code.touchLargeObject x.n
      (st.1, st.2.1 ++ [b.nodes], d)
    else (st.1 ++ [b], st.2.1, d)) ([], [], d)
  (r.1, r.2.2.modPn x.n fun p => { p with large := r.2.1 })

/-- Squared distance, in (µm · 256)², between a contact and a blob (R280). -/
def Dev.distSq (d : Dev) (n : Nat) (c : Contact) (b : Blob) : Nat :=
  let du := (b.u - c.u).natAbs * d.rn O.panelPitchSense n
  let dv := (b.v - c.v).natAbs * d.rn O.panelPitchDrive n
  du * du + dv * dv

/-- Matched pairs of contact and blob, taken in order of increasing distance, within 20 mm (R280). -/
def takePairs : List (Nat × Nat × Nat) → List (Nat × Nat) → List (Nat × Nat)
  | [], acc => acc
  | (_, c, k) :: r, acc => if acc.any (fun p => p.1 == c || p.2 == k) then takePairs r acc else takePairs r (acc ++ [(c, k)])

/-- See `takePairs`. -/
def Dev.matches (d : Dev) (x : ScanIn) (bs : List Blob) : List (Nat × Nat) :=
  let cands := (d.pn x.n).contacts.flatMap fun c => (bs.zipIdx).filterMap fun (b, k) =>
    let q := d.distSq x.n c b
    if 6 * (x.thr : Int) ≤ 10 * b.peak && q ≤ (20000 * 256) ^ 2 then some (q, c.id, k) else none
  takePairs (sortBy (fun a b => a.1 ≤ b.1) cands) []

/-- A contact placed on a blob: position, pixel, record with its hold flag, state of the layer under it. -/
def Dev.placeContact (d : Dev) (x : ScanIn) (c : Contact) (b : Blob) (event : Nat) : Contact :=
  let px := d.toPixel x.n b.u b.v
  let holding := (d.pn x.n).holds.any fun k => k.contact == c.id && k.doneAt.isNone
  let r := d.touchRecord x.n c.id (d.blobArea x.n b.nodes) b.peak.toNat px.1 px.2.1 px.2.2 x.at_ holding event
  { c with u := b.u, v := b.v, blob := b.nodes, x := px.1, y := px.2.1, off := px.2.2, lstate := r.2, record := r.1 }

/-- A tracked contact has moved to a blob; a move of 2 px or a change of the layer's state is reported (R283). -/
def Dev.moveContact (d : Dev) (x : ScanIn) (c : Contact) (b : Blob) : Dev :=
  let c' := d.placeContact x c b 1
  let moved := 2 ≤ (c'.x - c.shownX).natAbs || 2 ≤ (c'.y - c.shownY).natAbs || c'.lstate != c.lstate
  let c' := if moved then { c' with shownX := c'.x, shownY := c'.y } else c'
  let d := d.modPn x.n fun p => { p with
    contacts := p.contacts.map fun q => if q.id = c.id then c' else q
    holds := p.holds.map fun k => if k.contact = c.id && k.doneAt.isNone then { k with record := c'.record } else k }
  if moved && !c.silent then d.postTouch c'.record 1 0 else d

/-- A new touch takes the lowest free identity (R280); with a lost head it is tracked silently (R288). -/
def Dev.newContact (d : Dev) (x : ScanIn) (lost : Bool) (b : Blob) : Dev :=
  match (List.range 10).find? fun i => !((d.pn x.n).contacts.any fun c => c.id == i) with
  | none => d.raiseOnce sec x.n Code.touchContactsFull x.n
  | some i =>
    let c : Contact := { id := i, u := 0, v := 0, down := x.at_, blob := [], silent := lost, x := 0, y := 0, off := false,
                         shownX := 0, shownY := 0, lstate := 0, record := [] }
    let c := d.placeContact x c b 0
    let c := { c with shownX := c.x, shownY := c.y }
    let d := d.modPn x.n fun p => { p with contacts := sortBy (fun a b => a.id ≤ b.id) (p.contacts ++ [c]) }
    if lost then d else d.postTouch c.record 0 0

/-- Regions whose contacts have lifted arm again (R285). -/
def Dev.rearm (d : Dev) (n : Nat) : Dev :=
  let cs := (d.pn n).contacts
  let fired := (d.pn n).fired.filterMap fun p =>
    let rg := d.actionRegion p.1
    let left := p.2.filter fun i => cs.any fun c => c.id == i
    if left.isEmpty && !(cs.any fun c => !c.off && rg.holdsPx c.x c.y) then none else some (p.1, left)
  d.modPn n fun p => { p with fired := fired }

/-- Holds after tracking (R285): cancelled when the contact is gone or has left the rectangle, completed when the sample
time reaches the length. -/
def Dev.runHolds (d : Dev) (x : ScanIn) : Dev :=
  let bad (k : Hold) : Bool := match (d.pn x.n).contacts.find? fun c => c.id == k.contact && c.down == k.down with
    | none => true
    | some c => c.off || !((d.actionRegion k.region).holdsPx c.x c.y)
  let d := d.cancelHolds x.n bad
  d.modPn x.n fun p => { p with holds := p.holds.map fun k =>
    if k.doneAt.isNone && k.down + k.length ≤ x.at_ then { k with doneAt := some x.at_ } else k }

/-- Tracking and actions (R280, R285, R286). -/
def Dev.track (d : Dev) (x : ScanIn) (bs : List Blob) (lost : Bool) : Dev :=
  let pairs := d.matches x bs
  let stays (c : Contact) : Bool := (pairs.any fun p => p.1 == c.id) || d.expiring x.n x.at_ c
  let gone := (d.pn x.n).contacts.filter fun c => !stays c
  let d := gone.foldl (fun (d : Dev) c => if c.silent then d else d.postTouch c.record 2 1) d
  let d := d.modPn x.n fun p => { p with contacts := p.contacts.filter stays }
  let d := (d.pn x.n).contacts.foldl (fun (d : Dev) c =>
    match (pairs.find? fun p => p.1 == c.id).bind fun p => bs[p.2]? with
    | some b =>
      if d.expiring x.n x.at_ c then d.modPn x.n fun p => { p with
        contacts := p.contacts.map fun q => if q.id = c.id then { q with blob := b.nodes } else q }
      else d.moveContact x c b
    | none => d) d
  let d := d.rearm x.n
  let fresh := ((bs.zipIdx).filter fun (b, k) => (x.thr : Int) ≤ b.peak && !(pairs.any fun p => p.2 == k)).map (·.1)
  let d := fresh.foldl (fun (d : Dev) b => d.newContact x lost b) d
  let d := d.runHolds x
  ((d.pn x.n).contacts.filter fun c => c.down == x.at_ && !c.silent).foldl (fun (d : Dev) c =>
    match d.regionAt x.n c.x c.y c.off with
    | some r => d.touchDown x.n r c
    | none => d) d

/-- Baselines follow slowly (R275), and the residual's sums of the scan are kept (R292). -/
def Dev.drift (d : Dev) (x : ScanIn) : Dev :=
  let dl := d.deltas x
  let b := d.baseOf x
  let covered := (d.pn x.n).contacts.flatMap (·.blob)
  let far := (nodesOf x.nd x.ns).filter fun q => !(covered.any (near 2 q))
  let b' := grid x.nd x.ns fun i j =>
    let v := nodeAt dl i j
    if far.contains (i, j) && 2 * v.natAbs ≤ x.thr then nodeAt b i j + clampI (-1) 1 ((-v).tdiv 64) else nodeAt b i j
  let sum := sumL (far.map fun q => (nodeAt dl q.1 q.2).natAbs ^ 2)
  d.modPn x.n fun p => { (p.modFr x.f fun r => { r with base := some b' }) with
    resid := ((sum, far.length) :: p.resid).take 120 }

/-- The quietest of some frequencies, with its noise. -/
def Panel.quietest (p : Panel) (ns : Nat) (fs : List Nat) : Option Nat :=
  fs.foldl (fun best f =>
    let s := (p.fr f).noiseSq ns
    if s.2 = 0 then best
    else match best with
      | none => some f
      | some b => let q := (p.fr b).noiseSq ns; if s.1 * q.2 < q.1 * s.2 then some f else some b) none

/-- Frequency hopping (R273). -/
def Dev.hop (d : Dev) (x : ScanIn) : Dev :=
  let p := d.pn x.n
  let c := (p.fr p.cur).noiseSq x.ns
  let fits := (d.fitting x.n).filter fun f => (p.fr f).base.isSome
  match p.quietest x.ns fits with
  | none => d
  | some q =>
    let nq := (p.fr q).noiseSq x.ns
    let rested : Bool := match p.lastHop with
      | some t => t + sec ≤ d.now
      | none => true
    let d := if x.thr * x.thr * c.2 < 16 * c.1 && 4 * nq.1 * c.2 ≤ c.1 * nq.2 && rested && q != p.cur then
        ((d.modPn x.n fun p => { p with cur := q, lastHop := some d.now }).bump O.panelHops x.n).raise Code.touchHop x.n
      else d
    if x.thr * x.thr * nq.2 < 4 * nq.1 then d.raiseOnce (60 * sec) x.n Code.touchNoisy x.n else d

/-- The loss and the return of the head (R288). -/
def Dev.checkHead (d : Dev) (n : Nat) (lost : Bool) : Dev :=
  let d := if lost && !(d.pn n).lost then
      (d.liftAll n 5).modPn n fun p => { p with contacts := p.contacts.map fun c => { c with silent := true } }
    else d
  d.modPn n fun p => { p with lost := lost }

/-- What a scan reports carries its sample time (Table 10-2): the records of contacts and of running holds take it. -/
def Dev.stampRecords (d : Dev) (n at_ : Nat) : Dev :=
  let stamp (r : Bytes) : Bytes := r.take 20 ++ le 8 at_ ++ r.drop 28
  d.modPn n fun p => { p with
    contacts := p.contacts.map fun c => { c with record := stamp c.record }
    holds := p.holds.map fun k => if k.doneAt.isNone then { k with record := stamp k.record } else k }

/-- A good scan of an active panel. -/
def Dev.activeScan (d : Dev) (x : ScanIn) : Dev :=
  let lost := d.headLost x.n
  let d := ((d.stampRecords x.n x.at_).checkHead x.n lost).rebaseline x
  let r := d.rejectLarge x lost
  ((r.2.track x r.1 lost).drift x).hop x

/-- The next fitting frequency's capture begins; after the last the panel is ACTIVE (R274). -/
def Dev.nextCapture (d : Dev) (n : Nat) : Dev :=
  let fits := d.fitting n
  match fits.find? fun f => (d.pn n).cur < f with
  | some f => d.modPn n fun p => { p with cur := f, freqStart := d.now }
  | none => (d.modPn n fun p => { p with state := .active, cur := fits.headD 0 }).raise Code.touchPanelActive n

/-- A good scan of a panel in BASELINING (R274). -/
def Dev.captureScan (d : Dev) (x : ScanIn) (noise : Nat) : Dev :=
  let p := d.pn x.n
  let r := p.fr x.f
  let still : Bool := match r.prev with
    | none => true
    | some q => (nodesOf x.nd x.ns).all fun c => 4 * (nodeAt x.m c.1 c.2 - nodeAt q c.1 c.2).natAbs ≤ x.thr
  let quiet := if 16 * noise ≤ x.thr * x.thr * x.ns && still then r.quiet ++ [x.m] else []
  let d := d.modPn x.n fun p => p.modFr x.f fun r => { r with quiet := quiet, recent := (x.m :: r.recent).take 3 }
  if x.f = p.cur && 3 ≤ quiet.length then
    (d.modPn x.n fun p => p.modFr x.f fun r => { r with
      base := some (meanScan x.nd x.ns (quiet.take 3)), quiet := [] }).nextCapture x.n
  else d

/-- SCAN_COMPLETE (R272 to R286, R288, R290, R292). -/
def execScanComplete (t : Nat) (n : Fin 4) (scan : ScanData) (s : State) : Host.Outcome State Fault Refusal :=
  s.run t fun d => d.when (d.scanning n) fun d =>
    match (d.pn n).scan with
    | none => d
    | some (f, at_) =>
      if !scan.good then d.scanFailed n scan.badPins
      else
        let d := (d.modPn n fun p => { p with scan := none, lastScan := some (f, at_) }).scanRetryOk n
        if !d.scanning n then d
        else
          let x : ScanIn := ⟨n, f, at_, d.mendOpen n scan.nodes, (d.drives n).length, (d.senses n).length, d.rn O.panelThreshold n⟩
          let noise := sumL (scan.listen.map fun v => v.natAbs ^ 2)
          let d := (d.modPn n fun p => p.modFr f fun r => { r with noise := (noise :: r.noise).take 16 }).bump O.panelScans n
          let d := if (d.pn n).state == .baselining then d.captureScan x noise else d.activeScan x
          d.modPn n fun p => p.modFr f fun r => { r with prev := some x.m }

/-! ### Holds, expiry, forced baselines -/

/-- HOLD_COMPLETE (R285): a hold whose completing scan has been processed fires with that scan's sample time. -/
def execHoldComplete (t : Nat) (n : Fin 4) (region : Fin 256) (s : State) : Host.Outcome State Fault Refusal :=
  s.run t fun d => d.when d.alive fun d =>
    match (d.pn n).holds.find? fun k => k.region == region.val && k.doneAt.isSome with
    | none => d
    | some k =>
      (d.modPn n fun p => { p with holds := p.holds.filter fun h => h.region != region.val }).fireRegion n region k.record
        k.down (k.doneAt.getD 0) true

/-- CONTACT_EXPIRY (R277): the contact is lifted with reason 2; its blob and the nodes within 1 pitch are re-baselined to
the last scan. -/
def execContactExpiry (t : Nat) (n : Fin 4) (contact : Fin 10) (s : State) : Host.Outcome State Fault Refusal :=
  s.run t fun d => d.when (d.scanning n) fun d =>
    let p := d.pn n
    match p.contacts.find? (fun c => c.id == contact.val), p.lastScan with
    | some c, some (f, at_) =>
      if d.expiring n at_ c then
        let nd := (d.drives n).length
        let ns := (d.senses n).length
        let x : ScanIn := ⟨n, f, at_, (p.fr f).prev.getD [], nd, ns, d.rn O.panelThreshold n⟩
        let d := if c.silent then d else d.postTouch c.record 2 2
        let d := d.modPn n fun p => { p with contacts := p.contacts.filter fun q => q.id != c.id }
        let d := ((d.cancelHolds n fun k => k.contact == c.id).rebase x
          ((nodesOf nd ns).filter fun q => c.blob.any (near 1 q))).raise Code.touchExpired n
        d.rearm n
      else d
    | _, _ => d

/-- BASELINE_TIMEOUT (R274): 2 s without 3 quiet scans; the baseline is the mean of the last 3 scans. -/
def execBaselineTimeout (t : Nat) (n : Fin 4) (s : State) : Host.Outcome State Fault Refusal :=
  s.run t fun d => d.when (d.scanning n) fun d =>
    let p := d.pn n
    let r := p.fr p.cur
    if p.state == .baselining && p.freqStart + 2 * sec ≤ d.now && !r.recent.isEmpty then
      let b := meanScan (d.drives n).length (d.senses n).length r.recent
      ((d.modPn n fun p => p.modFr p.cur fun r => { r with base := some b, quiet := [] }).raise Code.touchBaselineForced
        n).nextCapture n
    else d

/-! ### Presence and the electrode test (R287, R289) -/

/-- PDET_PRESENT. -/
def execPdetPresent (t : Nat) (n : Fin 4) (s : State) : Host.Outcome State Fault Refusal :=
  s.run t fun d => d.when (d.alive && !(d.pn n).present) fun d =>
    let d := d.modPn n fun p => { p with present := true }
    if (d.pn n).state == .absent then (d.raise Code.touchPanelPresent n).panelTo n .testing 4 else d

/-- PDET_ABSENT. -/
def execPdetAbsent (t : Nat) (n : Fin 4) (s : State) : Host.Outcome State Fault Refusal :=
  s.run t fun d => d.when (d.alive && (d.pn n).present) fun d =>
    let d := d.modPn n fun p => { p with present := false }
    let st := (d.pn n).state
    if st == .off || st == .standby || st == .absent then d
    else (d.panelTo n .absent 4).raise Code.touchPanelAbsent n

/-- ELECTRODE_TEST_COMPLETE (R289): below 5 pF an electrode is open; a retired channel stays so until a reset (R290, R412). -/
def execElectrodeTestComplete (t : Nat) (n : Fin 4) (capFf : List (Nat × Nat)) (s : State) :
    Host.Outcome State Fault Refusal :=
  s.run t fun d => d.when (d.alive && (d.pn n).state == .testing) fun d =>
    let pins := ((d.drives n) ++ (d.senses n)).map (·.2)
    let open_ := pins.filter fun pin => capFf.any fun c => c.1 == pin && c.2 < 5000
    let d := open_.foldl (fun (d : Dev) pin => d.raise Code.touchElectrodeOpen n pin) d
    let d := d.modPn n fun p => { p with openPins := (open_ ++ p.retiredPins).eraseDups }
    if d.openOk n (d.pn n).openPins then d.panelBaseline n else d.panelFault n

end Sys2Proof.Machine
end

