-- ==== Sys2Proof/Machine/UnitOps.lean ====
section
/-! DEFINITION. The unit inventory (R410, R411), the health report (R425), lasting faults by kind, self-tests (R417, R421 to
R423). -/

namespace Sys2Proof.Machine

/-! ### Units (Table 15-1) -/

/-- Units built of a kind; 0 for kind 10, which has no instances. -/
def kindBuilt (k : Nat) : Nat := [0, 9, 4, 1, 9, 5, 18, 306, 68, 16, 0, 64, 4, 256, 4, 2, 1, 1, 1, 8, 32].getD k 0

/-- Kinds and instances that Table 15-1 has. -/
def unitExists (k i : Nat) : Bool := i < kindBuilt k

/-- The state of a unit. -/
def Dev.unitState (d : Dev) (k i : Nat) : UnitState :=
  let proc (c : Nat) : UnitState := if (d.proc c).state = 1 then .spare else if (d.proc c).state = 2 then .retired else .active
  let gone (b : Bool) : UnitState := if b then .retired else .active
  if k = 1 then proc i
  else if k = 2 then proc (9 + i)
  else if k = 3 then proc 13
  else if k = 4 then d.engState i
  else if k = 5 then (d.ee i).state
  else if k = 6 then d.pipeState i
  else if k = 7 then
    if d.pipeState (i / 17) == .fusedOff then .fusedOff
    else if d.health.retired.contains (7, i) then .retired
    else if i % 17 = 16 && (d.pp (i / 17)).bankUsed.isNone then .spare else .active
  else if k = 8 then
    if d.bivouac.retired.contains i then .retired else if d.bivouac.spares.contains i then .spare else .active
  else if k = 9 then .active
  else if k = 11 then gone (d.allHeads.any fun h => (d.lk h).failed.any fun j => headLane h j == i)
  else if k = 12 then gone (d.rope.lostLanes.contains i)
  else if k = 13 then gone ((List.range 4).any fun n => (d.pn n).retiredPins.contains i)
  else if k = 20 then if i < d.gradeHeads then gone (d.health.retired.contains (20, i)) else .fusedOff
  else gone (tget 0 d.health.dmaFault (unitKey k i) != 0)

/-- How many units of a kind are in a state. -/
def Dev.unitCount (d : Dev) (k : Nat) (st : UnitState) : Nat :=
  ((List.range (kindBuilt k)).filter fun i => d.unitState k i == st).length

/-- The streams and heads that are shed. -/
def Dev.shedStreams (d : Dev) : List Nat := d.allStreams.filter fun s => (d.cx s).state == .shed
/-- See `shedStreams`. -/
def Dev.shedHeads (d : Dev) : List Nat := d.allHeads.filter fun h => (d.hd h).shed

/-- The spare rows left in the whole memory (R425). -/
def Dev.spareRows (d : Dev) : Nat :=
  sumL ((List.range 16).flatMap fun c => (List.range d.mem.ranks).flatMap fun r => (List.range 16).map fun b =>
    (d.sparesFree c r b).length)

/-- The health report (R425). -/
def Dev.healthReport (d : Dev) : Bytes :=
  let trans := (d.health.transients.filter fun t => d.now < t.2.2 + day).length
  let row (k : Nat) : Bytes :=
    if k = 10 then [10, 0] ++ le 2 d.spareRows ++ zeros 8
    else [byteOf k, 0] ++ le 2 (kindBuilt k) ++ le 2 (d.unitCount k .active) ++ le 2 (d.unitCount k .spare) ++
      le 2 (d.unitCount k .retired) ++ le 2 (d.health.tests.filter fun b => b.kind == k).length
  le 4 d.pitch ++ le 4 trans ++ le 4 d.health.lasting ++ zeros 4 ++ (List.range 20).flatMap fun i => row (i + 1)

/-- health.retired (Table 15-8): for each kind in order, ceil(built / 32) words. -/
def Dev.retiredWords (d : Dev) : Bytes :=
  (List.range 20).flatMap fun i =>
    let k := i + 1
    (List.range (cdiv (kindBuilt k) 32)).flatMap fun w =>
      le 4 (mask ((List.range 32).filter fun b => unitExists k (32 * w + b) && d.unitState k (32 * w + b) == .retired))

/-- The health summary (Table 14-4). -/
def Dev.healthSummary (d : Dev) : Bytes :=
  let n (k : Nat) (st : UnitState) : Byte := byteOf (d.unitCount k st)
  [n 6 .active, n 6 .spare, n 4 .active, n 4 .spare, n 5 .active, n 5 .spare, n 1 .active, n 1 .spare,
    byteOf d.shedHeads.length, byteOf d.shedStreams.length] ++ be 2 d.health.lastLasting ++
    be 4 (min 0xFFFFFFFF d.health.lasting) ++ be 4 (d.twin.mismLog.filter fun t => d.now < t + sec).length ++
    be 4 (min 0xFFFFFFFF d.health.bistFails) ++ zeros 4

/-! ### Lasting faults by kind (R413, R423) -/

/-- Channel and head of a spare: a failing spare is retired as a spare (R423); nothing takes its place. -/
def Dev.spareLasting (d : Dev) (k i reason : Nat) : Dev :=
  let own : Own := { code := Code.bistFail, p0 := k, p1 := i }
  let d := if k = 1 then d.modProc i fun p => { p with state := 2 }
    else if k = 4 then (d.modEng i fun x => { x with state := .retired }).setN O.decodeSpareState 0 0
    else if k = 5 then (d.modEe i fun x => { x with state := .retired }).setN O.encodeSpareState 0 0
    else if k = 6 then d.modPp i fun x => { x with state := .retired }
    else if k = 7 then (d.modPp (i / 17) fun x => { x with bankUsed := some 16 }).setN O.pipeLinestoreSpare (i / 17) 0
    else d.modBiv fun b => { b with retired := b.retired ++ [i], spares := b.spares.filter (· != i) }
  let d := { d.recordRetired k i with health := { (d.recordRetired k i).health with
    lasting := d.health.lasting + 1, lastLasting := own.code } }
  (d.logFault 1 k i own reason 1 0xFFFF).raise Code.healthLasting k i own.code 0xFFFFFFFF

/-- A head output stage is retired: the head is shed (Table 15-1). -/
def Dev.retireStage (d : Dev) (h reason : Nat) : Dev :=
  let own : Own := { code := Code.healthHeadShed, p0 := h, p1 := d.rn O.headPriority h }
  ((d.recordRetired 20 h).noteLasting 20 h own reason none 0 9).shedHead h 20

/-- A DMA engine, the wipe-and-scrub engine or a check-value unit is out of use (Table 15-1): the ports of a ring engine
act as under link down, a general engine's work goes to the other, without the rope engine the rope carries no data,
without the touch engine every panel is in FAULT, without the scrub engine scrubbing stops. -/
def Dev.engineLasting (d : Dev) (k i reason : Nat) : Dev :=
  let own : Own := { p0 := k, p1 := i }
  let d := { d with health := { d.health with dmaFault := tset d.health.dmaFault (unitKey k i) 1 } }
  let d := d.noteLasting k i own reason none 0 1
  if k = 14 then d.linkDown i
  else if k = 17 then (List.range 4).foldl (fun (d : Dev) n =>
      if (d.pn n).state == .off || (d.pn n).state == .absent then d else d.panelFault n) d
  else d

/-- A unit's fault is lasting, found by a self-test (R423) or a cross-check (R406). -/
def Dev.unitLasting (d : Dev) (k i reason : Nat) : Dev :=
  if d.unitState k i == .spare && (k == 1 || (4 ≤ k && k ≤ 8)) then d.spareLasting k i reason
  else if d.unitState k i != .active then d
  else if k = 1 then d.retireCore i reason
  else if k = 2 then d.retireController (9 + i) reason
  else if k = 3 then d.procLasting 13 reason
  else if k = 4 then d.retireEngine i reason
  else if k = 5 then d.retireEnc i reason
  else if k = 6 then d.retirePipe i reason
  else if k = 7 then d.pipeLasting (i / 17) reason (some (i % 17))
  else if k = 8 then d.retireBank i reason
  else if k = 20 then d.retireStage i reason
  else if 14 ≤ k && k ≤ 19 then d.engineLasting k i reason
  else d.noteLasting k i { code := Code.bistFail, p0 := k, p1 := i } reason none 0 1

/-! ### Self-tests -/

/-- Start a self-test of a unit: `why` 0 rotation, 1 health.test, 2 cross-check, 3 retest. -/
def Dev.startTest (d : Dev) (k i why : Nat) : Dev :=
  if d.health.tests.any fun b => b.kind == k && b.inst == i then d
  else { d with health := { d.health with tests := d.health.tests ++ [⟨k, i, why, 0, false⟩] } }

/-- Change or end the test of a unit. -/
def Dev.setTest (d : Dev) (k i : Nat) (f : Bist → Option Bist) : Dev :=
  { d with health := { d.health with tests := d.health.tests.filterMap fun b => if b.kind == k && b.inst == i then f b else some b } }

/-- A retest run ends (R417): the second pass restores the unit from the next reset on, a failure ends the retest. -/
def Dev.retestDone (d : Dev) (b : Bist) (pass : Bool) : Dev :=
  let k := b.kind; let i := b.inst
  if !pass then
    let d := d.setTest k i fun _ => none
    ({ d with health := { d.health with bistFails := d.health.bistFails + 1 } }).raise Code.bistFail k i
  else if b.passes = 0 then d.setTest k i fun x => some { x with passes := 1 }
  else
    let d := d.setTest k i fun _ => none
    ({ d with health := { d.health with restored := d.health.restored ++ [(k, i)] } }).restored 0 k i

/-- A self-test run ends (R421 to R423). -/
def Dev.testDone (d : Dev) (b : Bist) (pass : Bool) : Dev :=
  let k := b.kind; let i := b.inst
  let d := d.bump O.healthBistRuns
  if b.why = 3 then d.retestDone b pass
  else if !b.again then d.setTest k i fun x => if pass then none else some { x with again := true }
  else
    let d := d.setTest k i fun _ => none
    let own : Own := { code := Code.bistTransient, p0 := k, p1 := i }
    if pass then (d.raise Code.bistTransient k i).noteTransient k i own 3
    else
      let d := { d with health := { d.health with bistFails := d.health.bistFails + 1 } }
      (d.raise Code.bistFail k i).unitLasting k i (if b.why = 2 then 4 else 3)

/-- The next spare of a kind in rotation (R421). -/
def Dev.rotateKind (d : Dev) (k : Nat) : Dev :=
  let sp := (List.range (kindBuilt k)).filter fun i => d.unitState k i == .spare
  let last := tfind d.health.rotation k
  let next := (sp.find? fun i => last.all fun l => l < i).or sp.head?
  match next with
  | none => d
  | some i => ({ d with health := { d.health with rotation := tset d.health.rotation k i } }).startTest k i 0

/-- The kinds whose spares are tested in rotation. -/
def rotationKinds : List Nat := [1, 4, 5, 6, 7, 8]

/-- Kind and instance of a health.test or health.retest value. -/
def testKind (v : Nat) : Nat := v % 256
/-- See `testKind`. -/
def testInst (v : Nat) : Nat := v / 65536

end Sys2Proof.Machine
end

