-- ==== Sys2Proof/Machine/TwinOps.lean ====
section
/-! DEFINITION. Twin operation (R382 to R396), its operations: Anchor messages on their paths, the Anchor's decisions, taking
and giving up lead, the lease and the fence. -/

namespace Sys2Proof.Machine

/-- Change the twin state. -/
def Dev.modTwin (d : Dev) (f : Twin → Twin) : Dev := { d with twin := f d.twin }

/-- Change the Anchor. -/
def Dev.modAnchor (d : Dev) (f : Anchor → Anchor) : Dev := { d with anchor := f d.anchor }

/-- The codes of Table 14-1 and of twin.role. -/
def Role.code : Role → Nat
  | .alone => 0 | .starting => 1 | .second => 2 | .cold => 3 | .lead => 4 | .withdrawn => 5 | .anchor => 6

/-- A member of a pair. -/
def Dev.isMember (d : Dev) : Bool :=
  d.twin.role != .alone && d.twin.role != .anchor

/-- The serial number of this unit. -/
def Dev.serial (d : Dev) : Nat := d.rn O.identitySerialNumber

/-- A member in Service state (R429). -/
def Dev.inService (d : Dev) : Bool := d.power.life == 3

/-- The role a BEAT carries (R429). -/
def Dev.beatRole (d : Dev) : Nat := if d.inService then 3 else d.twin.role.code

/-! ### Messages (R387, R388) -/

/-- The common part and the rest of a body; at 0xFFFFFFFF the sender draws a new boot_id. -/
def Dev.anchorBody (d : Dev) (epoch : Nat) (rest : Bytes) : Bytes × Dev :=
  let b := be 8 d.serial ++ be 4 d.twin.bootId ++ be 4 d.twin.msgSeq ++ be 4 epoch ++ fit 28 rest
  if d.twin.msgSeq < 0xFFFFFFFF then (b, d.modTwin fun x => { x with msgSeq := x.msgSeq + 1 })
  else (b, d.fresh.2.modTwin fun x => { x with bootId := d.fresh.1 % (2 ^ 32 - 1) + 1, msgSeq := 1 })

/-- The identifier of a CAN frame of unit u, from the Anchor or to it. -/
def anchorCanId (u typ : Nat) (fromAnchor : Bool) : Nat := (if fromAnchor then 0x6E0 else 0x6C0) + 16 * u + (typ - 0x40)

/-- The tag of a CAN frame (R388). -/
def Dev.anchorTag (d : Dev) (id : Nat) (body : Bytes) : Bytes := (hmac (d.rb O.qdpPeerKey 0 1) (be 2 id ++ body)).take 16

/-- The CAN ports of twin.anchor_path. -/
def Dev.anchorCans (d : Dev) : List Nat := (List.range 2).filter fun p => bit (d.rn O.twinAnchorPath) (p + 1) && d.canUp p

/-- A body as CAN frames of the paths. -/
def Dev.sendAnchorCan (d : Dev) (id : Nat) (body : Bytes) : Dev :=
  d.anchorCans.foldl (fun (d : Dev) p => d.emit (.can ⟨p, id, body ++ d.anchorTag id body⟩)) d

/-- A member sends a message to the Anchor on every path. -/
def Dev.sendAnchor (d : Dev) (typ epoch : Nat) (rest : Bytes) : Dev :=
  let r := d.anchorBody epoch rest
  let d := r.2
  let d := match d.peerSession 0x41 with
    | some se => if bit (d.rn O.twinAnchorPath) 0 then d.sendQdp se 9 typ r.1 else d
    | none => d
  d.sendAnchorCan (anchorCanId (d.rn O.twinUnitId) typ false) r.1

/-- Member u as the Anchor sees it. -/
def Dev.member (d : Dev) (u : Nat) : Member := tget {} d.anchor.members u
/-- Change member u. -/
def Dev.modMember (d : Dev) (u : Nat) (f : Member → Member) : Dev :=
  d.modAnchor fun a => { a with members := tset a.members u (f (d.member u)) }

/-- The serial of member u (twin.pair_serials). -/
def Dev.pairSerial (d : Dev) (u : Nat) : Nat := leAt (d.rb O.twinPairSerials) (8 * u) 8

/-- The unit of a serial. -/
def Dev.unitOfSerial (d : Dev) (s : Nat) : Option Nat := [0, 1].find? fun u => s != 0 && d.pairSerial u == s

/-- The Anchor sends a message to member u on every path. -/
def Dev.anchorSend (d : Dev) (u typ : Nat) (rest : Bytes) : Dev :=
  let r := d.anchorBody d.anchor.e rest
  let d := r.2
  let d := match (d.member u).session.bind d.sessionOf with
    | some se => if bit (d.rn O.twinAnchorPath) 0 && se.phase == 1 then d.sendQdp se 9 typ r.1 else d
    | none => d
  d.sendAnchorCan (anchorCanId u typ true) r.1

/-- The last message number accepted from a sender: boot_id, msg_seq, the last change of boot_id. -/
def Dev.bootOf (d : Dev) (serial : Nat) : Option (Nat × Nat × Nat) :=
  (d.twin.bootSeen.find? fun b => b.1 == serial).map (·.2)

/-- Whether a message is the first valid copy (R388): `can` for a CAN frame. -/
def Dev.anchorFresh (d : Dev) (body : Bytes) (can : Bool) : Bool :=
  let boot := beAt body 8 4
  let q := beAt body 12 4
  match d.bootOf (beAt body 0 8) with
  | none => !can || (1 ≤ q && q ≤ 64)
  | some (b, last, at_) =>
    if b = boot then last < q else !can || (1 ≤ q && q ≤ 64 && at_ + 10 * sec ≤ d.now)

/-- Remember a message as accepted. -/
def Dev.anchorTook (d : Dev) (body : Bytes) : Dev :=
  let s := beAt body 0 8
  let boot := beAt body 8 4
  let at_ := match d.bootOf s with
    | some (b, _, a) => if b = boot then a else d.now
    | none => d.now
  d.modTwin fun x => { x with bootSeen :=
    (s, boot, beAt body 12 4, at_) :: x.bootSeen.filter fun (y : Nat × Nat × Nat × Nat) => y.1 != s }

/-- A received Anchor message on either path (R388); `f` acts on its body and the session it came in. A member takes
messages from the Anchor, a unit in twin.mode 2 those of its pair. -/
def Dev.anchorIn (d : Dev) (m : AnchorMsg) (typ : Nat) (f : Dev → Bytes → Option Nat → Dev) : Dev :=
  let isAnchor := d.twin.role == .anchor
  if d.twin.role == .alone then d
  else match m with
  | .qdp p addr dgram =>
    d.qdpIn p addr dgram typ false fun d se g =>
      match se with
      | some x =>
        if x.role = 0x41 && x.peer != isAnchor && d.anchorFresh g.body false then f (d.anchorTook g.body) g.body (some x.id)
        else d
      | none => d
  | .can p id data =>
    let body := data.take 48
    let u := if isAnchor then (d.unitOfSerial (beAt body 0 8)).getD 0xFF else d.rn O.twinUnitId
    if d.anchorCans.contains p.val && data.length == 64 && id == anchorCanId u typ (!isAnchor) &&
        data.drop 48 == d.anchorTag id body && d.anchorFresh body true then f (d.anchorTook body) body none
    else d

/-! ### The Anchor (R390) -/

/-- The key of the Anchor's E in the journal area. -/
abbrev anchorKey : Nat := 0x3000000

/-- A ticket for an append to the boot flash, with the response that waits for it. -/
def Dev.journalPend (d : Dev) (es : List JEntry) (session : Option (Nat × Nat × Bytes)) (can : Option Nat) (body : Bytes)
    (close : List Nat := []) (after : Option Nat := none) : Dev :=
  let x : JPend := ⟨d.dict.nextTicket, es, session, can, body, close, after⟩
  { d with dict := { d.dict with jpend := d.dict.jpend ++ [x], nextTicket := d.dict.nextTicket + 1 } }

/-- A GRANT to member u (Table 14-3). -/
def Dev.sendGrant (d : Dev) (u : Nat) : Dev :=
  let r := (d.member u).role
  d.anchorSend u 0x43 ([if r = 1 || r = 3 || r = 5 then 1 else 0, 0, 0, 0] ++ be 8 (d.pairSerial u))

/-- Grant E + 1 to member u: E goes to the flash first, and the GRANT leaves when that append is done. -/
def Dev.grantTo (d : Dev) (u : Nat) : Dev :=
  let d := d.modAnchor fun a => { a with
    e := a.e + 1, lead := d.pairSerial u, lastGrant := some (d.now, u), granting := none, released := none, window := none }
  let d := d.modMember u fun m => { m with requested := none }
  (d.setN O.twinLeadSerial 0 d.anchor.lead).journalPend
    [⟨anchorKey, .num d.anchor.e, []⟩] none none []

/-- The member the rules grant to now, if any. -/
def Dev.grantee (d : Dev) : Option Nat :=
  let a := d.anchor
  let here (u : Nat) : Bool := (d.member u).present
  let held := match a.lastGrant with
    | some (t, u) => d.now < t + 100000000 && here u
    | none => false
  if 0xFFFFFFFE ≤ a.e || held then none
  else if a.lead = 0 then
    match a.window with
    | some w => if w + 100000000 ≤ d.now then [0, 1].find? fun u => here u && (d.member u).requested.isSome else none
    | none => none
  else
    let l := (d.unitOfSerial a.lead).getD 0xFF
    match a.released with
    | some why => [1 - l, l].find? fun u => u < 2 && here u && (u != l || why != 6)
    | none => if here l then none else [1 - l].find? fun u => u < 2 && here u

/-- The Anchor grants where its rules say so. -/
def Dev.anchorDecide (d : Dev) : Dev :=
  match d.grantee with
  | some u => d.grantTo u
  | none => d

/-- The STATE message to member u. -/
def Dev.sendState (d : Dev) (u : Nat) : Dev :=
  let a := d.anchor
  let p := d.member (1 - u)
  let decision := if a.lead = 0 then 0 else if a.lead = d.pairSerial u then 1 else 2
  d.anchorSend u 0x41 ([byteOf decision, byteOf (mask ((if p.present then [0] else []) ++ (if p.ropeOk then [1] else []))), 0, 0] ++
    be 8 a.lead)

/-! ### A member's epochs (R386, R391, R392) -/

/-- An epoch is seen: the highest is kept, and a Lead under a lower one learns that it must withdraw. -/
def Dev.learnEpoch (d : Dev) (e : Nat) : Dev :=
  let d := if d.twin.known < e then d.modTwin fun x => { x with known := e } else d
  if d.twin.role == .lead && d.twin.held < e && d.twin.withdraw.isNone then
    d.modTwin fun x => { x with withdraw := some (1, d.now) }
  else d

/-- TWIN_COLD with its reason (R403), and what a member that follows no more drops. -/
def Dev.twinCold (d : Dev) (role : Role) (reason : Nat) : Dev :=
  ((d.modTwin fun x => { x with role := role, record := none, missed := 0, joined := false }).setN O.twinColdReason 0 reason).raise
    Code.twinCold reason

/-- A member gives up lead at a pitch start (R392). -/
def Dev.twinWithdraw (d : Dev) (reason : Nat) : Dev :=
  let d := d.sendAnchor 0x44 d.twin.held [byteOf reason]
  let d := d.modTwin fun x => { x with
    held := 0, leadPin := false, withdraw := none, takeover := false, fenceRise := none, deltas := [], closes := [], acked := none
    snapSent := false }
  let d := { d with witness := { d.witness with forwards := [] } }
  ((d.raise Code.twinLeadWithdrawn 0 reason).twinCold .withdrawn 5).touchStandby

/-- The hardware withdraws the unit (R393 to R395): the gate closes; the unit withdraws at the next pitch start. -/
def Dev.hardWithdraw (d : Dev) (reason : Nat) : Dev :=
  let d := d.modTwin fun x => { x with
    gate := true, gateAt := d.now, leadPin := false, fenceRise := none, withdraw := some (reason, d.now - 200000) }
  let d := d.bump O.twinFenceEvents
  if reason = 4 then d.raise Code.twinFenced else d

/-- A new Lead starts an encode context from its own last access unit, or with a refresh (R409). -/
def Dev.encTake (d : Dev) (cold : Bool) : Dev :=
  (List.range 32).foldl (fun (d : Dev) c =>
    let x := d.ec c
    if x.state == .off || (!cold && x.mirrorCrc == some x.lastCrc) then d
    else d.modEc c fun y => { y with wantRefresh := true, gdr := none }) d

/-- A member takes a grant at a pitch start (R391, R396, R409). -/
def Dev.twinTake (d : Dev) (epoch : Nat) (cold : Bool) : Dev :=
  let was := d.twin.role
  let d := d.modTwin fun x => { x with
    role := .lead, held := epoch, known := max x.known epoch, grant := none, withdraw := none, gate := false, renewals := 0
    leadPin := true, pitchesSince := 0, takeover := true, fenceRise := none, record := none, joined := false
    deltas := [], points := [], closes := [], acked := none, snapSent := false }
  let d := (((d.setN O.twinColdReason 0 0).setN O.twinLeadSerial 0 d.serial).setN O.twinLastTakeover 0 (dtime d.now)).raise
    Code.twinLeadGranted 0 0 epoch
  (d.encTake (cold || was != .second)).touchTake

/-- The grant a member takes at a pitch start: one received at least 1 ms before; a member that has lost the Anchor keeps
its role (R391). -/
def Dev.grantDue (d : Dev) (p : Nat) : Option (Nat × Bool) :=
  match d.twin.grant with
  | some (e, at_, cold) =>
    if at_ + 1000000 ≤ p && !d.inService && (d.twin.anchorContact || d.twin.anchorLast.isNone) then some (e, cold) else none
  | none => none

/-- The withdrawal due at a pitch start: learnt at least 200 us before. -/
def Dev.withdrawDue (d : Dev) (p : Nat) : Option Nat :=
  match d.twin.withdraw with
  | some (r, at_) => if at_ + 200000 ≤ p then some r else none
  | none => none

/-- A Lead cut off from the Anchor while its partner is not (R392). -/
def Dev.isolated (d : Dev) : Bool :=
  d.twin.role == .lead && !d.twin.anchorContact && d.twin.ropeValid &&
    (d.twin.anchorLast.any fun t => t + 100000000 < d.now) && (bit d.twin.partnerFlags 0 || bit d.twin.partnerFlags 1)

/-- 200 us before a pitch start (R384, R391 to R395): the lease and the fence are checked, then TWIN_LEAD changes. -/
def Dev.prePitch (d : Dev) (fence : Bool) : Dev :=
  let lead := d.twin.role == .lead
  let d := d.modTwin fun x => { x with fencePin := fence, fenceRise := if fence then x.fenceRise else none }
  let d :=
    if lead && !d.gated && 2 ≤ d.twin.renewals then d.hardWithdraw 5
    else if lead && !d.gated && (d.twin.fenceRise.any fun n => 1 ≤ n) then d.hardWithdraw 4
    else if d.isolated && d.twin.withdraw.isNone then d.modTwin fun x => { x with withdraw := some (2, d.now) }
    else d
  if (d.grantDue (d.now + 200000)).isSome then d.modTwin fun x => { x with leadPin := true }
  else if lead && (d.withdrawDue (d.now + 200000)).isSome then d.modTwin fun x => { x with leadPin := false }
  else d

/-- The twin's work at a pitch start (R391 to R396): renewal of the lease by service core 3's task, a grant taken or lead
given up, the end of a takeover. -/
def Dev.twinPitch (d : Dev) (fence : Bool) : Dev :=
  let alive := (List.range 9).any fun c => (d.proc c).state == 0 && (d.proc c).tasks.contains 3
  let d := d.modTwin fun x => { x with
    fencePin := fence, renewals := if alive then 0 else x.renewals + 1
    fenceRise := if fence then x.fenceRise.map (· + 1) else none
    pitchesSince := x.pitchesSince + 1 }
  let d := match d.grantDue d.now with
    | some (e, cold) => d.twinTake e cold
    | none => match d.withdrawDue d.now with
      | some r => if d.twin.role == .lead then d.twinWithdraw r else d.modTwin fun x => { x with withdraw := none }
      | none => d
  if d.twin.role != .lead || !d.twin.takeover then d
  else if !fence then (d.modTwin fun x => { x with takeover := false }).raise Code.twinTakeoverDone
  else if d.twin.pitchesSince = 3 then d.raise Code.twinDualLead
  else d

/-- A write of true to twin.handover (R392): REQUEST with reason 2 and RELEASE with reason 3 go to the Anchor. -/
def Dev.twinHandover (d : Dev) : Dev :=
  if d.twin.role == .lead then (d.sendAnchor 0x42 d.twin.known [2]).sendAnchor 0x44 d.twin.held [3] else d

/-- A Lead that enters Service state (R392, R428). -/
def Dev.serviceRelease (d : Dev) : Dev :=
  if d.twin.role == .lead then
    (d.sendAnchor 0x44 d.twin.held [6]).modTwin fun x => { x with withdraw := some (6, d.now) }
  else d

end Sys2Proof.Machine
end

