-- ==== Sys2Proof/Machine/DictRead.lean ====
section
/-! DEFINITION. The dictionary as it is read (R11, R12, R19, R322 to R329, R339): the encodings of Table 0-2, the layer
descriptor of Table 6-3, the values of the status objects, the directory, the rings that are read as records. -/

namespace Sys2Proof.Machine

/-! ### Encodings (Table 0-2) -/

/-- The bytes of a value of an object: little-endian (R10). A DTIME is held in units of 2^-16 ns. -/
def Obj.encode (o : Obj) : Val → Bytes
  | .raw b => b
  | .num v =>
    if o.typ = .dtime then
      let n := v.toNat
      let ns := n / 65536
      le 6 (ns / 10 ^ 9) ++ le 4 (ns % 10 ^ 9) ++ le 2 (n % 65536)
    else le o.typ.size (ofSigned (8 * o.typ.size) v)

/-- Whether a type is a byte string. -/
def Ty.isRaw (t : Ty) : Bool := t == .domain || t == .string

/-- Whether a type is read as two's complement. -/
def Ty.signed (t : Ty) : Bool := t == .i8 || t == .i16 || t == .i32 || t == .i64

/-- The value that bytes of the right length encode. -/
def Obj.decode (o : Obj) (b : Bytes) : Val :=
  if o.typ.isRaw then .raw b
  else if o.typ = .dtime then .num (((leAt b 0 6 * 10 ^ 9 + leAt b 6 4) * 65536 + leAt b 10 2 : Nat))
  else if o.typ.signed then .num (toSigned (8 * o.typ.size) (ofLe b))
  else .num (ofLe b)

/-- Continuation bytes of UTF-8. -/
def utf8Rest : Nat → Bytes → Option Bytes
  | 0, b => some b
  | n + 1, x :: r => if x.toNat / 64 = 2 then utf8Rest n r else none
  | _ + 1, [] => none

/-- Whether bytes are UTF-8 (RFC 3629); the count bounds the characters. -/
def utf8Ok : Nat → Bytes → Bool
  | _, [] => true
  | 0, _ => false
  | n + 1, x :: r =>
    let v := x.toNat
    let second := (r.head?.map (·.toNat)).getD 0
    let k := if v < 0x80 then some 0 else if 0xC2 ≤ v && v < 0xE0 then some 1
      else if (v = 0xE0 && 0xA0 ≤ second) || (0xE1 ≤ v && v ≤ 0xEC) || (v = 0xED && second < 0xA0) || v = 0xEE || v = 0xEF then
        some 2
      else if (v = 0xF0 && 0x90 ≤ second) || (0xF1 ≤ v && v ≤ 0xF3) || (v = 0xF4 && second < 0x90) then some 3 else none
    match k.bind fun k => utf8Rest k r with
    | some rest => utf8Ok n rest
    | none => false

/-- Whether bytes of the right length are a valid encoding (R326, step 8). -/
def Obj.validBytes (o : Obj) (b : Bytes) : Bool :=
  if o.typ = .bool then ofLe b < 2
  else if o.typ = .real32 then ofLe b / 2 ^ 23 % 256 != 255
  else if o.typ = .dtime then leAt b 6 4 < 10 ^ 9
  else if o.typ = .string then utf8Ok b.length b
  else true

/-- Whether the length of a value fits its type (R326, step 7). -/
def Obj.lengthOk (o : Obj) (n : Nat) : Bool :=
  match o.typ, o.rng with
  | .domain, .raw lo hi st => lo ≤ n && n ≤ hi && n % st == 0
  | .domain, _ => n ≤ o.size
  | .string, _ => n ≤ 255
  | t, _ => n == t.size

/-! ### The layer descriptor (Table 6-3) -/

/-- A descriptor as the dictionary carries it, with its number. -/
def Desc.bytes (n : Nat) (e : Desc) : Bytes :=
  le 2 n ++ [byteOf e.head, byteOf e.z, byteOf e.kind, byteOf e.cls] ++ le 2 e.control ++ le 2 e.source ++
    [byteOf e.coef, byteOf e.tone] ++ le 2 e.srcX ++ le 2 e.srcY ++ le 2 e.srcW ++ le 2 e.srcH ++
    le 2 (ofSigned 16 e.dstX) ++ le 2 (ofSigned 16 e.dstY) ++ le 2 e.dstW ++ le 2 e.dstH ++ le 4 e.ageBound ++
    le 4 e.colour ++ le 2 e.planeAlpha ++ [byteOf e.blend, 0] ++ le 4 e.tag ++ zeros 84

/-- The descriptor that 128 bytes carry; reserved fields are ignored (R22). -/
def descOf (b : Bytes) : Desc :=
  { head := leAt b 2 1, z := leAt b 3 1, kind := leAt b 4 1, cls := leAt b 5 1, control := leAt b 6 2 &&& 0xCFC0
    source := leAt b 8 2, coef := leAt b 10 1, tone := leAt b 11 1, srcX := leAt b 12 2, srcY := leAt b 14 2
    srcW := leAt b 16 2, srcH := leAt b 18 2, dstX := toSigned 16 (leAt b 20 2), dstY := toSigned 16 (leAt b 22 2)
    dstW := leAt b 24 2, dstH := leAt b 26 2, ageBound := leAt b 28 4, colour := leAt b 32 4, planeAlpha := leAt b 36 2
    blend := leAt b 38 1, tag := leAt b 40 4 }

/-- A layer table as 512 descriptors. -/
def tableBytes (t : List (Nat × Desc)) : Bytes := (List.range 512).flatMap fun n => (tget ({} : Desc) t n).bytes n

/-- The pieces of `k` bytes of a byte string. -/
def chunks (k : Nat) (b : Bytes) : List Bytes := (List.range (b.length / k)).map fun i => slice b (k * i) k

/-! ### Status objects -/

/-- A number of bits, one per unit for which a test holds. -/
def maskOf (n : Nat) (p : Nat → Bool) : Nat := mask ((List.range n).filter p)

/-- A Bool as a value. -/
def bv (b : Bool) : Val := .num (if b then 1 else 0)
/-- A natural number as a value. -/
def nv (n : Nat) : Val := .num n

/-- What a status object shows: the object and its value for an instance and a consecutive sub-index. -/
abbrev StatusRow := Obj × (Dev → Nat → Nat → Val)

/-- A record of cairn.layer_status (chapter 2, "Objects"). -/
def Dev.layerStatus (d : Dev) (n : Nat) : Bytes :=
  let e := d.desc n
  let own (s : Nat) : Bytes := if e.head != 0xFF && e.kind == 0 then le 2 e.source else le 2 s
  match if e.head != 0xFF && e.enabled && e.evaluated then d.lastEval n else none with
  | none => [0, if e.cls == 1 then 8 else 0] ++ own 0xFFFF ++ zeros 12
  | some v =>
    let seq := match v.shown with
      | some (.pic _ _ t) => t.sequence
      | _ => 0
    [byteOf v.state.code, byteOf (d.layerFlags n e v)] ++ own 0xFFFF ++ le 4 (min 0xFFFFFFFF v.age) ++ le 4 seq ++ le 4 v.alive

/-- Whether a layer lies in a tile that is drawn in two passes. -/
def Dev.inTwoPass (d : Dev) (h : Nat) (e : Desc) : Bool :=
  match d.visOf e with
  | none => false
  | some v => (d.twoPass h).any fun t => (d.tileRect h t.1 t.2).meets v

/-- Whether a layer is drawn from a flattened copy now: it is a member of a run of a tile whose copy is there (R211). -/
def Dev.flattenedNow (d : Dev) (n : Nat) (e : Desc) : Bool :=
  d.flattenable e && (d.runKeys e.head).any fun k =>
    (k.members.any fun m => m.1 == n) && d.bivouac.copies.any fun c => c.key == k

/-- A record of composition.layer_info (chapter 6, "Objects"). -/
def Dev.layerInfo (d : Dev) (n : Nat) : Bytes :=
  let e := d.desc n
  let l := d.ly n
  if e.head = 0xFF then [0xFF, 0xFF, 0, 0] ++ le 4 l.boundToken
  else
    let fl := mask ((if d.inTwoPass e.head e then [0] else []) ++ (if d.flattenedNow n e then [1] else []) ++
      (if (d.visOf e).isNone then [2] else []) ++ (if (d.lastEval n).any fun v => v.mismatch then [7] else []))
    [byteOf e.head, byteOf (d.rn O.headPipe e.head), byteOf (if e.fetched then l.taps else 0), byteOf fl] ++ le 4 l.boundToken

/-- A record of composition.slot_status (R187). -/
def Dev.slotStatus (d : Dev) (n : Nat) : Bytes :=
  let p := (tget ({} : CSlot) d.slots n).post
  let time := (p.map (·.2)).getD 0
  [byteOf ((p.map (·.1)).getD 0xFF), byteOf (maskOf 4 (d.postPinned n)), 0, 0] ++
    le 6 (time / 10 ^ 9) ++ le 4 (time % 10 ^ 9) ++ zeros 2

/-- head[h].out_state: 0 disabled, 1 composing, 2 pipe-fault overdraw, 3 out of service. -/
def Dev.outState (d : Dev) (h : Nat) : Nat :=
  if !d.headOn h then 0 else if d.onCard h then 3 else if (d.hd h).faultLine.isSome then 2 else 1

/-- head[h].timing_active: sub-indices 0x03 to 0x0F in effect. -/
def Dev.timingActive (d : Dev) (h : Nat) : Bytes :=
  le 2 (d.rn O.headHActive h) ++ le 2 (d.rn O.headVActive h) ++ le 2 (d.rn O.headHTotal h) ++ le 2 (d.rn O.headVTotal h) ++
    le 2 (d.rn O.headHStart h) ++ le 2 (d.rn O.headHSync h) ++ le 2 (d.rn O.headVStart h) ++ le 2 (d.rn O.headVSync h) ++
    [byteOf (d.rn O.headSyncPolarity h)] ++ le 2 (d.rn O.headLineCycles h) ++
    [byteOf (d.rn O.headEncoding h), byteOf (d.rn O.headTransfer h), byteOf (d.rn O.headFallbackDivisor h)]

/-- The head on a port of a pipe; 0xFF none. -/
def Dev.headAt (d : Dev) (k q : Nat) : Nat :=
  (d.allHeads.find? fun h => d.rn O.headPipe h == k && d.rn O.headPort h == q).getD 0xFF

/-- coef_builtin[c] in the format of Table 7-3. -/
def coefBuiltinBytes (c : Nat) : Bytes :=
  let body := [8, 6, 4, 2].flatMap fun taps => (List.range 64).flatMap fun p => (List.range taps).flatMap fun k =>
    le 2 (ofSigned 16 (Config.coefBuiltin c taps p k))
  le 2 1 ++ zeros 2 ++ le 4 (crc32c body) ++ zeros 8 ++ body

/-- tone_builtin[m] in the format of Table 7-6; source class and head signal by Table 7-5. -/
def toneBuiltinBytes (m : Nat) : Bytes :=
  let body := (List.range 20883).flatMap fun i => le 2 (Config.toneBuiltin m (32 + 2 * i)).toNat
  le 2 1 ++ [byteOf ([0, 0, 1, 1, 1, 2, 2, 3, 3].getD m 0), byteOf ([1, 2, 0, 1, 2, 0, 2, 0, 1].getD m 0)] ++ zeros 4 ++
    le 4 (crc32c body) ++ zeros 20 ++ body

/-- Status objects of chapters 1 to 4. -/
def statusA : List StatusRow :=
  [(O.cairnLayerStatus, fun d _ _ => .raw ((List.range 512).flatMap d.layerStatus)),
   (O.headFreezeState, fun d h _ => bv (d.hd h).overdraw.isSome),
   (O.headFreezeCount, fun d h _ => nv (d.hd h).freezeCount),
   (O.headLiveLayers, fun d h _ => nv ((d.layersOn h).filter fun p =>
      p.2.live && (d.lastEval p.1).any fun v => v.state == .live).length),
   (O.headWhiteoutLayers, fun d h _ => nv ((d.layersOn h).filter fun p => (d.lastEval p.1).any (·.hatched)).length),
   (O.witnessPublicKey, fun d _ _ => .raw (if d.witness.keys then
      be 64 (Config.publicKey (d.rn O.witnessKeySlot) d.witness.keyGen).toNat else [])),
   (O.timeNow, fun d _ _ => nv (d.clock / 2 ^ 32)),
   (O.timeErrorBound, fun d _ _ => nv d.errorBound),
   (O.gridLockedHeads, fun d g _ => nv (maskOf 32 fun h => d.headOn h && d.groupOf h == g && (d.hd h).started && (d.hd h).locked)),
   (O.gridPullingHeads, fun d g _ => nv (maskOf 32 fun h => d.headOn h && d.groupOf h == g && (d.hd h).started && !(d.hd h).locked)),
   (O.portMac, fun d p _ => nv (d.portMac p))]

/-- Status objects of chapter 5. -/
def statusB : List StatusRow :=
  [(O.decodeCapacity, fun d _ _ => nv (1000000 * d.activeEngines.length)),
   (O.decodeTotalLoad, fun d _ _ => nv (sumL (d.allStreams.map d.ctxLoad))),
   (O.decodeSlotsUsed, fun d _ _ => nv (sumL ((d.allStreams.filter fun s => (d.cx s).state != .unbound).map fun s =>
      d.rn O.streamPicSlots s))),
   (O.decodeShedStreams, fun d _ _ => nv d.shedStreams.length),
   (O.engineState, fun d e _ => nv (d.engState e).code),
   (O.engineLoad, fun d e _ => nv (d.engLoad e)),
   (O.engineContexts, fun d e _ => nv (d.engCtxs e).length),
   (O.engineBusy, fun d e _ => let x := d.eng e
      nv (workShare (if x.busy.isSome then (x.since, d.now) :: x.work else x.work) d.now)),
   (O.streamLoad, fun d s _ => nv (d.ctxLoad s))]

/-- Status objects of chapters 6 and 7. -/
def statusC : List StatusRow :=
  [(O.headLoad, fun d h _ => nv (d.headLoad h)),
   (O.headTwoPassTiles, fun d h _ => nv (if d.headOn h then (d.twoPass h).length else 0)),
   (O.headMaxContributors, fun d h _ => nv (if d.headOn h then maxL ((d.tiles h).map (·.2.2.2.2)) else 0)),
   (O.headOutState, fun d h _ => nv (d.outState h)),
   (O.headTimingActive, fun d h _ => .raw (d.timingActive h)),
   (O.compositionLayerActive, fun d _ _ => .raw (tableBytes d.activeT)),
   (O.compositionLayerInfo, fun d _ _ => .raw ((List.range 512).flatMap d.layerInfo)),
   (O.compositionSlotStatus, fun d _ _ => .raw ((List.range 256).flatMap d.slotStatus)),
   (O.compositionSparePipes, fun d _ _ => nv (d.unitCount 6 .spare)),
   (O.groupCommitState, fun d g _ => nv (d.grp g).cstate),
   (O.groupHeads, fun d g _ => nv (mask (d.headsOf g))),
   (O.pipeState, fun d k _ => nv (d.pipeState k).code),
   (O.pipeHead0, fun d k _ => nv (d.headAt k 0)),
   (O.pipeHead1, fun d k _ => nv (d.headAt k 1)),
   (O.pipeLoad, fun d k _ => nv (d.pipeLoad k)),
   (O.pipeWritebackHead, fun d k _ => nv (((d.onPipe k).find? fun h => d.headOn h && d.rn O.headWriteback h != 0).getD 0xFF)),
   (O.coefBuiltinData, fun _ c _ => .raw (coefBuiltinBytes c)),
   (O.toneBuiltinData, fun _ m _ => .raw (toneBuiltinBytes m)),
   (O.headLinestoreNeed, fun d h _ => nv (d.lsHead h d.tapsNow)),
   (O.pipeLinestoreNeed, fun d k _ => nv (d.lsPipe k d.tapsNow)),
   (O.bivouacUsed, fun d _ _ => nv d.blocksUsed),
   (O.bivouacCopies, fun d _ _ => nv d.bivouac.copies.length),
   (O.bivouacDeferred, fun d _ _ => nv (sumL (d.allHeads.map fun h =>
      if (d.hd h).inFrame && d.headOn h then (d.deferredTiles h (d.hd h).start (d.hd h).lineCycles).1 else 0))),
   (O.bivouacBuildQueue, fun d _ _ => nv (d.bivouac.builds.filter fun b => !b.running).length),
   (O.bivouacSpareBanks, fun d _ _ => nv d.bivouac.spares.length)]

/-! ### Lanes (Table 8-2, chapter 8 "Objects") -/

/-- The head that a lane serves and the DisplayPort lane it is. -/
def Dev.headOfLane (d : Dev) (n : Nat) : Nat × Nat :=
  let h := n / 2
  if h % 2 = 1 && d.rn O.headLaneCount (h - 1) == 4 then (h - 1, n - 2 * (h - 1)) else (h, n % 2)

/-- lane[n].use. -/
def Dev.laneUseOf (d : Dev) (n : Nat) : Nat :=
  if n < 64 then if d.headOn (d.headOfLane n).1 then 0 else 3
  else if n < 68 then if d.rn O.portMode (n - 64) = 0 then 3 else 1
  else 2

/-- lane[n].state: 0 off, 1 idle, 2 training, 3 active, 4 failed. -/
def Dev.laneStateOf (d : Dev) (n : Nat) : Nat :=
  if d.laneUseOf n = 3 then 0
  else if n < 64 then
    let (h, i) := d.headOfLane n
    let l := d.lk h
    if l.failed.contains i then 4
    else match l.state with
      | .disabled => 0
      | .training => if l.cands.head?.any fun c => i < c.lanes then 2 else 1
      | .running => if l.cur.any fun c => i < c.lanes then 3 else 1
      | _ => 1
  else if n < 68 then if (d.port (n - 64)).linkUp then 3 else 2
  else
    let i := n - 68
    let r := d.rope
    if !d.rf O.ropeEnable then 0
    else if r.lostLanes.contains i then 4
    else if r.state = 0 then 1
    else if r.state = 1 || r.retrying.any fun x => x.1 == i then 2
    else if r.rxLanes.contains i || r.txLanes.contains i then 3 else 1

/-- Rope line rates in Mb/s by speed code. -/
def ropeRate (code : Nat) : Nat := [2500, 5000, 10000, 16000, 25000].getD code 0

/-- lane[n].rate in Mb/s. How the fraction of an Ethernet rate is rounded is not stated (DESIGN CHOICE, log 9). -/
def Dev.laneRateOf (d : Dev) (n : Nat) : Nat :=
  let st := d.laneStateOf n
  if st != 2 && st != 3 then 0
  else if n < 64 then
    let l := d.lk (d.headOfLane n).1
    ((if st = 3 then l.cur else l.cands.head?).map fun c => lineRate c.rate).getD 0
  else if n < 68 then
    let m := d.rn O.portMode (n - 64)
    (if 3 ≤ m then 25781 else 10312) + (Config.unstated 382 [m]).toNat % 2
  else ropeRate d.rope.step

/-- Milliseconds, rounded up, to an instant. -/
def Dev.msTo (d : Dev) (at_ : Option Nat) : Nat := (at_.map fun t => cdiv (t - d.now) 1000000).getD 0

/-- Status objects of chapter 8. -/
def statusD : List StatusRow :=
  [(O.headLinkState, fun d h _ => nv (d.lk h).state.code),
   (O.headRateNow, fun d h _ => nv (if (d.lk h).state == .running then ((d.lk h).cur.map (·.rate)).getD 0xFF else 0xFF)),
   (O.headLanesNow, fun d h _ => nv (if (d.lk h).state == .running then ((d.lk h).cur.map (·.lanes)).getD 0 else 0)),
   (O.headLaneFailed, fun d h _ => nv (mask (d.lk h).failed)),
   (O.headDegraded, fun d h _ => nv (d.lk h).degraded),
   (O.headRetryIn, fun d h _ => nv (d.msTo (d.lk h).retryAt)),
   (O.headHpd, fun d h _ => bv (d.lk h).hpd),
   (O.laneUse, fun d n _ => nv (d.laneUseOf n)),
   (O.laneState, fun d n _ => nv (d.laneStateOf n)),
   (O.laneRate, fun d n _ => nv (d.laneRateOf n)),
   (O.laneFom, fun d n _ => nv (d.ln72 n).fom),
   (O.laneEyeWidth, fun d n _ => nv (d.ln72 n).eye),
   (O.ropeState, fun d _ _ => nv d.rope.state),
   (O.ropeSpeed, fun d _ _ => nv d.rope.step),
   (O.ropeTxLanes, fun d _ _ => nv (mask d.rope.txLanes)),
   (O.ropeRxLanes, fun d _ _ => nv (mask d.rope.rxLanes))]

/-- Status objects of chapter 9. -/
def statusE : List StatusRow :=
  [(O.encodeCapacity, fun d _ _ => nv (500000 * d.activeEnc.length)),
   (O.encodeTotalLoad, fun d _ _ => nv (sumL ((List.range 32).map d.encLoad))),
   (O.encEngineState, fun d e _ => nv (d.ee e).state.code),
   (O.encEngineLoad, fun d e _ => nv (sumL (((List.range 32).filter fun c => (d.ec c).engine == e).map d.encLoad))),
   (O.encEngineBusy, fun d e _ => let x := d.ee e
      nv (workShare (if x.busy.isSome then (x.since, d.now) :: x.work else x.work) d.now)),
   (O.encodeState, fun d c _ => nv (d.ec c).state.code),
   (O.encodeEngineNow, fun d c _ => nv (d.ec c).engine),
   (O.encodeLoad, fun d c _ => nv (d.encLoad c)),
   (O.encodeSsrc, fun d c _ => nv ((d.ec c).ssrc.getD 0))]

/-- The codes of Table 10-5. -/
def PanelState.code : PanelState → Nat
  | .off => 0 | .absent => 1 | .testing => 2 | .baselining => 3 | .active => 4 | .fault => 5 | .noQuiet => 6 | .standby => 7

/-- panel[n].residual (R292): in 1/16 count; the rounding of the root is not stated (DESIGN CHOICE, log 9). -/
def Dev.residualOf (d : Dev) (n : Nat) : Nat :=
  let l := (d.pn n).resid
  let sum := sumL (l.map (·.1)); let cnt := sumL (l.map (·.2))
  if cnt = 0 then 0
  else
    let r := isqrt (256 * sum / cnt)
    if r * r * cnt = 256 * sum then min 65535 r else min 65535 (r + (Config.unstated 292 [sum, cnt]).toNat % 2)

/-- The current record of contact i; what the record of an unused identity holds is not stated (DESIGN CHOICE, log 9). -/
def Dev.contactRecord (d : Dev) (n i : Nat) : Bytes :=
  match (d.pn n).contacts.find? fun c => c.id == i with
  | some c => fit 32 c.record
  | none => (List.range 32).map fun k => byteOf (Config.unstated 283 [n, i, k]).toNat

/-- Status objects of chapter 10. -/
def statusF : List StatusRow :=
  [(O.touchActionCounts, fun d _ _ => .raw ((List.range 256).flatMap fun r =>
      let c := tget (0, 0, 0) d.touch.counts r
      le 4 c.1 ++ le 4 c.2.1 ++ le 4 c.2.2)),
   (O.panelState, fun d n _ => nv (d.pn n).state.code),
   (O.panelFreqNow, fun d n _ => nv (d.pn n).cur),
   (O.panelNoise, fun d n _ => .raw ((List.range 4).flatMap fun f =>
      le 2 (min 65535 (((d.pn n).fr f).figure (d.senses n).length)))),
   (O.panelResidual, fun d n _ => nv (d.residualOf n)),
   (O.panelQuality, fun d n _ => let r := d.residualOf n
      nv (if r = 0 then 255 else min 255 (16 * d.rn O.panelThreshold n * 16 / r))),
   (O.panelContacts, fun d n _ => .raw ((List.range 10).flatMap (d.contactRecord n))),
   (O.panelOpenMask, fun d n _ => let pins := (d.drives n ++ d.senses n).map (·.2)
      .raw (le 16 (mask ((pins.zipIdx.filter fun p => (d.pn n).openPins.contains p.1).map (·.2))))),
   (O.panelCalMatrix, fun d n _ =>
      let b := d.lb O.panelCalMatrix n
      .raw (if b.isEmpty then d.defaultCal n else b))]

/-- A row as memory.ppr_candidates lists it: channel, rank, bank, a byte, row. -/
def pprRecord (p : List Nat) (res : Nat) : Bytes :=
  [byteOf (p.getD 0 0), byteOf (p.getD 1 0), byteOf (p.getD 2 0), byteOf res] ++ le 4 (p.getD 3 0)

/-- The greatest number of refreshes a rank of a channel owes. -/
def Dev.owedOf (d : Dev) (ch : Nat) : Nat := maxL ((d.ch ch).owed.map (·.2))

/-- Status objects of chapter 11. -/
def statusG : List StatusRow :=
  [(O.memoryPresented, fun d _ _ => nv d.mem.presented),
   (O.memoryDensity, fun d _ _ => nv d.mem.density),
   (O.memoryRanks, fun d _ _ => nv d.mem.ranks),
   (O.memoryDataRate, fun d _ _ => nv ([9600, 6400, 4800].getD d.mem.rate 0)),
   (O.memoryHashActive, fun d _ _ => .raw ((List.range 8).flatMap fun j => le 8 (d.mem.maskOf j))),
   (O.memoryRegions, fun d _ _ => .raw ((d.regions.zipIdx).flatMap fun r =>
      le 8 r.1.1 ++ le 4 (r.1.2.1 / 2 ^ 20) ++ [byteOf r.2, byteOf (mask ((if r.2 != 2 then [0] else []) ++
        (if r.1.2.2 then [1] else [])))] ++ zeros 2)),
   (O.memorySpareRowsFree, fun d _ _ => nv d.spareRows),
   (O.memoryPprCandidates, fun d _ _ => .raw ((d.pprRows).flatMap fun p => pprRecord p 0)),
   (O.memoryPprResults, fun d _ _ => .raw (d.mem.pprResults.flatMap fun p => pprRecord p.1 p.2)),
   (O.memoryPprRun, fun d _ _ => bv d.mem.ppr),
   (O.memoryClassBytes, fun d _ _ => .raw ((List.range 6).flatMap fun c => le 8 (tget 0 d.mem.classBytes c))),
   (O.chanRefreshMult, fun d ch _ => nv (d.ch ch).mult),
   (O.chanRefreshOwed, fun d ch _ => nv (d.owedOf ch))]

/-- An outcome as ACK_RESULT lays it out (Table 13-6). -/
def resultWord (r : Nat × Nat × Nat) : Nat := r.1 * 2 ^ 32 + r.2.1 * 2 ^ 16 + r.2.2

/-- Status objects of chapters 12 to 14. -/
def statusH : List StatusRow :=
  [(O.identitySerialLow, fun d _ _ => nv (d.rn O.identitySerialNumber % 2 ^ 32)),
   (O.qdpSessions, fun d _ _ => nv d.openSessions),
   (O.canNmtState, fun d p _ => nv (d.can p).nmt),
   (O.canBusState, fun d p _ => nv (d.can p).bus),
   (O.identityErrorRegister, fun d _ _ => bv ((List.range 2).any fun p => d.now < (d.can p).emcyUntil)),
   (O.servicesSpareCore, fun d _ _ => bv ((d.proc 8).state == 1)),
   (O.procState, fun d n _ => nv (d.proc n).state),
   (O.procTasks, fun d n _ => nv (mask (d.proc n).tasks)),
   (O.procLoad, fun d n _ => nv (d.coreLoad n)),
   (O.procEpoch, fun d n _ => nv (d.rn O.procRestarts n % 65535 + 1)),
   (O.mbxKind, fun _ m _ => nv (if m < 16 then 0 else if m < 24 then 1 else 2)),
   (O.mbxEndA, fun d m _ => nv (d.mb m).endA),
   (O.mbxEndB, fun d m _ => nv (d.mb m).endB),
   (O.mbxEpochA, fun d m _ => nv (d.mb m).epochA),
   (O.mbxEpochB, fun d m _ => nv (d.mb m).epochB),
   (O.mbxHostClaim, fun d m _ => nv ((d.mb m).claim.getD 0)),
   (O.mbxHostResult, fun d m _ => nv (resultWord (d.mb m).d1.result)),
   (O.mbxHostInbound, fun d m _ => let x := (d.mb m).d0
      .raw (if x.full then fit 16 x.hdr ++ fit 48 x.data else [])),
   (O.protectRegionActive, fun d n j => nv ((d.prot n).active.getD j 0)),
   (O.protectCommitState, fun d n _ => nv (d.prot n).cstate),
   (O.cvuAlgorithm, fun d u _ => nv (d.cvu u).alg),
   (O.twinRole, fun d _ _ => nv d.twin.role.code),
   (O.twinEpochHeld, fun d _ _ => nv (if d.twin.role == .lead then d.twin.held else 0)),
   (O.twinEpochKnown, fun d _ _ => nv (if d.twin.role == .anchor then d.anchor.e else d.twin.known)),
   (O.twinAnchorContact, fun d _ _ => bv d.twin.anchorContact),
   (O.twinRopeValid, fun d _ _ => bv d.twin.ropeValid),
   (O.twinRecordApplied, fun d _ _ => nv d.twin.applied),
   (O.twinPartnerHealth, fun d _ _ => .raw d.twin.partnerHealth)]

/-- Status objects of chapters 15 and 16. -/
def statusI : List StatusRow :=
  [(O.lifecycleState, fun d _ _ => nv d.power.life),
   (O.healthRetired, fun d _ _ => .raw d.retiredWords),
   (O.healthShedHeads, fun d _ _ => nv (mask d.shedHeads)),
   (O.healthShedStreams, fun d _ _ => .raw (le 16 (mask d.shedStreams))),
   (O.resetCause, fun d _ _ => nv d.power.cause),
   (O.thermalStep, fun d _ _ => nv d.power.throttle),
   (O.thermalThrottledS, fun d _ _ => nv d.throttledS),
   (O.standbyWakeSource, fun d _ _ => nv d.power.wakeSource),
   (O.healthFaultNext, fun d _ _ => nv d.health.logNext)]

/-- Every status object whose value is computed from the state; the others hold theirs in the register file. -/
def statusRows : List StatusRow :=
  statusA ++ statusB ++ statusC ++ statusD ++ statusE ++ statusF ++ statusG ++ statusH ++ statusI

/-! ### Objects, entries, the directory -/

/-- The objects. -/
def objects : List Obj := O.part1 ++ O.part2 ++ O.part3

/-- The object of a key. -/
def objOf (key : Nat) : Option Obj := objects.find? fun o => o.has key

/-- Whether an index carries one instance per head or per stream (R6). -/
def Obj.perHead (o : Obj) : Bool := o.index == 0x2700 || o.index == 0x2720 || o.index == 0x2740
/-- See `Obj.perHead`. -/
def Obj.perStream (o : Obj) : Bool := o.index == 0x2400 || o.index == 0x2980

/-- Whether an instance is present in the grade (R6). -/
def Dev.inGrade (d : Dev) (o : Obj) (i : Nat) : Bool :=
  if o.perHead then i < d.gradeHeads else if o.perStream then i < d.gradeStreams else true

/-- Whether an instance has the sub-index: the host objects exist for host channels alone (Table 13-16). -/
def Obj.onInstance (o : Obj) (i : Nat) : Bool := !(o.index == 0x2C20 && 0x10 ≤ o.sub) || 24 ≤ i

/-- Kept objects (R324). -/
def Obj.kept (o : Obj) : Bool := o.wr != 0 && o.cls != .imm

/-- Mirrored objects (Table 14-7). -/
def Obj.mirrored (o : Obj) : Bool :=
  let x := o.index
  o.wr != 0 &&
    ((x == 0x2110) ||
     ((o.perStream || x == 0x2700 || x == 0x2740) && (o.cls == .grp || o.cls == .pit)) ||
     (x == 0x2620 && o.cls == .pit) ||
     (x == 0x2800 && o.sub == 1) || (x == 0x2808 && (o.sub == 1 || o.sub == 8 || o.sub == 9)) ||
     (x == 0x2840 && o.sub == 1) || (x == 0x2860 && o.sub == 1) || x == 0x2900 ||
     (x == 0x2A00 && o.sub == 2) || (x == 0x2A10 && o.cls == .pit))

/-- Whether an entry is adjustable (R323): as the object map notes, unless the image clears it; else as the image marks. -/
def Dev.adjustable (d : Dev) (o : Obj) (key : Nat) : Bool :=
  if o.adj then !d.config.notAdjustable.contains key else o.wr ≤ 3 && o.wr != 0 && d.config.adjustable.contains key

/-- A record of dict.directory (Table 12-1). -/
def Dev.dirRecord (d : Dev) (o : Obj) (key : Nat) : Bytes :=
  le 2 (key / 256) ++ [byteOf (key % 256), byteOf o.typ.code, byteOf o.rd, byteOf o.wr, byteOf o.cls.code,
    byteOf (mask ((if d.adjustable o key then [0] else []) ++ (if o.kept then [1] else []) ++ (if o.mirrored then [2] else [])))] ++
    le 4 o.size ++ zeros 4

/-- The entries of one index, ascending. -/
def Dev.entriesAt (d : Dev) (index : Nat) : List (Nat × Obj) :=
  let os := objects.filter fun o =>
    o.index ≤ index && index < o.index + o.insts && d.inGrade o (index - o.index) && o.onInstance (index - o.index)
  (sortBy (fun (a b : Obj) => a.sub ≤ b.sub) os).flatMap fun o =>
    (List.range o.subs).map fun j => (o.key (index - o.index) j, o)

/-- The keys of the entries present, ascending (R322). -/
def Dev.entries (d : Dev) : List (Nat × Obj) := (List.range 0x2000).flatMap fun x => d.entriesAt (0x1000 + x)

/-- dict.directory. -/
def Dev.directory (d : Dev) : Bytes := d.entries.flatMap fun p => d.dirRecord p.2 p.1

/-! ### The journal (R324) -/

/-- The bytes of an entry of the journal: key, length and value (DEDUCED, log 39). -/
def JEntry.size (e : JEntry) : Nat :=
  12 + match e.val with
    | .raw b => b.length
    | .num _ => ((objOf e.key).map (·.typ.size)).getD 8

/-- The bytes the journal uses. -/
def journalSize (l : List JEntry) : Nat := sumL (l.map (·.size))

/-- A journal with an entry appended, compacted: the last value of each part of each object. -/
def journalAdd (l : List JEntry) (e : JEntry) : List JEntry := (l.filter fun x => x.key != e.key) ++ [e]

/-! ### Reading a value (R19, R339) -/

/-- touch.actions as last accepted: 256 records. -/
def Dev.actionsBytes (d : Dev) : Bytes :=
  (List.range 256).flatMap fun r =>
    ((pendFind (d.pendOf 1) (actionKey r)).map Val.bytes).getD (d.regionBytes r)

/-- The value that a read of an entry returns: computed, or the last accepted one. -/
def Dev.readVal (d : Dev) (o : Obj) (i j : Nat) : Val :=
  match statusRows.find? fun r => r.1.index == o.index && r.1.sub == o.sub with
  | some r => r.2 d i j
  | none =>
    let at_ (x : Obj) : Bool := o.index == x.index && o.sub == x.sub
    if at_ O.compositionLayerShadow then .raw (tableBytes d.shadow)
    else if at_ O.touchActions then .raw d.actionsBytes
    else if at_ O.dictDirectory then .raw d.directory
    else if at_ O.dictEntries then nv d.entries.length
    else if at_ O.dictJournalUsed then nv (journalSize d.dict.journal)
    else if at_ O.streamRestart || at_ O.headRetrain || at_ O.ropeRetrain || at_ O.panelTest || at_ O.twinHandover ||
        at_ O.protectCommit || at_ O.healthRefuse || at_ O.bootFwMinCommit then nv 0
    else d.lastV o i j

/-- A fault record of 64 bytes (Table 15-3). -/
def FaultRec.bytes (r : FaultRec) : Bytes :=
  let ns := r.time / 2 ^ 48
  let b := le 4 r.seq ++ [byteOf r.cls, byteOf r.kind] ++ le 2 r.inst ++ le 2 r.code ++ [byteOf r.reason, byteOf r.action] ++
    le 2 r.spare ++ zeros 2 ++ le 6 (ns / 10 ^ 9) ++ le 4 (ns % 10 ^ 9) ++ le 2 (r.time / 2 ^ 32 % 65536) ++ le 4 r.pitch ++
    le 4 r.epoch ++ le 4 r.boot ++ le 2 r.p0 ++ le 2 r.p1 ++ le 4 r.p2 ++ le 4 r.p3 ++ zeros 8
  b ++ le 4 (crc32c b)

/-- A count of records asked for: 0 means 64; at most 64. -/
def recordLimit (limit : Nat) : Nat := if limit = 0 then 64 else min 64 limit

/-- dict.events from a sequence on (R339): at most 64 records. -/
def Dev.readEvents (d : Dev) (first limit : Nat) : Bytes :=
  ((d.dict.events.dropWhile fun e => e.seq < first).take (recordLimit limit)).flatMap (·.bytes)

/-- touch.events (R283): from touch.events_next, which moves past what is returned. -/
def Dev.readTouch (d : Dev) (limit : Nat) : Bytes × Dev :=
  let from_ := max (d.rn O.touchEventsNext) d.touch.first
  let recs := (d.touch.ring.drop (from_ - d.touch.first)).take (recordLimit limit)
  (recs.flatten, if recs.isEmpty then d else d.setN O.touchEventsNext 0 (from_ + recs.length : Nat))

/-- health.fault_log (R424): from health.fault_next, which moves past what is returned. -/
def Dev.readFaults (d : Dev) (limit : Nat) : Bytes × Dev :=
  let recs := (d.health.log.dropWhile fun r => r.seq < d.health.logNext).take (recordLimit limit)
  match recs.getLast? with
  | none => ([], d)
  | some l => (recs.flatMap (·.bytes), { d with health := { d.health with logNext := nextSeq32 l.seq } })

/-- summit.export (R100): entries from export_next on; the last one read out is remembered. -/
def Dev.readSummit (d : Dev) (limit : Nat) : Bytes × Dev :=
  let es := (d.witness.ring.filter fun e => d.witness.exportNext ≤ e.seq).take (recordLimit limit)
  match es.getLast? with
  | none => ([], d)
  | some l =>
    let far := max l.seq (d.witness.lastRead.getD 0)
    (es.flatMap fun e => fit 192 e.record ++ fit 32 e.hash, { d with witness := { d.witness with lastRead := some far } })

/-- The bytes a read returns, or its code (R339): for a DOMAIN the bytes from the offset on, for the rings records, for
every other type the value, with offset and limit 0. -/
def Dev.readBytes (d : Dev) (o : Obj) (i j off limit : Nat) : (Except Nat Bytes) × Dev :=
  let at_ (x : Obj) : Bool := o.index == x.index && o.sub == x.sub
  let ring (r : Bytes × Dev) : (Except Nat Bytes) × Dev := if 64 < limit then (.error Code.objRange, d) else (.ok r.1, r.2)
  if at_ O.summitExport then ring (d.readSummit limit)
  else if at_ O.touchEvents then ring (d.readTouch limit)
  else if at_ O.dictEvents then ring (d.readEvents off limit, d)
  else if at_ O.healthFaultLog then ring (d.readFaults limit)
  else
    let b := o.encode (d.readVal o i j)
    if o.typ = .domain then
      if b.length < off then (.error Code.objRange, d)
      else (.ok (if limit = 0 then b.drop off else slice b off limit), d)
    else if off != 0 || limit != 0 then (.error Code.objRange, d)
    else (.ok b, d)

end Sys2Proof.Machine
end

