-- ==== Sys2Proof/Machine/PowerOps.lean ====
section
/-! DEFINITION. Resets, images, the loading of kept values, the restoring of the health record, and what follows an answered
request (R416, R427 to R431, R439 to R449, R453), as operations. -/

/-- The content of a configuration image, read from its payload, whose layout the spec does not give (DESIGN CHOICE, log 12). -/
opaque Sys2Proof.Config.imageContent : Sys2Proof.Bytes → Sys2Proof.Machine.Config

namespace Sys2Proof.Machine

/-- Change the power state. -/
def Dev.modPower (d : Dev) (f : Power → Power) : Dev := { d with power := f d.power }

/-- What start-up raises once the dictionary is reachable. -/
def Dev.later (d : Dev) (code : Nat) (p0 p1 p2 p3 : Nat := 0) : Dev :=
  d.modPower fun p => { p with startCodes := p.startCodes ++ [(code, p0, p1, p2, p3)] }

/-! ### Keys of the journal and of image values that are not entries (DESIGN CHOICE, log 12) -/

/-- The part of composition.layer_shadow that is descriptor n (R324). -/
def layerKey (n : Nat) : Nat := 0x2000000 + n

/-- Whether a key is a part of an object that is written in parts, and its number. -/
def partOf (base count key : Nat) : Option Nat := if base ≤ key && key < base + count then some (key - base) else none

/-- A kept value takes effect. -/
def Dev.takeKept (d : Dev) (key : Nat) (v : Val) : Dev :=
  match partOf 0x2000000 512 key with
  | some n => { d with shadow := tset d.shadow n (descOf v.bytes) }
  | none => d.setKey key v

/-! ### Images (R446, R447) -/

/-- The fields of an image (Table 16-4). -/
structure Image where
  kind : Nat
  signer : Nat
  version : Nat
  length : Nat
  target : Nat
  grade : Nat
  digest : Bytes
  payload : Bytes
  signature : Bytes
deriving DecidableEq, Repr

/-- The image that bytes lay out. -/
def imageOf (b : Bytes) : Image :=
  { kind := beAt b 6 1, signer := beAt b 7 1, version := beAt b 8 4, length := beAt b 12 4, target := beAt b 16 8
    grade := beAt b 24 4, digest := slice b 32 32, payload := (b.drop 64).take (beAt b 12 4)
    signature := b.drop (64 + beAt b 12 4) }

/-- Whether a descriptor names an instance absent from the grade (R6). -/
def Dev.namesAbsent (d : Dev) (e : Desc) : Bool :=
  e.head != 0xFF && ((d.gradeHeads ≤ e.head && e.head ≤ 31) || (e.kind == 0 && d.gradeStreams ≤ e.source && e.source ≤ 127) ||
    (e.kind == 2 && d.gradeHeads ≤ e.source && e.source ≤ 31))

/-- Whether bytes are a coefficient set (Table 7-3, R197). -/
def coefOk (b : Bytes) : Bool :=
  let at_ (off i : Nat) : Int := toSigned 16 (leAt b (off + 2 * i) 2)
  let table (off taps : Nat) : Bool := (List.range 64).all fun p =>
    let c := (List.range taps).map fun k => at_ off (p * taps + k)
    c.all (fun v => -512 ≤ v && v ≤ 511) && c.foldl (· + ·) 0 == 512
  b.length == 2576 && leAt b 0 2 == 1 && crc32c (b.drop 16) == leAt b 4 4 && table 16 8 && table 1040 6 && table 1808 4 &&
    table 2320 2

/-- Whether bytes are a tone-map set (Table 7-6, R205). -/
def toneOk (b : Bytes) : Bool :=
  b.length == 41798 && leAt b 0 2 == 1 && leAt b 2 1 ≤ 3 && leAt b 3 1 ≤ 2 && crc32c (b.drop 32) == leAt b 8 4 &&
    (List.range 3072).all fun i => leAt b (35654 + 2 * i) 2 ≤ 1023

/-- Whether a configuration image may set an entry to a value: an entry present in the grade, writable, a value of its
range. -/
def Dev.imageValueOk (d : Dev) (key : Nat) (v : Val) : Bool :=
  match partOf 0x2000000 512 key with
  | some _ => v.bytes.length == 128 && !d.namesAbsent (descOf v.bytes)
  | none => (partOf 0x1000000 256 key).isSome || match objOf key with
    | none => false
    | some o => d.inGrade o (o.inst key) && o.onInstance (o.inst key) && o.wr != 0 && o.rng.ok v &&
        o.validBytes (o.encode v) && o.lengthOk (o.encode v).length

/-- The value an image gives an entry. -/
def Config.value (c : Config) (o : Obj) (i : Nat) : Option Val := tfind c.values (o.key i)

/-- The load checks of the owning chapters (R6, R178, R218, R265, R323, R373, R427). -/
def Dev.contentOk (d : Dev) (c : Config) : Bool :=
  c.values.all (fun p => d.imageValueOk p.1 p.2) &&
    c.presets.all (fun p => p.2.all fun q => !d.namesAbsent q.2) &&
    c.adjustable.all (fun k => match objOf k with
      | some o => 1 ≤ o.wr && o.wr ≤ 3
      | none => false) &&
    !c.notAdjustable.contains (O.lifecycleRequest.key 0) &&
    ((List.range 32).all fun h => c.value O.headLaneCount h != some (.num 4) ||
      (h % 2 == 0 && c.value O.headEnable (h + 1) != some (.num 1))) &&
    (match c.value O.touchPinMap 0 with
      | some v => pinMapOk v.bytes
      | none => true) &&
    c.maps.all fun p => p.2.length == 16 && (d.mapFault p.1 p.2).isNone

/-- The first failed check of R447, numbered 1 to 7 in its order; 0 for a valid image. `key` verifies configuration. -/
def Dev.imageCheck (d : Dev) (kind : Nat) (key b : Bytes) : Nat :=
  let m := imageOf b
  let verifies := if kind = 1 then Config.ecdsaVerify (Config.imageKey 0) (b.take 64) m.signature
    else d.power.life != 0 && !key.isEmpty && Config.ecdsaVerify key (b.take 64) m.signature
  if slice b 0 4 != ascii "YETH" || beAt b 4 2 != 1 || m.kind != kind then 1
  else if m.signer != kind - 1 then 2
  else if m.length = 0 || 16777088 < m.length || b.length != 64 + m.length + 64 || sha256 m.payload != m.digest then 3
  else if (m.target != 0 && m.target != d.serial) || (m.grade != 0 && m.grade != d.rn O.identityProductCode) then 4
  else if !verifies then 5
  else if kind = 1 && m.version < d.rn O.bootFwMinVersion then 6
  else if kind = 2 && !d.contentOk (Config.imageContent m.payload) then 7
  else 0

/-- The slots of a kind: A and B. -/
def Dev.imageSlots (d : Dev) (kind : Nat) : List (Nat × Bytes) :=
  let t := if kind = 1 then d.flash.fw else d.flash.cfg
  [0, 1].map fun s => (s, tget [] t s)

/-- The slots in the order they are tried (R448): the higher version first, slot A on equal versions. -/
def Dev.imageOrder (d : Dev) (kind : Nat) : List (Nat × Bytes) :=
  sortBy (fun a b => (imageOf b.2).version ≤ (imageOf a.2).version) (d.imageSlots kind)

/-- The key that verifies configuration at start-up (DESIGN CHOICE, log 12): the last one accepted. -/
def Dev.startKey (d : Dev) : Bytes :=
  ((d.dict.journal.find? fun e => e.key == O.bootConfigKey.key 0).map (·.val.bytes)).getD d.flash.cfgKey

/-- The image that start-up takes: slot and bytes. -/
def Dev.pickImage (d : Dev) (kind : Nat) : Option (Nat × Bytes) :=
  (d.imageOrder kind).find? fun p => d.imageCheck kind d.startKey p.2 == 0

/-- The code of an image kind: invalid, valid. -/
def bootCodes (kind : Nat) : Nat × Nat :=
  if kind = 1 then (Code.bootFwInvalid, Code.bootFwVerified) else (Code.bootConfigInvalid, Code.bootConfigLoaded)

/-- The slots tried, with their codes (R447, R448). -/
def Dev.tryImages (d : Dev) (kind : Nat) : Dev :=
  let good := d.pickImage kind
  let bad := (d.imageOrder kind).takeWhile fun p => some p != good
  let d := bad.foldl (fun (d : Dev) p =>
    let n := d.imageCheck kind d.startKey p.2
    let d := d.later (bootCodes kind).1 p.1 n
    if n = 5 then d.later Code.secImageSignature else d) d
  match good with
  | some p => d.later (bootCodes kind).2 p.1 0 (imageOf p.2).version
  | none => d

/-! ### The loading of kept values (R324, R448) -/

/-- The digest of the configuration image in effect; empty without one. -/
def Dev.cfgDigest (d : Dev) : Bytes := (d.flash.cfgInEffect.map (·.2.2)).getD []

/-- A new image clears the journal, apart from the Anchor's epoch. -/
def Dev.clearJournal (d : Dev) (digest : Bytes) : Dev :=
  { d with dict := { d.dict with journal := d.dict.journal.filter fun e => e.digest == digest || e.key == anchorKey } }

/-- Every object takes its journal value, else its image value, else its default. -/
def Dev.loadValues (d : Dev) (pick : Option (Nat × Bytes)) : Dev :=
  match pick with
  | none =>
    let n := (d.dict.journal.filter fun e => e.digest != [] && e.key != anchorKey).length
    let d := { d with flash := { d.flash with cfgInEffect := none }, config := default }
    (d.setN O.dictJournalDiscarded 0 n).setN O.bootConfigSlot 0 0xFF
  | some p =>
    let m := imageOf p.2
    let n := (d.dict.journal.filter fun e => e.digest != m.digest && e.key != anchorKey).length
    let d := if d.cfgDigest == m.digest then d else d.clearJournal m.digest
    let c := Config.imageContent m.payload
    let d := { d with flash := { d.flash with cfgInEffect := some (p.1, m.version, m.digest) }, config := c }
    let d := c.values.foldl (fun (d : Dev) x => d.takeKept x.1 x.2) d
    let d := (d.dict.journal.filter fun e => e.digest == m.digest && e.key != anchorKey).foldl (fun (d : Dev) e =>
      d.takeKept e.key e.val) d
    let d := { d with activeT := d.shadow, flash := { d.flash with cfgKey := d.rb O.bootConfigKey } }
    let d := (List.range 16).foldl (fun (d : Dev) i => if coefOk (d.rb O.coefData i) then d.setN O.coefLoaded i 1 else d) d
    let d := (List.range 8).foldl (fun (d : Dev) i => if toneOk (d.rb O.toneData i) then d.setN O.toneLoaded i 1 else d) d
    (((d.setN O.dictJournalDiscarded 0 n).setN O.bootConfigSlot 0 p.1).setN O.bootConfigVersion 0 m.version).setB
      O.bootConfigDigest 0 m.digest

/-! ### The health record (R416) -/

/-- The processor that runs the tasks of service core c. -/
def Dev.coreFor (d : Dev) (c : Nat) : Nat :=
  if c < 9 then ((List.range 9).find? fun k => (d.proc k).tasks.contains c).getD c else c

/-- A unit is held off, and the lowest spare of its kind takes its place: the spare, if any. -/
def Dev.holdOff (d : Dev) (k i : Nat) : Dev × Option Nat :=
  if k = 1 then
    let was := d.proc i
    let dest := if was.tasks.isEmpty then none else if (d.proc 8).state == 1 then some 8
      else (List.range 9).find? fun j => j != i && (d.proc j).state == 0
    let d := d.modProc i fun p => { p with state := 2, tasks := [] }
    match dest with
    | some j => (d.modProc j fun p => { p with state := 0, tasks := p.tasks ++ was.tasks }, if j = 8 then some 8 else none)
    | none => (d, none)
  else if k = 2 then ((d.modProc (9 + i) fun p => { p with state := 2 }).redistribute i, none)
  else if k = 3 then ({ d.modProc 13 (fun p => { p with state := 2 }) with witness := { d.witness with signBroken := true } }, none)
  else if k = 4 then
    let d := (d.modEng i fun x => { x with state := .retired })
    if i < 8 && d.engState 8 == .spare then
      (((d.modEng 8 fun x => { x with state := .active }).modEng i fun x => { x with replacedBy := some 8 }).setN O.decodeSpareState 0 0, some 8)
    else (if i = 8 then d.setN O.decodeSpareState 0 0 else d, none)
  else if k = 5 then
    let d := (d.modEe i fun x => { x with state := .retired })
    if i < 4 && (d.ee 4).state == .spare then
      (((d.modEe 4 fun x => { x with state := .active }).modEe i fun x => { x with replacedBy := some 4 }).setN O.encodeSpareState 0 0, some 4)
    else (if i = 4 then d.setN O.encodeSpareState 0 0 else d, none)
  else if k = 6 then
    let hs := d.onPipe i
    let d := d.modPp i fun p => { p with state := .retired }
    match d.sparePipes with
    | s :: _ =>
      if 16 ≤ i then (d, none)
      else (hs.foldl (fun (d : Dev) h => d.place h s (d.rn O.headPort h)) (d.modPp s fun p => { p with state := .active }), some s)
    | [] =>
      let d := hs.foldl (fun (d : Dev) h => d.place h 0xFF 0xFF) d
      ((d.byPriority (hs.filter d.headOn)).foldl (fun (d : Dev) h => match d.findPort h with
        | some (p, q) => d.place h p q
        | none => d.modHd h fun x => { x with shed := true }) d, none)
  else if k = 7 then
    ((d.modPp (i / 17) fun p => { p with bankUsed := some (i % 17) }).setN O.pipeLinestoreSpare (i / 17) 0,
      if i % 17 = 16 then none else some (17 * (i / 17) + 16))
  else if k = 8 then
    if d.bivouac.spares.contains i then
      (d.modBiv fun b => { b with retired := b.retired ++ [i], spares := b.spares.filter (· != i) }, none)
    else match d.bivouac.spares with
      | s :: rest => (d.modBiv fun b => { b with retired := b.retired ++ [i], spares := rest }, some s)
      | [] => ((d.modBiv fun b => { b with retired := b.retired ++ [i] }).setN O.bivouacCapacity 0
          ((d.rn O.bivouacCapacity : Int) - 4096), none)
  else if k = 20 then (d.modHd i fun x => { x with shed := true }, none)
  else (d, none)

/-- The health record is restored: units that passed a retest come back, retired ones, the spares first, are held off and logged
with reason 5. -/
def Dev.restoreHealth (d : Dev) : Dev :=
  let hs := d.health
  let rs := hs.fused ++ hs.retired.filter fun u => !hs.restored.contains u && !hs.fused.contains u
  let d := { d with health := { hs with retired := rs, restored := [] } }
  let spare (u : Nat × Nat) : Bool := (u.1 == 1 && u.2 == 8) || (u.1 == 4 && u.2 == 8) || (u.1 == 5 && u.2 == 4) ||
    (u.1 == 6 && 16 ≤ u.2) || (u.1 == 7 && u.2 % 17 == 16) || (u.1 == 8 && 64 ≤ u.2)
  ((rs.filter spare) ++ rs.filter fun u => !spare u).foldl (fun (d : Dev) u =>
    let r := d.holdOff u.1 u.2
    r.1.logFault 1 u.1 u.2 {} 5 (if r.2.isSome then 3 else 1) (r.2.getD 0xFFFF)) d

/-! ### Resets (R439 to R441) -/

/-- The entries that no reset clears (DESIGN CHOICE, log 5): counters of resets, fused values, the stopping code shown. -/
def lastingKeys : List Nat :=
  [O.lifecycleBootCount.key 0, O.lifecycleLastChange.key 0, O.resetLastStop.key 0, O.bootFwMinVersion.key 0,
   O.powerRailFaults.key 0, O.summitChainStart.key 0]

/-- The commands of class SVC take effect at a reset (R16): the fusing of the health record (R417) and of the lowest firmware
version (R449). -/
def Dev.takeSvc (d : Dev) : Dev :=
  let asked (o : Obj) : Bool := pendFind (d.pendOf 4) (o.key 0) == some (.num 1)
  let d := if asked O.healthRefuse then { d with health := { d.health with fused := d.health.retired } } else d
  if asked O.bootFwMinCommit then d.setN O.bootFwMinVersion 0 ((d.flash.fwInEffect.map (·.2)).getD 0 : Nat) else d

/-- The device after a reset has begun: what Table 15-6 and R440 keep, the rest cleared. -/
def Dev.cleared (d : Dev) (cold : Bool) : Dev :=
  let w := d.witness
  { clock := d.clock, freeCtr := d.freeCtr, sent := d.sent
    dict := { eff := d.dict.eff.filter fun e => lastingKeys.contains e.1, journal := d.dict.journal }
    mem := if cold then { density := d.mem.density, ranks := d.mem.ranks, ppr := d.mem.ppr, corrected := d.mem.corrected } else d.mem
    chans := d.chans.map fun p =>
      (p.1, { remaps := (p.2.remaps.filter (·.active)).map fun r => if cold then { r with poison := [] } else r
              sparesOut := p.2.sparesOut })
    witness := if cold then { keys := w.keys, keyGen := w.keyGen, capacity := w.capacity }
      else { ring := w.ring, nextSeq := w.nextSeq, exportNext := w.exportNext, lastRead := w.lastRead, nearFull := w.nearFull
             capacity := w.capacity, chainHead := w.chainHead, keys := w.keys, keyGen := w.keyGen, kept := true }
    health := if cold then { retired := d.health.retired, fused := d.health.fused, restored := d.health.restored }
      else { retired := d.health.retired, fused := d.health.fused, restored := d.health.restored, log := d.health.log, logSeq := d.health.logSeq
             logNext := d.health.logNext }
    flash := d.flash
    power := d.power }

/-- Start-up begins when nothing holds the device in reset. -/
def Dev.tryStart (d : Dev) : Dev :=
  let p := d.power
  if p.phase == .reset && !p.nreset && !p.holdRail && !p.holdHeat then
    d.modPower fun p => { p with phase := .sequencing, releasedAt := d.now }
  else d

/-- Main rails present (R435, R453). -/
def Dev.powered (d : Dev) : Bool := d.power.phase != .standby && d.power.phase != .powerDown

/-- Start-up is going on, or the device is held. -/
def Dev.startingUp (d : Dev) : Bool :=
  [Phase.reset, .sequencing, .pllLocked, .trained, .wiped].contains d.power.phase

/-- A reset begins (R439, R441). The lowest of the causes of one CLK_CTRL cycle counts; a cold reset stays cold. A stopped
device takes none but nRESET and a loss of power, to which a thermal shutdown comes down too (R443, R459). -/
def Dev.beginReset (d : Dev) (cold : Bool) (cause : Nat) : Dev :=
  if d.power.phase == .stopped && 2 < cause && cause != 5 then d
  else
    let p := d.power
    let isCold := cold || (d.startingUp && p.cold)
    let same := d.startingUp && p.causeAt == cycleOf d.now
    let d := (d.takeSvc.cleared isCold).bump O.lifecycleBootCount
    (d.modPower fun p => { p with
      phase := .reset, cold := isCold, cause := if same then min p.cause cause else cause, causeAt := cycleOf d.now
      pwrReq := true, faultN := true, porOut := true, trainFailed := [], wipeTries := 0, wipeUs := 0, wipeMiB := 0
      wakeLatched := none, wakeAt := none, wakeSource := if cause = 7 then p.wakeSource else 0, lifeNext := none
      meshFails := [], throttle := 0, thSince := none, thFrom := 0, thBelow := none, warned := false, hashWipe := false }).tryStart

/-- Start-up stops (R443). -/
def Dev.stopStart (d : Dev) (code : Nat) : Dev :=
  (d.modPower fun p => { p with phase := .stopped, stopCode := code, faultN := true, porOut := true }).setN O.resetLastStop 0 code

/-! ### Life-cycle (R428, R430, R441, R456) -/

/-- The keys are destroyed. -/
def Dev.destroyKeys (d : Dev) : Dev :=
  if d.witness.keys then ({ d with witness := { d.witness with keys := false } }).later Code.secKeyDestroyed else d

/-- A state is written to the latches with its pending flag. -/
def Dev.latch (d : Dev) (st : Nat) : Dev :=
  (d.modPower fun p => { p with lifeOld := p.life, life := st, lifePending := true, lifeNext := none }).setN
    O.lifecycleLastChange 0 (dtime d.now)

/-- An accepted change is latched and the device resets (R428). -/
def Dev.latchLife (d : Dev) : Dev :=
  match d.power.lifeNext with
  | some st => (d.latch st).beginReset false 11
  | none => d

/-- A tamper (R456). A Retired device has nothing left to protect (DEDUCED, log 40). -/
def Dev.tampered (d : Dev) : Dev :=
  if d.power.life = 4 then d
  else ((d.destroyKeys.latch 4).modPower fun p => { p with tamper := true }).beginReset true 6

/-! ### After the answer (R428, R441, R453) -/

/-- What an accepted request asks for happens once it has been answered. -/
def Dev.afterAnswer (d : Dev) (what : Option Nat) : Dev :=
  match what with
  | some 1 => d.beginReset false 9
  | some 2 => d.beginReset true 8
  | some 3 => (d.raise Code.standbyEntry).modPower fun q => { q with phase := .stoppingHeads }
  | some 4 => if d.twin.role == .lead then d.serviceRelease else d.latchLife
  | _ => d

end Sys2Proof.Machine
end

