-- ==== Sys2Proof/Machine/DictWrite.lean ====
section
/-! DEFINITION. Writes to the dictionary (R12 to R22, R324 to R328): who may write what, the rules of the owning chapters,
what an accepted entry does, the journal, requests as a whole. -/

namespace Sys2Proof.Machine

/-- Who asks: a role (1 O to 5 V), a QDP session, a CAN port, or the Lead of the twin (R328). -/
structure Asker where
  role : Nat
  session : Option Nat := none
  lead : Bool := false
deriving DecidableEq, Repr

/-- What an owning chapter makes of an entry: a code with what the refusal does to the device, or the device with the entry
accepted and the values that the journal keeps. -/
abbrev Took := Except (Nat × (Dev → Dev)) (Dev × List (Nat × Val))

/-- An entry is refused with a code. -/
def refuse (code : Nat) : Took := .error (code, id)

/-- An entry is refused with a code, and the refusal is seen on the device. -/
def refuseWith (code : Nat) (f : Dev → Dev) : Took := .error (code, f)

/-- An entry is accepted; nothing is kept. -/
def accept (d : Dev) : Took := .ok (d, [])

/-! ### Access (R326, steps 1 to 6) -/

/-- The object of a key (steps 1 to 3). -/
def Dev.findEntry (d : Dev) (key : Nat) : Except Nat Obj :=
  let os := objects.filter fun o => o.index ≤ key / 256 && key / 256 < o.index + o.insts
  match os.find? fun o => o.has key with
  | none => .error (if os.isEmpty then Code.objUnknown else Code.objSubindex)
  | some o =>
    if !o.onInstance (o.inst key) then .error Code.objSubindex
    else if !d.inGrade o (o.inst key) then .error Code.objAbsentGrade
    else .ok o

/-- Step 5 for a read: a Vendor session in Retired reads identity, life-cycle and power alone (R325). -/
def Dev.readState (d : Dev) (a : Asker) (key : Nat) : Option Nat :=
  let x := key / 256
  if d.power.life = 4 && a.role = 5 && !((0x1000 ≤ x && x ≤ 0x10FF) || (0x2000 ≤ x && x ≤ 0x20FF)) then some Code.objLifecycle
  else none

/-- Step 5 for a write (Table 12-2, R325). -/
def Dev.writeState (d : Dev) (a : Asker) (o : Obj) (key : Nat) : Option Nat :=
  let st := d.power.life
  if o.cls = .svc && st != 3 then some Code.objLifecycle
  else if st = 2 && a.role = 3 then if d.adjustable o key then none else some Code.objNotAdjustable
  else if (st = 0 && a.role = 5) || (st = 1 && 2 ≤ a.role && a.role ≤ 4) || (st = 2 && a.role = 2) || (st = 3 && 2 ≤ a.role) then
    none
  else some Code.objLifecycle

/-- Steps 1 to 6 for a read. -/
def Dev.mayRead (d : Dev) (a : Asker) (key : Nat) : Except Nat Obj :=
  match d.findEntry key with
  | .error c => .error c
  | .ok o =>
    if o.rd = 0 || a.role < o.rd then .error Code.objReadRole
    else match d.readState a key with
      | some c => .error c
      | none => .ok o

/-- A unit that follows a Lead (R326, Table 14-1). -/
def Dev.follows (d : Dev) : Bool := d.twin.role == .second || d.twin.role == .cold || d.twin.role == .withdrawn

/-- Steps 1 to 6 for a write. What the Lead has accepted needs no role and no state. -/
def Dev.mayWrite (d : Dev) (a : Asker) (key : Nat) : Except Nat Obj :=
  match d.findEntry key with
  | .error c => .error c
  | .ok o =>
    if a.lead then .ok o
    else if o.wr = 0 || a.role < o.wr then .error Code.objWriteRole
    else match d.writeState a o key with
      | some c => .error c
      | none => if d.follows && o.mirrored then .error Code.objTwinSecond else .ok o

/-! ### Values (R326, steps 7 and 8) -/

/-- Decimal digits. -/
def isDec (b : Byte) : Bool := 0x30 ≤ b.toNat && b.toNat ≤ 0x39
/-- Hexadecimal digits. -/
def isHex (b : Byte) : Bool :=
  isDec b || (0x41 ≤ b.toNat && b.toNat ≤ 0x46) || (0x61 ≤ b.toNat && b.toNat ≤ 0x66)

/-- An IPv4 literal. -/
def ip4Ok (b : Bytes) : Bool :=
  let ps := splitOn 0x2E b
  ps.length == 4 && ps.all fun p => 1 ≤ p.length && p.length ≤ 3 && p.all isDec && decLit p ≤ 255

/-- An IPv6 literal in hexadecimal groups (DESIGN CHOICE, log 19). -/
def ip6Ok (b : Bytes) : Bool :=
  let ps := splitOn 0x3A b
  let mid := (ps.drop 1).dropLast
  let gap := (mid.filter (·.isEmpty)).length
  let full := (ps.filter fun p => !p.isEmpty).length
  3 ≤ ps.length && ps.all (fun p => p.length ≤ 4 && p.all isHex) &&
    (if gap = 0 then full == 8 && ps.length == 8
     else gap == 1 && full ≤ 7 && (!(ps.head?.getD []).isEmpty || (ps.getD 1 []).isEmpty) &&
       (!(ps.getLast?.getD []).isEmpty || (ps.getD (ps.length - 2) []).isEmpty)) ||
    (ps.length == 3 && full == 0)

/-- Whether two rows name the same object. -/
def Obj.is (o x : Obj) : Bool := o.index == x.index && o.sub == x.sub

/-- The ranges of the object map that are of a form rather than of numbers: address literals, an rtsp URL; empty is none. -/
def Obj.formOk (o : Obj) (b : Bytes) : Bool :=
  b.isEmpty ||
    if o.is O.portIpv4Addr || o.is O.portIpv4Gateway then ip4Ok b
    else if o.is O.portIpv6Addr then ip6Ok b
    else if o.is O.streamDstAddr || o.is O.streamSrcAddr || o.is O.encodeDstAddr || o.is O.witnessGatewayAddr ||
      o.is O.twinAnchorAddr then ip4Ok b || ip6Ok b
    else if o.is O.streamRtspUrl then b.take 7 == ascii "rtsp://"
    else true

/-- Steps 7 and 8. -/
def Obj.valueCode (o : Obj) (b : Bytes) : Option Nat :=
  if !o.lengthOk b.length then some Code.objTypeLength
  else if !o.validBytes b || !o.rng.ok (o.decode b) || !o.formOk b then some Code.objRange
  else none

/-! ### What an accepted entry does (R16) -/

/-- A kept value waits for its event. -/
def Dev.hold (d : Dev) (cls key : Nat) (v : Val) : Dev := d.setPend cls (d.pendOf cls ++ [⟨key, v, cycleOf d.now⟩])

/-- An entry that no chapter treats apart: in effect at once, or at its event and kept (R324). -/
def Dev.takePlain (d : Dev) (o : Obj) (i j : Nat) (b : Bytes) : Took :=
  let v := o.decode b
  if o.cls = .imm then accept (d.setKey (o.key i j) v) else .ok (d.hold o.cls.code (o.key i j) v, [(o.key i j, v)])

/-- The number that bytes hold. -/
abbrev num (b : Bytes) : Nat := ofLe b

/-! ### Liveness settings (R53, R55) -/

/-- stream[s].freeze_mode (Table 2-2). -/
def hookFreezeMode (d : Dev) (a : Asker) (s : Nat) (b : Bytes) : Took :=
  if a.role = 3 && (num b = 2 || d.ln O.streamFreezeMode s = 2) then refuse Code.cairnBoundCeiling
  else d.takePlain O.streamFreezeMode s 0 b

/-- stream[s].freeze_window (R53). -/
def hookFreezeWindow (d : Dev) (a : Asker) (s : Nat) (b : Bytes) : Took :=
  if a.role = 3 && (if d.ln O.streamFreezeMode s = 0 then 2000 else 10000) < num b then refuse Code.cairnBoundCeiling
  else d.takePlain O.streamFreezeWindow s 0 b

/-- Whether a packed rectangle meets R55. -/
def rectOk (v : Nat) : Bool :=
  (List.range 4).all (fun i => v / 65536 ^ i % 4 == 0) && 16 ≤ v / 65536 % 65536 && 16 ≤ v % 65536

/-- stream[s].probe_rect. -/
def hookProbe (d : Dev) (_ : Asker) (s : Nat) (b : Bytes) : Took :=
  if rectOk (num b) then d.takePlain O.streamProbeRect s 0 b else refuse Code.cairnProbeInvalid

/-- encode[c].crop: a rectangle as R55 packs it, or 0. -/
def hookCrop (d : Dev) (_ : Asker) (c : Nat) (b : Bytes) : Took :=
  if num b = 0 || rectOk (num b) then d.takePlain O.encodeCrop c 0 b else refuse Code.objRange

/-! ### Time, witness, lanes, touch -/

/-- time.increment (R128). -/
def hookIncrement (d : Dev) (_ : Asker) (_ : Nat) (b : Bytes) : Took :=
  let nominal := 0x0002800000000000
  if d.rf O.timeServo then refuse Code.timeServoActive
  else if nominal < (num b - nominal + (nominal - num b)) * 1000 then refuse Code.timeIncrementRange
  else d.takePlain O.timeIncrement 0 0 b

/-- summit.export_ack (R100). -/
def hookExportAck (d : Dev) (_ : Asker) (_ : Nat) (b : Bytes) : Took :=
  let w := d.witness
  if num b < w.exportNext then accept d
  else if w.lastRead.any fun l => num b ≤ l then accept ({ d with witness := { w with exportNext := num b + 1 } }).summitPublish
  else refuse Code.summitAckAhead

/-- head[h].retrain (R231). -/
def hookRetrain (d : Dev) (_ : Asker) (h : Nat) (b : Bytes) : Took := accept (d.retrainHead h (num b))

/-- rope.retrain (R238, R241). -/
def hookRopeRetrain (d : Dev) (_ : Asker) (_ : Nat) (b : Bytes) : Took :=
  if num b = 1 && d.rf O.ropeEnable then accept ((d.modRope fun r => { r with lostLanes := [] }).ropeStart) else accept d

/-- panel[n].test (R291). -/
def hookPanelTest (d : Dev) (_ : Asker) (n : Nat) (b : Bytes) : Took := accept (if num b = 1 then d.panelTest n else d)

/-- Whether 32 bytes are an action region (Table 10-3). -/
def regionOk (b : Bytes) : Bool :=
  let r := regionOf b
  leAt b 0 2 < 256 && (r.panel == 0xFF ||
    (r.panel < 4 && r.kind ≤ 1 && r.confirm ≤ 1 && (r.hold == 0 || (500 ≤ r.hold && r.hold ≤ 4000)) &&
      (r.witness < 512 || r.witness == 0xFFFF) && 1 ≤ r.w && r.w ≤ 7680 && 1 ≤ r.h && r.h ≤ 4320))

/-- touch.actions (R284): each record is a part. -/
def hookActions (d : Dev) (_ : Asker) (_ : Nat) (b : Bytes) : Took :=
  let rs := chunks 32 b
  if rs.all regionOk then
    .ok (rs.foldl (fun (d : Dev) r => d.hold 1 (actionKey (leAt r 0 2)) (.raw r)) d,
      rs.map fun r => (actionKey (leAt r 0 2), .raw r))
  else refuse Code.touchActionInvalid

/-- touch.pin_map (R265). -/
def hookPinMap (d : Dev) (_ : Asker) (_ : Nat) (b : Bytes) : Took :=
  if pinMapOk b then d.takePlain O.touchPinMap 0 0 b else refuse Code.touchMapInvalid

/-- health.fault_next (R424). -/
def hookFaultNext (d : Dev) (_ : Asker) (_ : Nat) (b : Bytes) : Took :=
  accept { d with health := { d.health with logNext := num b } }

/-! ### Commit groups, layers, sets (R174 to R181, R196 to R198, R205) -/

/-- group[g].commit (R175, R177). -/
def hookCommit (d : Dev) (_ : Asker) (g : Nat) (b : Bytes) : Took :=
  if (d.grp g).cstate = 1 then
    refuseWith Code.commitBusy fun d => d.raiseRefusal g (num b) (refuse68 Code.commitBusy)
  else accept ((d.setN O.groupCommit g (num b)).requestCommit g (num b))

/-- Descriptors replaced in the shadow: each is a part (R324). -/
def Dev.putShadow (d : Dev) (es : List (Nat × Desc)) : Took :=
  .ok ({ d with shadow := es.foldl (fun t p => tset t p.1 p.2) d.shadow },
    es.map fun p => (layerKey p.1, .raw (p.2.bytes p.1)))

/-- What preset `p` leaves of the shadow descriptors of group g (R178). -/
def Dev.presetDescs (d : Dev) (g : Nat) (p : List (Nat × Desc)) : List (Nat × Desc) :=
  let gone := d.shadow.filter fun s => s.2.head < 32 && d.groupOf s.2.head == g && (tfind p s.1).isNone
  gone.map (fun s => (s.1, { s.2 with head := 0xFF })) ++ p

/-- group[g].preset (R178). -/
def hookPreset (d : Dev) (_ : Asker) (g : Nat) (b : Bytes) : Took :=
  let token := 0xFFFFFF00 + num b
  match tfind d.config.presets (64 * g + num b) with
  | none => refuse Code.commitPresetAbsent
  | some p =>
    if (d.grp g).cstate = 1 then refuseWith Code.commitBusy fun d => d.raiseRefusal g token (refuse68 Code.commitBusy)
    else match d.putShadow (d.presetDescs g p) with
      | .error e => .error e
      | .ok r => .ok ((r.1.setN O.groupPreset g (num b)).requestCommit g token, r.2)

/-- What is wrong with one descriptor of a write to the shadow (R6, R53, R181): the layers lock and its ceiling hold below
Integrator. -/
def Dev.descRefused (d : Dev) (a : Asker) (b : Bytes) : Option (Nat × (Dev → Dev)) :=
  let n := leAt b 0 2
  let e := descOf b
  let old := tget ({} : Desc) d.shadow n
  if 511 < n then some (Code.commitLayerField, id)
  else if d.namesAbsent e then some (Code.objAbsentGrade, id)
  else if a.role < 4 && !a.lead && (old.locked || e.cls != old.cls || e.locked != old.locked) then
    some (Code.commitLayerLocked, fun d => d.raise Code.commitLayerLocked n)
  else if a.role < 4 && !a.lead && e.ageBound != old.ageBound && d.ln O.cairnBoundCeiling < e.ageBound then
    some (Code.cairnBoundCeiling, id)
  else none

/-- composition.layer_shadow. -/
def hookShadow (d : Dev) (a : Asker) (_ : Nat) (b : Bytes) : Took :=
  let es := chunks 128 b
  match es.findSome? (d.descRefused a) with
  | some r => .error r
  | none => d.putShadow (es.map fun e => (leAt e 0 2, descOf e))

/-- composition.slots (R186): the form of each record of a slot that is used (DEDUCED, log 39). -/
def hookSlots (d : Dev) (_ : Asker) (_ : Nat) (b : Bytes) : Took :=
  let ok (r : Bytes) : Bool := leAt r 0 2 == 0 ||
    (leAt r 4 1 ≤ 1 && 1 ≤ leAt r 5 1 && leAt r 5 1 ≤ 4 && leAt r 16 4 % 64 == 0)
  if (chunks 32 b).all ok then d.takePlain O.compositionSlots 0 0 b else refuse Code.objRange

/-- Every table that names sets: in effect, armed, due, validating, and what a pulling head has yet to take (R198). -/
def Dev.tablesNow (d : Dev) : List Desc :=
  let of_ (t : Option GTable) : List Desc := match t with
    | some t => t.descs.map (·.2)
    | none => []
  d.activeT.map (·.2) ++ (d.groups.flatMap fun g => of_ g.2.validating ++ of_ g.2.armed ++ of_ g.2.due) ++
    d.heads.flatMap fun h => of_ h.2.late

/-- coef[n].data (R197, R198). -/
def hookCoef (d : Dev) (_ : Asker) (n : Nat) (b : Bytes) : Took :=
  if !coefOk b then refuse Code.pixCoefInvalid
  else if d.tablesNow.any fun e => e.head != 0xFF && e.coef == n then refuse Code.pixSetInUse
  else accept ((d.setB O.coefData n b).setN O.coefLoaded n 1)

/-- tone[n].data (R198, R205). -/
def hookTone (d : Dev) (_ : Asker) (n : Nat) (b : Bytes) : Took :=
  if !toneOk b then refuse Code.pixToneInvalid
  else if d.tablesNow.any fun e => e.head != 0xFF && e.tone == n then refuse Code.pixSetInUse
  else accept ((d.setB O.toneData n b).setN O.toneLoaded n 1)

/-- head[h].lane_count: 4 for an even head alone (R218). -/
def hookLaneCount (d : Dev) (_ : Asker) (h : Nat) (b : Bytes) : Took :=
  if num b = 4 && h % 2 = 1 then refuse Code.objRange else d.takePlain O.headLaneCount h 0 b

/-- stream[s].engine: a pin names the place of an engine in use (R152). -/
def hookEngine (d : Dev) (_ : Asker) (s : Nat) (b : Bytes) : Took :=
  let x := d.eng (num b)
  if num b = 0xFF || d.engState (num b) == .active || (x.state == .retired && x.replacedBy.isSome) then
    d.takePlain O.streamEngine s 0 b
  else refuse Code.decCapacity

/-- encode[c].engine (R253). -/
def hookEncEngine (d : Dev) (_ : Asker) (c : Nat) (b : Bytes) : Took :=
  let x := d.ee (num b)
  if num b = 0xFF || x.state == .active || (x.state == .retired && x.replacedBy.isSome) then d.takePlain O.encodeEngine c 0 b
  else refuse Code.encCapacity

/-! ### Memory, protection, mailboxes (R299, R321, R368, R373) -/

/-- memory.hash_mask[j] (R299). -/
def hookMask (d : Dev) (_ : Asker) (j : Nat) (b : Bytes) : Took :=
  if num b % 2 ^ 19 = 2 ^ homeBit j && num b < 2 ^ 36 then d.takePlain O.memoryHashMask 0 j b else refuse Code.memHashInvalid

/-- memory.ppr_run (R321). -/
def hookPpr (d : Dev) (_ : Asker) (_ : Nat) (b : Bytes) : Took :=
  (d.takePlain O.memoryPprRun 0 0 b).map fun r => ({ r.1 with mem := { r.1.mem with ppr := true } }, r.2)

/-- The reserved bits of a region word (Table 13-10). -/
def regionReserved : Nat := 0xF * 2 ^ 56 ||| 0x3 * 2 ^ 40 ||| 0xFFF

/-- protect[n].region_shadow[j] (R373). -/
def hookRegion (d : Dev) (_ : Asker) (n j : Nat) (b : Bytes) : Took :=
  if num b &&& regionReserved = 0 then d.takePlain O.protectRegionShadow n j b else refuse Code.objRange

/-- protect[n].commit (R373). -/
def hookProtCommit (d : Dev) (_ : Asker) (n : Nat) (b : Bytes) : Took := accept (if num b = 1 then d.protCommit n else d)

/-- Whether a session is kept from the host objects of a channel (R368). -/
def Dev.hostKept (d : Dev) (a : Asker) (m : Nat) : Bool := a.session.isNone || (d.mb m).claim != a.session

/-- mbx[m].host_claim (R368). -/
def hookClaim (d : Dev) (a : Asker) (m : Nat) (b : Bytes) : Took :=
  let held := (d.mb m).claim
  if 1 < num b then refuse Code.objRange
  else if a.role < d.rn O.mbxHostRole m then refuse Code.objWriteRole
  else if a.session.isNone || (held.isSome && held != a.session) then refuse Code.mbxCollision
  else if num b = 1 then accept (d.modMb m fun x => { x with claim := a.session })
  else accept (if held.isSome then d.hostRelease m else d)

/-- mbx[m].host_post (R368, R369): the host is end B. -/
def hookPost (d : Dev) (a : Asker) (m : Nat) (b : Bytes) : Took :=
  if d.hostKept a m || (d.mb m).d1.outstanding || d.rn O.mbxService m = 0 then refuse Code.mbxCollision
  else accept (d.mbxPost m 1 b b.length 0)

/-- mbx[m].host_take. -/
def hookTake (d : Dev) (a : Asker) (m : Nat) (b : Bytes) : Took :=
  let x := (d.mb m).d0
  if d.hostKept a m then refuse Code.mbxCollision
  else if x.full && leAt x.hdr 4 4 = num b then accept (d.mbxTake m 0) else refuse Code.objRange

/-- mbx[m].host_ack. -/
def hookAck (d : Dev) (a : Asker) (m : Nat) (b : Bytes) : Took :=
  if d.hostKept a m then refuse Code.mbxCollision else accept (d.mbxAck m 0 (num b / 2 ^ 32) (num b % 65536))

/-! ### Life-cycle, health, boot (R417, R427, R443, R449, R453) -/

/-- A request that Table 15-5 does not allow: its reason is shown and raised. -/
def lifeRefused (why : Nat) : Took :=
  refuseWith Code.lifecycleRefused fun d => (d.setN O.lifecycleRefusal 0 why).raise Code.lifecycleRefused why

/-- The least role of a transition of Table 15-5. -/
def lifeRole (old new : Nat) : Option Nat :=
  if old = 0 && (new = 1 || new = 4) then some 5 else if old = 1 && new = 2 then some 4
  else if (old = 2 && new = 3) || (old = 3 && new = 2) then some 3
  else if 1 ≤ old && old ≤ 3 && new = 4 then some 3 else none

/-- The preconditions of Table 15-5. -/
def Dev.lifeReady (d : Dev) (old new : Nat) : Bool :=
  if old = 1 && new = 2 then
    d.flash.cfgInEffect.isSome && (List.range 55).all (fun n => (d.prot n).cstate == 0 && !(d.prot n).active.isEmpty) &&
      (List.range 4).all fun j => (d.rb O.qdpRoleKey 0 j).any (· != 0)
  else if old = 3 && new = 2 then !d.health.tests.any fun b => b.why == 3
  else true

/-- lifecycle.request (R427). -/
def hookLife (d : Dev) (a : Asker) (_ : Nat) (b : Bytes) : Took :=
  let new := num b % 256
  let old := d.power.life
  if num b / 256 ≠ (if new = 4 then d.serial % 2 ^ 24 else 0) then refuse Code.objRange
  else match lifeRole old new with
    | none => lifeRefused 1
    | some r =>
      if a.role < r then lifeRefused 2
      else if !d.lifeReady old new then lifeRefused 3
      else accept (d.modPower fun p => { p with lifeNext := some new })

/-- standby.request (R453). -/
def hookStandby (d : Dev) (_ : Asker) (_ : Nat) (b : Bytes) : Took :=
  if num b = 1 && (d.power.life = 3 || (d.power.life = 2 && d.rn O.twinMode != 1)) then accept d else refuse Code.objLifecycle

/-- twin.handover (R392). -/
def hookHandover (d : Dev) (_ : Asker) (_ : Nat) (b : Bytes) : Took :=
  if num b ≠ 1 then accept d else if d.twin.partnerRole = 2 then accept d.twinHandover else refuse Code.twinCold

/-- health.test (R422). -/
def hookTest (d : Dev) (_ : Asker) (_ : Nat) (b : Bytes) : Took :=
  let v := num b
  if v / 256 % 256 = 0 && unitExists (testKind v) (testInst v) && d.unitState (testKind v) (testInst v) != .fusedOff then
    accept ((d.setN O.healthTest 0 v).startTest (testKind v) (testInst v) 1)
  else refuse Code.objRange

/-- health.retest (R417): retired units, but for those retired in fuse. -/
def hookRetest (d : Dev) (_ : Asker) (_ : Nat) (b : Bytes) : Took :=
  let v := num b
  let u := (testKind v, testInst v)
  if d.power.life ≠ 3 then refuse Code.objLifecycle
  else if v / 256 % 256 = 0 && d.health.retired.contains u && !d.health.fused.contains u then
    accept ((d.setN O.healthRetest 0 v).startTest u.1 u.2 3)
  else refuse Code.objRange

/-- An image is verified and stored in the slot not in use (R447, R449). -/
def takeImage (kind : Nat) (d : Dev) (_ : Asker) (_ : Nat) (b : Bytes) : Took :=
  let n := d.imageCheck kind (d.lb O.bootConfigKey) b
  if n != 0 then
    refuseWith (bootCodes kind).1 fun d => if n = 5 then d.raise Code.secImageSignature else d
  else if kind = 1 then
    let slot := if (d.flash.fwInEffect.map (·.1)) = some 0 then 1 else 0
    accept { d with flash := { d.flash with fw := tset d.flash.fw slot b } }
  else
    let slot := if (d.flash.cfgInEffect.map (·.1)) = some 0 then 1 else 0
    accept { d with flash := { d.flash with cfg := tset d.flash.cfg slot b } }

/-! ### PDO records (R346) -/

/-- The mapped entries of a PDO record as last accepted: `rx` an RPDO. -/
def Dev.pdoMap (d : Dev) (rx : Bool) (k : Nat) : List Nat :=
  let n := d.ln (if rx then O.rpdoCount else O.tpdoCount) k
  (List.range n).map fun j => (d.lastV (if rx then O.rpdoMap else O.tpdoMap) k j).int.toNat

/-- Whether a mapping entry may be mapped, and its bytes. -/
def Dev.mapEntry (d : Dev) (rx : Bool) (role e : Nat) : Option Nat :=
  match d.findEntry (e / 256) with
  | .error _ => none
  | .ok o =>
    let sz := o.typ.size
    if o.typ.isRaw || o.typ = .record || e % 256 ≠ 8 * sz then none
    else if rx then if o.wr = 0 || role < o.wr || o.cls = .svc then none else some sz
    else if o.rd = 0 || role < o.rd then none else some sz

/-- Whether a mapping stands: every entry may be mapped and the sum is at most 64 bytes. -/
def Dev.mappingOk (d : Dev) (rx : Bool) (k : Nat) : Bool :=
  let sizes := (d.pdoMap rx k).map (d.mapEntry rx (d.ln O.canRole (k / 8)))
  sizes.all (·.isSome) && sumL (sizes.map (·.getD 0)) ≤ 64

/-- A write to a mapping record: refused while the PDO is enabled. -/
def hookMapping (rx count : Bool) (d : Dev) (_ : Asker) (k j : Nat) (b : Bytes) : Took :=
  let o := if rx then if count then O.rpdoCount else O.rpdoMap else if count then O.tpdoCount else O.tpdoMap
  let bad : Bool := !count && num b != 0 && (d.mapEntry rx (d.ln O.canRole (k / 8)) (num b)).isNone
  if !bit (d.ln (if rx then O.rpdoCob else O.tpdoCob) k) 31 || bad then refuse Code.canopenPdoMapping
  else match d.takePlain o k j b with
    | .error e => .error e
    | .ok r => if r.1.mappingOk rx k then .ok r else refuse Code.canopenPdoMapping

/-! ### The table of the rules -/

/-- The objects whose writes a chapter treats apart. -/
def hooks : List (Obj × (Dev → Asker → Nat → Bytes → Took)) :=
  [(O.streamFreezeMode, hookFreezeMode), (O.streamFreezeWindow, hookFreezeWindow), (O.streamProbeRect, hookProbe),
   (O.encodeCrop, hookCrop), (O.timeIncrement, hookIncrement), (O.summitExportAck, hookExportAck),
   (O.headRetrain, hookRetrain), (O.ropeRetrain, hookRopeRetrain), (O.panelTest, hookPanelTest),
   (O.touchActions, hookActions), (O.touchPinMap, hookPinMap), (O.healthFaultNext, hookFaultNext),
   (O.groupCommit, hookCommit), (O.groupPreset, hookPreset), (O.compositionLayerShadow, hookShadow),
   (O.compositionSlots, hookSlots), (O.coefData, hookCoef), (O.toneData, hookTone), (O.headLaneCount, hookLaneCount),
   (O.streamEngine, hookEngine), (O.encodeEngine, hookEncEngine), (O.memoryPprRun, hookPpr),
   (O.protectCommit, hookProtCommit), (O.mbxHostClaim, hookClaim), (O.mbxHostPost, hookPost), (O.mbxHostTake, hookTake),
   (O.mbxHostAck, hookAck), (O.lifecycleRequest, hookLife), (O.standbyRequest, hookStandby), (O.healthTest, hookTest), (O.twinHandover, hookHandover),
   (O.healthRetest, hookRetest), (O.bootFwImage, takeImage 1), (O.bootConfigImage, takeImage 2)]

/-- One entry whose value has passed steps 1 to 8: the rules of its own (step 9). -/
def Dev.takeEntry (d : Dev) (a : Asker) (o : Obj) (i j : Nat) (b : Bytes) : Took :=
  if o.is O.memoryHashMask then hookMask d a j b
  else if o.is O.protectRegionShadow then hookRegion d a i j b
  else if o.is O.rpdoMap then hookMapping true false d a i j b
  else if o.is O.rpdoCount then hookMapping true true d a i j b
  else if o.is O.tpdoMap then hookMapping false false d a i j b
  else if o.is O.tpdoCount then hookMapping false true d a i j b
  else if o.is O.resetRequest then accept d
  else match hooks.find? fun h => o.is h.1 with
    | some h => h.2 d a i b
    | none => d.takePlain o i j b

end Sys2Proof.Machine
end

