-- ==== Sys2Proof/Machine/Relations.lean ====
section
/-! DEFINITION. The rules that relate objects (R327, R479): checked once for a request, against the values as the whole
request would leave them. -/

namespace Sys2Proof.Machine

/-- The device as if every accepted value were in effect. -/
def Dev.asAccepted (d : Dev) : Dev :=
  [1, 2, 3, 4].foldl (fun (d : Dev) cls => (d.pendOf cls).foldl (fun (d : Dev) w => d.setKey w.key w.val) d) d

/-- A rule: the entries it relates, and the code under which values break it. -/
structure Relation where
  touches : Nat → Bool
  broken : Dev → Option Nat

/-- Entries of objects, of one instance. -/
def ofObjs (os : List Obj) (i : Nat) (key : Nat) : Bool := os.any fun o => o.key i == key

/-- Entries of objects, of any instance. -/
def ofAny (os : List Obj) (key : Nat) : Bool := os.any fun o => o.has key

/-! ### Liveness (R53, R69) -/

/-- Whether two colours differ by less than 256 in every component. -/
def weakPair (a b : Nat) : Bool :=
  [0, 10, 20].all fun k => gapOf (a / 2 ^ k % 1024) (b / 2 ^ k % 1024) < 256

/-- A pair of colours (R69). -/
def relColours (x y : Obj) : Relation :=
  ⟨ofObjs [x, y] 0, fun d => if weakPair (d.rn x) (d.rn y) then some Code.cairnColourWeak else none⟩

/-- A bound that an Engineer writes, against the ceiling (R53). -/
def relCeiling (a : Asker) (o : Obj) (i : Nat) : Relation :=
  ⟨ofObjs [o, O.cairnBoundCeiling] i, fun d =>
    if a.role = 3 && d.rn O.cairnBoundCeiling < d.rn o i then some Code.cairnBoundCeiling else none⟩

/-! ### Streams (R115, R151 to R153) -/

/-- The greatest luma sample rate of level 5.1 (R151, R251). -/
def levelRate (h264 : Bool) : Nat := if h264 then 251658240 else 534773760

/-- The load of one context against its level (R151). -/
def relLevel (s : Nat) : Relation :=
  ⟨ofObjs [O.streamMaxWidth, O.streamMaxHeight, O.streamFrameRate, O.streamCodec] s, fun d =>
    if 100 * levelRate (d.rn O.streamCodec s == 0) <
        d.rn O.streamMaxWidth s * d.rn O.streamMaxHeight s * d.rn O.streamFrameRate s then some Code.decLevelExceeded
    else none⟩

/-- The keys of two contexts are the same (R115). -/
def Dev.sameKey (d : Dev) (s u : Nat) : Bool :=
  s != u && d.rn O.streamSourceMode s != 0 && d.rn O.streamSourceMode u != 0 && d.rn O.streamPort s == d.rn O.streamPort u &&
    d.rn O.streamVlan s == d.rn O.streamVlan u && d.keyDst s == d.keyDst u && d.keyPort s == d.keyPort u &&
    d.rb O.streamSrcAddr s == d.rb O.streamSrcAddr u

/-- Flow keys (R115). -/
def relKeys (s : Nat) : Relation :=
  ⟨ofObjs [O.streamSourceMode, O.streamPort, O.streamVlan, O.streamDstAddr, O.streamDstPort, O.streamSrcAddr] s, fun d =>
    if d.rn O.streamSourceMode s != 0 && ((d.allStreams.any fun u => d.sameKey s u) ||
        (d.keyPort s == d.rn O.qdpPort && match d.keyDst s with
          | some a => (d.portAddrs (d.rn O.streamPort s)).contains a
          | none => true)) then some Code.netFlowDuplicate
    else none⟩

/-- The QDP port against every context (R115). -/
def relQdpPort : Relation :=
  ⟨ofObjs [O.qdpPort] 0, fun d => if d.allStreams.any fun s =>
      d.rn O.streamSourceMode s != 0 && d.keyPort s == d.rn O.qdpPort && (match d.keyDst s with
        | some a => (d.portAddrs (d.rn O.streamPort s)).contains a
        | none => true) then some Code.netFlowDuplicate else none⟩

/-- The port and the address that a source mode asks for: a port in mode 1 and none in mode 2; the destination of a static
source is an address of the port or a group. -/
def relSource (s : Nat) : Relation :=
  ⟨ofObjs [O.streamSourceMode, O.streamPort, O.streamDstAddr, O.streamDstPort] s, fun d =>
    let m := d.rn O.streamSourceMode s; let a := d.rb O.streamDstAddr s
    if (m = 1 && d.rn O.streamDstPort s == 0) || (m = 2 && d.rn O.streamDstPort s != 0) ||
        (m = 1 && !isMulticast a && !(d.portAddrs (d.rn O.streamPort s)).contains a) then some Code.objRange
    else none⟩

/-- The slots of all bound contexts (R153). -/
def relSlots : Relation :=
  ⟨ofAny [O.streamSourceMode, O.streamPicSlots], fun d =>
    if 2048 < sumL ((d.allStreams.filter fun s => d.rn O.streamSourceMode s != 0).map fun s => d.rn O.streamPicSlots s) then
      some Code.decSlotsExhausted
    else none⟩

/-! ### Placement (R152, R253) -/

/-- What placing a kind of context looks at. -/
structure PlaceView where
  all : List Nat
  mode : Obj
  pin : Obj
  loads : List Obj
  shed : Nat → Bool
  now : Nat → Nat
  stands : Nat → Option Nat

/-- The engine of an accepted pin: the unit itself, or the spare in its place; none when it has neither. -/
def pinnedTo (active : Nat → Bool) (replaced : Nat → Option Nat) (p : Nat) : Option Nat :=
  if active p then some p else (replaced p).filter active

/-- Decode contexts as placing sees them; `old` is the device before the request. -/
def Dev.decView (d : Dev) : PlaceView :=
  { all := d.allStreams, mode := O.streamSourceMode, pin := O.streamEngine
    loads := [O.streamMaxWidth, O.streamMaxHeight, O.streamFrameRate]
    shed := fun s => (d.cx s).state == .shed
    now := fun s => (d.cx s).plan.getD (d.cx s).engine
    stands := pinnedTo (fun e => d.engState e == .active) fun e => (d.eng e).replacedBy }

/-- Encode contexts. -/
def Dev.encView (d : Dev) : PlaceView :=
  { all := List.range 32, mode := O.encodeSourceMode, pin := O.encodeEngine
    loads := [O.encodeOutWidth, O.encodeOutHeight, O.encodeCrop, O.encodeGroup, O.encodeDivisor, O.encodeSource]
    shed := fun c => (d.ec c).state == .shed
    now := fun c => (d.ec c).plan.getD (d.ec c).engine
    stands := pinnedTo (fun e => (d.ee e).state == .active) fun e => (d.ee e).replacedBy }

/-- The contexts to place anew: bound by the request, or whose engine it writes. -/
def PlaceView.fresh (v : PlaceView) (d0 view : Dev) (keys : List Nat) : List Nat :=
  v.all.filter fun c => view.rn v.mode c != 0 && !v.shed c && (d0.ln v.mode c = 0 || keys.contains (v.pin.key c))

/-- The assignment that the request would leave; none when a context fits nowhere. -/
def PlaceView.plan (v : PlaceView) (p : Placer) (d0 view : Dev) (keys : List Nat) : Option (List (Nat × Nat)) :=
  let new := v.fresh d0 view keys
  let kept := (v.all.filter fun c => view.rn v.mode c != 0 && !v.shed c && !new.contains c).map fun c => (c, v.now c)
  let pin (c : Nat) : Option Nat := if view.rn v.pin c = 0xFF then none else v.stands (view.rn v.pin c)
  let pinned := new.filterMap fun c => (pin c).map fun e => (c, e)
  let auto := new.filter fun c => (pin c).isNone
  let start := pinned.foldl (fun t q => tset t q.1 q.2) kept
  let r := auto.foldl (fun (acc : Option (List (Nat × Nat))) c => acc.bind fun t => (p.auto t c).map fun e => tset t c e) (some start)
  r.filter fun t => p.engines.all fun e =>
    p.fits (onEngine t e) || !(onEngine t e).any fun c => keys.any fun k => ofObjs (v.mode :: v.pin :: v.loads) c k

/-- The engine loads (R152, R253). -/
def relPlace (code : Nat) (v : PlaceView) (placer : Dev → Placer) (more : List Obj) (d0 : Dev) (keys : List Nat) : Relation :=
  ⟨ofAny (v.mode :: v.pin :: v.loads ++ more), fun view =>
    if (v.plan (placer view) d0 view keys).isNone then some code else none⟩

/-- The assignment of a request that has been accepted: it stands from the next pitch. -/
def Dev.setPlans (d d0 : Dev) (keys : List Nat) : Dev :=
  let view := d.asAccepted
  let d := match d0.decView.plan view.decPlacer d0 view keys with
    | some t => t.foldl (fun (d : Dev) q => if (d.cx q.1).plan.getD (d.cx q.1).engine = q.2 then d
        else d.modCx q.1 fun c => { c with plan := some q.2 }) d
    | none => d
  match d0.encView.plan view.encPlacer d0 view keys with
  | some t => t.foldl (fun (d : Dev) q => if (d.ec q.1).plan.getD (d.ec q.1).engine = q.2 then d
      else d.modEc q.1 fun c => { c with plan := some q.2 }) d
  | none => d

/-! ### Encode contexts (R246, R250, R251, R255) -/

/-- Sizes and level of an encode context (R250, R251). -/
def relEncSize (c : Nat) : Relation :=
  ⟨fun k => ofObjs [O.encodeSourceMode, O.encodeSource, O.encodeCrop, O.encodeOutWidth, O.encodeOutHeight, O.encodeOrient,
      O.encodeGroup, O.encodeDivisor, O.encodeCodec] c k, fun d =>
    let w := d.rn O.encodeOutWidth c; let h := d.rn O.encodeOutHeight c
    let sz := d.encInputSize c
    let k := cropSize (d.rn O.encodeCrop c) sz.1 sz.2
    let turned := d.rn O.encodeOrient c % 2 = 1
    let sw := if turned then h else w
    let sh := if turned then w else h
    let g := d.rn O.encodeGroup c
    let tooFast := levelRate (d.rn O.encodeCodec c == 0) * (d.rn O.gridRateDen g * max 1 (d.rn O.encodeDivisor c)) <
      w * h * d.rn O.gridRateNum g
    let scaled := sw ≤ k.1 && k.1 ≤ 8 * sw && sh ≤ k.2 && k.2 ≤ 8 * sh
    if 8912896 < w * h || tooFast || (d.rn O.encodeSourceMode c != 0 && !scaled) then some Code.encSizeInvalid else none⟩

/-- The source of an encode context: a head in mode 1 (its range); in mode 2 a stream with slots to spare (R246). -/
def relEncSource (c : Nat) : Relation :=
  ⟨ofObjs [O.encodeSourceMode, O.encodeSource] c, fun d =>
    let m := d.rn O.encodeSourceMode c; let s := d.rn O.encodeSource c
    if m = 1 && 31 < s then some Code.objRange
    else if m = 2 && ((d.cx s).ps.any fun p => d.rn O.streamPicSlots s < p.dpb + 3) then some Code.encSourceInvalid
    else none⟩

/-- The frame cap against its floor (R255). -/
def relCap (c : Nat) : Relation :=
  ⟨ofObjs [O.encodeFrameCap, O.encodeCodec, O.encodeOutWidth, O.encodeOutHeight] c, fun d =>
    let cap := d.rn O.encodeFrameCap c
    if cap != 0 && cap < encFloor (d.rn O.encodeCodec c == 0) (d.rn O.encodeOutWidth c) (d.rn O.encodeOutHeight c) then
      some Code.encCapFloor
    else none⟩

/-- qp_min and qp_max (their ranges). -/
def relQp (c : Nat) : Relation :=
  ⟨ofObjs [O.encodeQpMin, O.encodeQpMax] c, fun d =>
    if d.rn O.encodeQpMax c < d.rn O.encodeQpMin c then some Code.objRange else none⟩

/-! ### Heads, CAN, twin -/

/-- The lanes of an even head and its odd neighbour (R218). -/
def relLanes (h : Nat) : Relation :=
  ⟨fun k => k == O.headLaneCount.key h || k == O.headEnable.key (h + 1), fun d =>
    if h % 2 = 0 && d.rn O.headLaneCount h == 4 && d.rf O.headEnable (h + 1) then some Code.linkLanesTaken else none⟩

/-- The data rate of a CAN port is at or above its nominal rate (R342). -/
def relCan (p : Nat) : Relation :=
  ⟨ofObjs [O.canNominalRate, O.canDataRate] p, fun d =>
    if d.rn O.canDataRate p < d.rn O.canNominalRate p then some Code.objRange else none⟩

/-- A member has a path to its Anchor. -/
def relPath : Relation :=
  ⟨ofObjs [O.twinMode, O.twinAnchorPath] 0, fun d =>
    if d.rn O.twinMode == 1 && d.rn O.twinAnchorPath == 0 then some Code.objRange else none⟩

/-- The lead of the pitch records lies below the pitch less 2,000 us. -/
def relLead : Relation :=
  ⟨ofObjs [O.twinRecordLead] 0, fun d => if d.gridPeriod 0 < (d.rn O.twinRecordLead + 2000) * 1000 then some Code.objRange else none⟩

/-! ### The rules that the entries of a request touch -/

/-- The instances of objects that keys name. -/
def instsOf (base count : Nat) (keys : List Nat) : List Nat :=
  ((keys.filter fun k => base ≤ k / 256 && k / 256 < base + count).map fun k => k / 256 - base).eraseDups

/-- The rules to check for a request. -/
def Dev.relations (d : Dev) (a : Asker) (keys : List Nat) : List Relation :=
  let ss := (instsOf 0x2400 128 keys ++ instsOf 0x2980 128 keys).eraseDups
  let hs := instsOf 0x2700 32 keys ++ instsOf 0x2720 32 keys
  let cs := instsOf 0x2620 32 keys
  [relColours O.cairnWhiteoutGround O.cairnWhiteoutStripe, relColours O.cairnBadgeBack O.cairnBadgeGlyph,
   relCeiling a O.cairnGraphicBound 0, relCeiling a O.cairnWritebackBound 0, relQdpPort, relSlots, relPath, relLead, relCan 0,
   relCan 1, relPlace Code.decCapacity d.decView Dev.decPlacer [] d keys,
   relPlace Code.encCapacity d.encView Dev.encPlacer [] d keys] ++
    (ss.flatMap fun s => [relCeiling a O.streamAgeBound s, relLevel s, relKeys s, relSource s]) ++
    (cs.flatMap fun c => [relEncSize c, relEncSource c, relCap c, relQp c]) ++
    (hs.flatMap fun h => [relLanes h, relLanes (h - 1)])

/-- The last entry a rule touches. -/
def Relation.lastOf (r : Relation) (keys : List Nat) : Option Nat :=
  (keys.zipIdx.reverse.find? fun p => r.touches p.1).map (·.2)

/-- The entry and the code of the first failing rule, by entry. -/
def Dev.relationFails (d d0 : Dev) (a : Asker) (keys : List Nat) : Option (Nat × Nat) :=
  let view := d.asAccepted
  let bad := (d0.relations a keys).filterMap fun r =>
    match r.lastOf keys with
    | none => none
    | some i => (r.broken view).map fun c => (i, c)
  (sortBy (fun (x y : Nat × Nat) => x.1 ≤ y.1) bad).head?

end Sys2Proof.Machine
end

