-- ==== Sys2Proof/Machine/Requests.lean ====
section
/-! DEFINITION. Requests to the dictionary as a whole (R324, R326, R327, R338, R339): the entries of a write taken all
together or not at all, the reads, the bodies of the responses, the wait for the journal. -/

namespace Sys2Proof.Machine

/-! ### Writes -/

/-- One entry through every check of its own: the code with what the refusal does, or the device with it accepted. -/
def Dev.oneEntry (d : Dev) (a : Asker) (e : Nat × Bytes) : Took :=
  match d.mayWrite a e.1 with
  | .error c => refuse c
  | .ok o => match o.valueCode e.2 with
    | some c => refuse c
    | none => d.takeEntry a o (o.inst e.1) (o.subI e.1) e.2

/-- The entries of a request in their order, from number n on: the first refused one, or the device with all accepted and
what each keeps. -/
def takeAll (a : Asker) : Nat → List (Nat × Bytes) → Dev → List (Nat × Nat × Val) →
    Except (Nat × Nat × (Dev → Dev)) (Dev × List (Nat × Nat × Val))
  | _, [], d, kept => .ok (d, kept)
  | n, e :: r, d, kept => match d.oneEntry a e with
    | .error x => .error (n, x.1, x.2)
    | .ok x => takeAll a (n + 1) r x.1 (kept ++ x.2.map fun k => (n, k.1, k.2))

/-- The journal with what waits for it. -/
def Dev.journalNow (d : Dev) : List JEntry := (d.dict.jpend.flatMap (·.entries)).foldl journalAdd d.dict.journal

/-- The first entry whose kept values find no room in 4 MiB (R324). -/
def Dev.journalFull (d : Dev) (kept : List (Nat × Nat × Val)) : Option Nat :=
  let base := d.journalNow
  (kept.zipIdx.find? fun k =>
    4194304 < journalSize (((kept.take (k.2 + 1)).map fun x => ⟨x.2.1, x.2.2, d.cfgDigest⟩).foldl journalAdd base)).map (·.1.1)

/-- What the Lead's next record carries of a request (Table 14-6): the mirrored entries as they were written, but for
commits, which travel armed; the descriptors of a preset. -/
def Dev.deltasOf (d : Dev) (es : List (Nat × Bytes)) (kept : List (Nat × Nat × Val)) : List Delta :=
  es.zipIdx.flatMap fun e =>
    match objOf e.1.1 with
    | none => []
    | some o =>
      if !o.mirrored || o.is O.groupCommit then []
      else if o.is O.groupPreset then
        (kept.filter fun k => k.1 == e.2).map fun k => ⟨O.compositionLayerShadow.key 0, k.2.2.bytes, d.now⟩
      else [⟨e.1.1, e.1.2, d.now⟩]

/-- A write request (R326, R327): the device after it, the first failing entry with its code, what the journal keeps. -/
def Dev.writeAll (d : Dev) (a : Asker) (es : List (Nat × Bytes)) : Dev × Option (Nat × Nat) × List (Nat × Val) :=
  match takeAll a 0 es d [] with
  | .error x => (x.2.2 d, some (x.1, x.2.1), [])
  | .ok x =>
    let keys := es.map (·.1)
    match if a.lead then none else x.1.relationFails d a keys with
    | some f => (d, some f, [])
    | none => match d.journalFull x.2 with
      | some i => (d, some (i, Code.objJournalFull), [])
      | none =>
        let d' := x.1.setPlans d keys
        let d' := if d'.twin.role == .lead then
            d'.modTwin fun t => { t with deltas := t.deltas ++ d'.deltasOf es x.2 }
          else d'
        (d', none, x.2.map (·.2))

/-- The values kept, as the journal holds them. -/
def Dev.entriesFor (d : Dev) (kept : List (Nat × Val)) : List JEntry := kept.map fun k => ⟨k.1, k.2, d.cfgDigest⟩

/-- The role letters whose keys a request writes (R334). -/
def closedBy (es : List (Nat × Bytes)) : List Nat :=
  es.filterMap fun e => if O.qdpRoleKey.has e.1 then some ([0x4F, 0x50, 0x45, 0x49].getD (O.qdpRoleKey.subI e.1) 0) else none

/-- What follows the answer to a request: 1 warm reset, 2 cold reset, 3 standby, 4 the life-cycle transition. -/
def followsOf (es : List (Nat × Bytes)) : Option Nat :=
  es.findSome? fun e =>
    if e.1 = O.resetRequest.key 0 then some (num e.2) else if e.1 = O.standbyRequest.key 0 then some 3
    else if e.1 = O.lifecycleRequest.key 0 then some 4 else none

/-- The sessions of a role letter close: their key has changed (R334, R336). -/
def Dev.closeRoles (d : Dev) (rs : List Nat) : Dev :=
  (d.dict.sessions.filter fun se => rs.contains se.role && !se.peer).foldl (fun (d : Dev) se => d.closeSession se.id 3) d

/-- The body of WRITE_RESP (Table 12-6). -/
def writeResp (seq : Nat) (es : List (Nat × Bytes)) (fail : Option (Nat × Nat)) : Bytes :=
  let code (i : Nat) : Nat := match fail with
    | none => 0
    | some (n, c) => if i < n then 0 else if i = n then c else Code.objNotApplied
  be 4 seq ++ be 2 ((fail.map (·.2)).getD 0) ++ [byteOf es.length, 0] ++
    (es.zipIdx).flatMap fun e => be 2 (e.1.1 / 256) ++ [byteOf e.1.1, 0] ++ be 2 (code e.2)

/-- The entries of a WRITE body; none where it does not parse. -/
def parseWrite : Nat → Bytes → Option (List (Nat × Bytes))
  | 0, b => if b.isEmpty then some [] else none
  | n + 1, b =>
    let len := beAt b 4 4
    if b.length < 8 + len then none
    else (parseWrite n (b.drop (8 + len))).map fun r => (beAt b 0 2 * 256 + beAt b 2 1, slice b 8 len) :: r

/-! ### Reads -/

/-- One entry of a read: its code or bytes, and the type it names; the rings move as they are read. -/
def Dev.readOne (d : Dev) (a : Asker) (key off limit : Nat) : (Except Nat Bytes) × Nat × Dev :=
  let typ := ((d.findEntry key).toOption.map fun o => o.typ.code).getD 0
  match d.mayRead a key with
  | .error c => (.error c, typ, d)
  | .ok o =>
    if (o.is O.mbxHostResult || o.is O.mbxHostInbound) && d.hostKept a (o.inst key) then (.error Code.mbxCollision, typ, d)
    else
      let r := d.readBytes o (o.inst key) (o.subI key) off limit
      (r.1, typ, r.2)

/-- The entries of a READ body: key, offset, limit. -/
def parseRead (n : Nat) (b : Bytes) : Option (List (Nat × Nat × Nat)) :=
  if b.length ≠ 12 * n then none
  else some ((List.range n).map fun i =>
    (beAt b (12 * i) 2 * 256 + beAt b (12 * i + 2) 1, beAt b (12 * i + 4) 4, beAt b (12 * i + 8) 4))

/-- The entries of READ_RESP (Table 12-6), with the device after the reads. -/
def Dev.readAll (d : Dev) (a : Asker) (es : List (Nat × Nat × Nat)) : Bytes × Dev :=
  es.foldl (fun acc e =>
    let r := acc.2.readOne a e.1 e.2.1 e.2.2
    let head (st : Nat) (b : Bytes) : Bytes :=
      be 2 (e.1 / 256) ++ [byteOf e.1, byteOf r.2.1] ++ be 2 st ++ [0, 0] ++ be 4 b.length ++ b
    (acc.1 ++ (match r.1 with
      | .ok b => head 0 b
      | .error c => head c []), r.2.2)) ([], d)

/-! ### The requests of a session -/

/-- READ (R338, R339): a count of 0 or above 32, or a body that does not parse, is answered by ERROR. -/
def Dev.readRequest (d : Dev) (se : Session) (seq : Nat) (tag body : Bytes) : Dev :=
  let n := beAt body 0 1
  match if n = 0 || 32 < n then none else parseRead n (body.drop 4) with
  | none => d.qdpAnswer se.id seq tag 0x7F (errorBody seq Code.qdpLength)
  | some es =>
    let r := d.readAll { role := roleOf se.role, session := some se.id } es
    r.2.qdpAnswer se.id seq tag 0x11 (be 4 seq ++ [byteOf n] ++ zeros 3 ++ r.1)

/-- WRITE (R324, R326, R327): answered at once when nothing is kept, else when the journal has it. -/
def Dev.writeRequest (d : Dev) (se : Session) (seq : Nat) (tag body : Bytes) : Dev :=
  let n := beAt body 0 1
  match if n = 0 || 32 < n then none else parseWrite n (body.drop 4) with
  | none => d.qdpAnswer se.id seq tag 0x7F (errorBody seq Code.qdpLength)
  | some es =>
    let r := d.writeAll { role := roleOf se.role, session := some se.id } es
    let answer := writeResp seq es r.2.1
    if r.2.1.isSome then r.1.qdpAnswer se.id seq tag 0x13 answer
    else if r.2.2.isEmpty then ((r.1.qdpAnswer se.id seq tag 0x13 answer).closeRoles (closedBy es)).afterAnswer (followsOf es)
    else r.1.journalPend (r.1.entriesFor r.2.2) (some (se.id, seq, tag)) none answer (closedBy es) (followsOf es)

/-- Deltas of a pitch record, applied as writes from the Lead (R328, R399): the Second journals them as well. -/
def Dev.applyDeltas (d : Dev) (es : List (Nat × Bytes)) : Dev :=
  es.foldl (fun (d : Dev) e =>
    let r := d.writeAll { role := 5, lead := true } [e]
    if r.2.2.isEmpty then r.1 else r.1.journalPend (r.1.entriesFor r.2.2) none none []) d

end Sys2Proof.Machine
end

