-- ==== Sys2Proof/Machine/Can.lean ====
section
/-! DEFINITION. CANopen FD (R342 to R349): NMT, the USDO server, PDOs, heartbeat, bus errors. -/

namespace Sys2Proof.Machine

/-! ### NMT (R344) -/

/-- Send a CAN frame. -/
def Dev.sendCan (d : Dev) (p id : Nat) (data : Bytes) : Dev := if d.canUp p then d.emit (.can ⟨p, id, data⟩) else d

/-- A port changes its NMT state; entering pre-operational it sends its boot-up message. -/
def Dev.nmtTo (d : Dev) (p st : Nat) : Dev :=
  if (d.can p).nmt = st then d
  else
    let d := d.modCan p fun c => { c with nmt := st }
    let d := if st = 1 then d.sendCan p (0x700 + d.rn O.canNodeId p) [0] else d
    d.raise Code.canopenNmtState p st

/-- A port starts, or its communication is reset: initialising, then pre-operational. -/
def Dev.canStart (d : Dev) (p : Nat) : Dev :=
  if d.rf O.canEnable p then (((d.nmtTo p 0).modCan p fun c => { c with usdo := none }).nmtTo p 1) else d

/-- CAN_NMT_COMMAND (R344): command specifiers of CiA 301 (PRESUMED, log 37). -/
def execCanNmtCommand (t : Nat) (p : Fin 2) (command node : Nat) (s : State) : Host.Outcome State Fault Refusal :=
  s.run t fun d => d.when (d.running && d.rf O.canEnable p && (node == 0 || node == d.rn O.canNodeId p)) fun d =>
    if command = 1 then d.nmtTo p 2
    else if command = 2 then d.nmtTo p 3
    else if command = 128 then d.nmtTo p 1
    else if command = 129 || command = 130 then d.canStart p
    else d

/-! ### USDO (R345) -/

/-- The condition of Table 12-10 that a device code aborts with, numbered by its rows. -/
def abortCondition (code : Nat) : Nat :=
  if code = Code.objUnknown || code = Code.objAbsentGrade then 0
  else if code = Code.objSubindex then 1
  else if code = Code.objReadRole then 2
  else if code = Code.objWriteRole then 3
  else if code = Code.objTypeLength then 4
  else if code = Code.objRange then 5
  else if [Code.objLifecycle, Code.objNotAdjustable, Code.objTwinSecond, Code.objJournalFull].contains code then 6
  else 7

/-- A transfer ends with an abort. -/
def Dev.usdoAbort (d : Dev) (p node condition code : Nat) : Dev :=
  ((d.modCan p fun c => { c with usdo := none }).emit (.usdo p node (.abort condition))).raise Code.canopenUsdoAbort p 0 code

/-- A request ends with the abort of a device code. -/
def Dev.usdoRefuse (d : Dev) (p node code : Nat) : Dev := d.usdoAbort p node (abortCondition code) code

/-- The bytes of an expedited transfer and of a segment (PRESUMED, log 37). -/
abbrev usdoChunk : Nat := 56

/-- A write by USDO (R326, R345): one request; a kept value waits for the journal. -/
def Dev.usdoWrite (d : Dev) (p node key : Nat) (data : Bytes) : Dev :=
  let d := d.modCan p fun c => { c with usdo := none }
  let es := [(key, data)]
  let r := d.writeAll { role := d.rn O.canRole p } es
  match r.2.1 with
  | some f => r.1.usdoRefuse p node f.2
  | none =>
    if r.2.2.isEmpty then ((r.1.emit (.usdo p node .done)).closeRoles (closedBy es)).afterAnswer (followsOf es)
    else r.1.journalPend (r.1.entriesFor r.2.2) none (some p) [byteOf node] (closedBy es) (followsOf es)

/-- A read by USDO. -/
def Dev.usdoRead (d : Dev) (p node key : Nat) : Dev :=
  let r := d.readOne { role := d.rn O.canRole p } key 0 0
  match r.1 with
  | .error c => d.usdoRefuse p node c
  | .ok b =>
    if 65536 < b.length then d.usdoRefuse p node Code.objTypeLength
    else if b.length ≤ usdoChunk then r.2.2.emit (.usdo p node (.value b))
    else (r.2.2.modCan p fun c => { c with usdo := some ⟨node, key, true, b, b.length, d.now⟩ }).emit
      (.usdo p node (.start b.length))

/-- A segment of a transfer. -/
def Dev.usdoSegment (d : Dev) (p node : Nat) (u : Usdo) (data : Option Bytes) : Dev :=
  match data with
  | none =>
    let rest := u.data.drop usdoChunk
    (d.modCan p fun c => { c with usdo := if rest.isEmpty then none else some { u with data := rest, last := d.now } }).emit
      (.usdo p node (.segment (u.data.take usdoChunk) !rest.isEmpty))
  | some x =>
    let got := u.data ++ x
    if u.total < got.length then d.usdoRefuse p node Code.objTypeLength
    else if got.length = u.total then d.usdoWrite p node u.key got
    else (d.modCan p fun c => { c with usdo := some { u with data := got, last := d.now } }).emit (.usdo p node .next)

/-- The transfer of a node in a direction. -/
def Dev.usdoOf (d : Dev) (p node : Nat) (up : Bool) : Option Usdo :=
  (d.can p).usdo.filter fun u => u.node == node && u.up == up

/-- A USDO request (R345). -/
def Dev.usdo (d : Dev) (p node : Nat) (req : UsdoReq) : Dev :=
  if d.vendorOnly then d.usdoRefuse p node Code.objLifecycle
  else match req with
    | .read index sub => d.usdoRead p node (index * 256 + sub)
    | .write index sub data => d.usdoWrite p node (index * 256 + sub) data
    | .writeStart index sub total =>
      if 65536 < total then d.usdoRefuse p node Code.objTypeLength
      else (d.modCan p fun c => { c with usdo := some ⟨node, index * 256 + sub, false, [], total, d.now⟩ }).emit
        (.usdo p node .next)
    | .readSegment => match d.usdoOf p node true with
      | some u => d.usdoSegment p node u none
      | none => d
    | .writeSegment data => match d.usdoOf p node false with
      | some u => d.usdoSegment p node u (some data)
      | none => d

/-- CAN_USDO_REQUEST (R325, R345): the server runs in pre-operational and operational (R344). -/
def execCanUsdoRequest (t : Nat) (p : Fin 2) (node : Nat) (req : UsdoReq) (s : State) : Host.Outcome State Fault Refusal :=
  s.run t fun d => d.when (d.running && d.canUp p && ((d.can p).nmt == 1 || (d.can p).nmt == 2)) fun d => d.usdo p node req

/-- CAN_USDO_TIMEOUT (R345): 1 s without a segment. -/
def execCanUsdoTimeout (t : Nat) (p : Fin 2) (s : State) : Host.Outcome State Fault Refusal :=
  s.run t fun d => d.when d.running fun d => match (d.can p).usdo with
    | some u => if u.last + sec ≤ d.now then d.usdoAbort p u.node 8 0 else d
    | none => d

/-! ### PDOs (R346, R347) -/

/-- The mapped entries of a PDO in effect. -/
def Dev.pdoNow (d : Dev) (rx : Bool) (k : Nat) : List Nat :=
  (List.range (d.rn (if rx then O.rpdoCount else O.tpdoCount) k)).map fun j => d.rn (if rx then O.rpdoMap else O.tpdoMap) k j

/-- Whether a PDO runs: its port is operational and its COB-ID does not disable it. -/
def Dev.pdoRuns (d : Dev) (rx : Bool) (p k : Nat) : Bool :=
  d.canUp p && (d.can p).nmt == 2 && !bit (d.rn (if rx then O.rpdoCob else O.tpdoCob) k) 31

/-- The data of an RPDO as the entries of a write. -/
def pdoEntries : List Nat → Bytes → List (Nat × Bytes)
  | [], _ => []
  | e :: r, b => (e / 256, b.take (e % 256 / 8)) :: pdoEntries r (b.drop (e % 256 / 8))

/-- CAN_RPDO (R325, R347). -/
def execCanRpdo (t : Nat) (p : Fin 2) (n : Fin 8) (data : Bytes) (s : State) : Host.Outcome State Fault Refusal :=
  s.run t fun d =>
    let k := 8 * p.val + n.val
    d.when (d.running && d.pdoRuns true p k) fun d =>
      let es := d.pdoNow true k
      if d.vendorOnly then d.raise Code.canopenRpdoRefused p n Code.objLifecycle
      else if data.length ≠ sumL (es.map fun e => e % 256 / 8) then d.raise Code.canopenPdoLength p n
      else
        let ws := pdoEntries es data
        let r := d.writeAll { role := d.rn O.canRole p } ws
        match r.2.1 with
        | some f => r.1.raise Code.canopenRpdoRefused p n f.2
        | none =>
          if r.2.2.isEmpty then r.1.afterAnswer (followsOf ws)
          else r.1.journalPend (r.1.entriesFor r.2.2) none none [] [] (followsOf ws)

/-- The value bytes of a mapped entry. -/
def Dev.pdoValue (d : Dev) (e : Nat) : Bytes :=
  match d.findEntry (e / 256) with
  | .ok o => fit (e % 256 / 8) (o.encode (d.readVal o (o.inst (e / 256)) (o.subI (e / 256))))
  | .error _ => zeros (e % 256 / 8)

/-- CAN_TPDO_TIMER (R325, R347): at the instants that are multiples of the period. -/
def execCanTpdoTimer (t : Nat) (p : Fin 2) (n : Fin 8) (s : State) : Host.Outcome State Fault Refusal :=
  s.run t fun d =>
    let k := 8 * p.val + n.val
    d.when (d.running && d.pdoRuns false p k && !d.vendorOnly && d.now % (d.rn O.tpdoPeriod k * 1000000) == 0) fun d =>
      d.sendCan p (d.rn O.tpdoCob k % 2048) ((d.pdoNow false k).flatMap d.pdoValue)

/-! ### Heartbeat, bus (R342, R348, R349) -/

/-- The state byte of a heartbeat (CiA 301; PRESUMED, log 37). -/
def beatState (nmt : Nat) : Byte := [0x00, 0x7F, 0x05, 0x04].getD nmt 0

/-- CAN_HEARTBEAT_TIMER (R348). -/
def execCanHeartbeatTimer (t : Nat) (s : State) : Host.Outcome State Fault Refusal :=
  s.run t fun d => d.when (d.running && d.rn O.canHeartbeatPeriod != 0) fun d =>
    [0, 1].foldl (fun (d : Dev) p =>
      if (d.can p).nmt = 0 then d else d.sendCan p (0x700 + d.rn O.canNodeId p) [beatState (d.can p).nmt]) d

/-- CAN_HEARTBEAT_MISSED (R348). -/
def execCanHeartbeatMissed (t : Nat) (p : Fin 2) (consumer : Fin 4) (s : State) : Host.Outcome State Fault Refusal :=
  s.run t fun d =>
    let v := d.rn O.canHeartbeatConsumer 0 consumer
    d.when (d.running && d.rf O.canEnable p && v / 65536 % 256 != 0 && v % 65536 != 0) fun d =>
      d.raise Code.canopenHeartbeatLost p (v / 65536 % 256)

/-- CAN_CLASSICAL_FRAME (R342). -/
def execCanClassicalFrame (t : Nat) (p : Fin 2) (s : State) : Host.Outcome State Fault Refusal :=
  s.run t fun d => d.when (d.running && d.rf O.canEnable p) fun d => d.bump O.canRxIgnored p

/-- CAN_ERROR_STATE (R349). -/
def execCanErrorState (t : Nat) (p : Fin 2) (busOff : Bool) (s : State) : Host.Outcome State Fault Refusal :=
  s.run t fun d => d.when (d.running && d.rf O.canEnable p && decide ((d.can p).bus < 2)) fun d =>
    (d.modCan p fun c => { c with bus := if busOff then 2 else 1 }).raise
      (if busOff then Code.canBusOff else Code.canErrorPassive) p

/-- CAN_BUS_OFF_RECOVERY (R349). -/
def execCanBusOffRecovery (t : Nat) (p : Fin 2) (s : State) : Host.Outcome State Fault Refusal :=
  s.run t fun d => d.when (d.running && (d.can p).bus == 2) fun d =>
    (d.modCan p fun c => { c with bus := 0 }).raise Code.canBusRecovered p

end Sys2Proof.Machine
end

