-- ==== Sys2Proof/Machine/Commit.lean ====
section
/-! DEFINITION. A table takes effect (R173, R176, R200) and a head's frame starts (R83, R136, R137, R171, R212, R213): the
meanings of COMMIT_APPLY and HEAD_FRAME_START. -/

namespace Sys2Proof.Machine

/-! ### Taking a table -/

/-- A GRP value takes effect; the write it came from no longer waits. -/
def Dev.takeObj (d : Dev) (o : Nat × Val) : Dev :=
  (d.setPend 1 ((d.pendOf 1).eraseP fun w => w.key == o.1 && w.val == o.2)).setKey o.1 o.2

/-- A layer takes its descriptor of a table, its taps and the evaluation held for it (R49, R173, R200). -/
def Dev.takeDesc (d : Dev) (tb : GTable) (p : Nat × Desc) : Dev :=
  let n := p.1
  let old := d.desc n
  let taps := tapsIn tb.taps n
  let held := (d.ly n).heldEval
  let d := { d with activeT := tset d.activeT n p.2 }
  let d := d.modLy n fun y => { y with
    hist := if old.rebinds p.2 || !p.2.enabled then [] else y.hist, heldEval := none, taps := taps
    boundToken := if old == p.2 then y.boundToken else tb.token }
  let d := if taps < 6 then d.raise Code.linestoreTapsReduced n taps else d
  match held with
  | some ev => d.takeEval n p.2.head p.2.source ev
  | none => d

/-- A head stops: no frame of it follows. -/
def Dev.headStop (d : Dev) (h : Nat) : Dev :=
  let d := match (d.hd h).remap with
    | some p => d.place h p.1 p.2
    | none => d
  d.modHd h fun x => { x with
    inFrame := false, started := false, emitting := false, locked := false, nextStart := none, sealPend := none, late := none
    remap := none, wholeHatch := false, faultNext := false }

/-- head[h].enable has taken effect. -/
def Dev.headSwitched (d : Dev) (h : Nat) : Dev :=
  if d.headOn h then (d.linkEnable h).touchHead h else ((d.headStop h).linkDisable h).touchHead h

/-- The regions that a table changes (R285). -/
def Dev.newRegions (d : Dev) (tb : GTable) : List Nat :=
  tb.objs.filterMap fun o =>
    let r := o.1 - 0x1000000
    if 0x1000000 ≤ o.1 && d.regionBytes r != o.2.bytes then some r else none

/-- A table, or a part of one, takes effect. -/
def Dev.takePart (d : Dev) (tb : GTable) : Dev :=
  let rs := d.newRegions tb
  let was := d.allHeads.filter d.headOn
  let d := tb.objs.foldl (fun (d : Dev) o => d.takeObj o) d
  let d := tb.places.foldl (fun (d : Dev) p => d.place p.1 p.2.1 p.2.2) d
  let d := tb.descs.foldl (fun (d : Dev) p => d.takeDesc tb p) d
  let d := d.allHeads.foldl (fun (d : Dev) h => if was.contains h == d.headOn h then d else d.headSwitched h) d
  d.regionsChanged rs

/-- The head whose frames an entry of a table belongs to. -/
def Dev.descOwner (d : Dev) (p : Nat × Desc) : Nat := if p.2.head < 32 then p.2.head else (d.desc p.1).head

/-- The part of a table that is a head's own. -/
def Dev.partFor (d : Dev) (tb : GTable) (h : Nat) : GTable :=
  { tb with
    descs := tb.descs.filter fun p => d.descOwner p == h, objs := tb.objs.filter fun o => o.1 / 256 == 0x2700 + h
    places := tb.places.filter fun p => p.1 == h }

/-- What is left of a table without the parts of heads. -/
def Dev.partWithout (d : Dev) (tb : GTable) (hs : List Nat) : GTable :=
  { tb with
    descs := tb.descs.filter fun p => !hs.contains (d.descOwner p)
    objs := tb.objs.filter fun o => !hs.any fun h => o.1 / 256 == 0x2700 + h
    places := tb.places.filter fun p => !hs.contains p.1 }

/-- A part that waits for a head's next frame start, over one that waits already. -/
def mergeLate (old : Option GTable) (new : GTable) : GTable :=
  match old with
  | none => new
  | some o => { new with
      descs := new.descs.foldl (fun l p => tset l p.1 p.2) o.descs, objs := o.objs ++ new.objs
      taps := new.taps.foldl (fun l p => tset l p.1 p.2) o.taps, places := o.places ++ new.places }

/-- The heads of a group that pull toward its grid (R137). -/
def Dev.pulling (d : Dev) (g : Nat) : List Nat := (d.headsOf g).filter fun h => d.headOn h && (d.hd h).started && !(d.hd h).locked

/-- A due table takes effect at its instant (R176): a pulling head takes its part at its next frame start. -/
def Dev.applyTable (d : Dev) (g : Nat) (tb : GTable) : Dev :=
  let ps := d.pulling g
  let rest := d.partWithout tb ps
  let d := ps.foldl (fun (d : Dev) h => d.modHd h fun x => { x with late := some (mergeLate x.late (d.partFor tb h)) }) d
  let d := (d.takePart rest).modGrp g fun x => ({ x with due := none }).settle (x.cstate == 3)
  let d := ((d.setN O.groupAppliedToken g tb.token).setN O.groupAppliedAt g (dtime (tb.due.getD d.now))).bump O.groupCommits g
  d.raise Code.commitApplied g 0 tb.token |>.dropBuilds

/-- A due table is refused at its instant (R173): what was held for it goes, and the layers in effect whose cut-off has
passed are evaluated under the table in effect. -/
def Dev.refuseDue (d : Dev) (g : Nat) (tb : GTable) (r : Refusal68) : Dev :=
  let d := tb.descs.foldl (fun (d : Dev) p => d.modLy p.1 fun y => { y with heldEval := none }) d
  let d := (d.modGrp g fun x => ({ x with due := none }).settle true).refuseCommit g tb.token r
  let mine := d.activeT.filter fun p => p.2.head < 32 && d.groupOf p.2.head == g
  let d := mine.foldl (fun (d : Dev) p => match d.evalNext p.1 (d.lastShown p.1) with
    | some y => if y.cutoff < six d.now then d.takeEval p.1 p.2.head p.2.source y else d
    | none => d) d
  d.dropBuilds

/-- The due table of a group meets its instant. -/
def Dev.commitApply (d : Dev) (g : Nat) (tb : GTable) : Dev :=
  match if tb.recheck then d.recheckDue g tb else none with
  | some r => d.refuseDue g tb r
  | none => d.applyTable g tb

/-- COMMIT_APPLY (R173, R176). -/
def execCommitApply (t : Nat) (g : Fin 8) (s : State) : Host.Outcome State Fault Refusal :=
  s.run t fun d => d.when d.alive fun d =>
    match d.dueTable g d.now with
    | some tb => d.commitApply g tb
    | none => d

/-! ### The start of a frame -/

/-- The trim of a frame (R137): the cycles added over its vertical blanking, whether the head is locked, the start of the
frame after it. -/
structure Trim where
  extra : Int
  fits : Bool
  next : Nat
deriving DecidableEq, Repr

/-- The trim of head h's frame that starts at an instant with lines of `lc` cycles. -/
def Dev.trim (d : Dev) (h lc t : Nat) : Trim :=
  let g := d.groupOf h
  let div := d.divAt h t
  let nominal := d.rn O.headVTotal h * lc
  let goal := d.gridNext g (t + 1) div
  let diff : Int := (rdiv (6 * (goal - t)) 5 : Nat) - (nominal : Int)
  let cap := d.trimCap h lc
  if diff.natAbs ≤ cap then ⟨diff, true, goal⟩
  else
    let stop : Int := (t + rdiv (5 * nominal) 6 : Nat)
    let k := d.gridK g stop.toNat / (div : Int) * (div : Int)
    let up := d.gridAt g (k + div) - stop ≤ stop - d.gridAt g k
    let extra : Int := if up then cap else -cap
    ⟨extra, false, t + (rdivI (5 * (nominal + extra)) 6).toNat⟩

/-- A number of cycles spread over so many lines. -/
def spread (extra : Int) (lines : Nat) : List Int :=
  (List.range lines).map fun (i : Nat) => extra * (i + 1) / (lines : Int) - extra * i / (lines : Int)

/-- The copies of head h's runs at a frame's tile selection instant (R213, R215): a newer one replaces the one in use, and
what is in use counts as drawn. -/
def Dev.useCopies (d : Dev) (h sel6 : Nat) : Dev :=
  (d.runKeys h).foldl (fun (d : Dev) key => match d.copyAt key sel6 with
    | none => d
    | some c =>
      let keep (x : Copy) : Option Copy :=
        if x.key != key then some x
        else if x == c then some { x with drawn := d.now }
        else if x.completed ≤ c.completed then none
        else some x
      d.modBiv fun b => { b with copies := b.copies.filterMap keep }) d

/-- Tiles of head h's frame without a copy: the first such frame reports them (R212). -/
def Dev.noteDeferred (d : Dev) (h : Nat) : Dev :=
  let n := if (d.hd h).card then 0 else (d.deferredTiles h (d.hd h).start (d.hd h).lineCycles).1
  let was := (d.hd h).deferred
  let d := d.modHd h fun x => { x with deferred := n != 0 }
  if n != 0 && !was then d.raise Code.bivouacDeferred h n else d

/-- A head moves to the pipe and port it waits for (R171, R60). -/
def Dev.headMove (d : Dev) (h : Nat) : Dev :=
  match (d.hd h).remap with
  | some p => ((d.place h p.1 p.2).modHd h fun x => { x with remap := none, wholeHatch := false, freezeCount := 0 }).raise
      Code.headRemapped h p.1
  | none => d

/-- The frame itself: its numbers, its trim, its length, what the frame before left. -/
def Dev.beginFrame (d : Dev) (h : Nat) : Dev :=
  let t := d.now
  let lc := d.lineCycles h t
  let tr := d.trim h lc t
  let emit := (d.lk h).state == .running && d.mayEmit h && ((d.hd h).emitting || d.divAt h t == d.headDiv h)
  let alive := d.aliveFor h t
  let card := d.onCard h
  let d := d.modHd h fun x => { x with
    inFrame := true, start := t, nextStart := some tr.next, lineCycles := lc, locked := tr.fits, started := true
    blankExtra := spread tr.extra (d.rn O.headVTotal h - d.headH h), emitting := emit, alive := some alive, pitch := d.pitch
    under := [], bivLines := [], faultLine := if x.faultNext then some 0 else none, faultNext := false, card := card
    dark := if emit then x.dark else (t :: x.dark).take 4 }
  let d := ((d.layersOn h).filter fun p => (d.ly p.1).underflow).foldl (fun (d : Dev) p =>
    d.modLy p.1 fun y => { y with underflow := false }) d
  if emit then { d with time := { d.time with emitted := true } } else d

/-- A frame of head h starts; one that is to stop starts none (R453). -/
def Dev.frameStart (d : Dev) (h : Nat) : Dev :=
  let d := match (d.hd h).late with
    | some tb => (d.modHd h fun x => { x with late := none }).takePart tb
    | none => d
  if !d.headOn h then d
  else if d.power.phase == .stoppingHeads then d.headStop h
  else
    let d := (d.headMove h).beginFrame h
    let d := if (d.hd h).card then d else d.useCopies h (tileSel (d.hd h).start (d.hd h).lineCycles)
    (d.noteDeferred h).touchFrame h

/-- Whether an instant is one at which head h may start a frame (R136, R137): where its last frame ends, within a cycle; the
first frame at a grid instant. -/
def Dev.mayStart (d : Dev) (h : Nat) : Bool :=
  match (d.hd h).nextStart with
  | some n => n ≤ d.now + 1
  | none => d.gridAt (d.groupOf h) (d.gridK (d.groupOf h) d.now) == (d.now : Int)

/-- HEAD_FRAME_START (R83, R137). -/
def execHeadFrameStart (t : Nat) (h : Fin 32) (s : State) : Host.Outcome State Fault Refusal :=
  s.run t fun d => d.when (d.alive && d.headOn h && !(d.hd h).inFrame && d.mayStart h) fun d => d.frameStart h

end Sys2Proof.Machine
end

