-- ==== Sys2Proof/Machine/Health.lean ====
section
/-! DEFINITION. Health (R410 to R423) and the adjustment journal (R324): the meanings of BIST_COMPLETE, BIST_ROTATION_TIMER,
DMA_ENGINE_FAULT, HEAD_OUTPUT_STAGE_FAULT and JOURNAL_APPEND_DONE. -/

namespace Sys2Proof.Machine

/-- BIST_COMPLETE (R417, R423). -/
def execBistComplete (t : Nat) (kind inst : Nat) (pass : Bool) (s : State) : Host.Outcome State Fault Refusal :=
  s.run t fun d => d.when d.alive fun d =>
    match d.health.tests.find? fun b => b.kind == kind && b.inst == inst with
    | some b => d.testDone b pass
    | none => d

/-- BIST_ROTATION_TIMER (R421). -/
def execBistRotationTimer (t : Nat) (s : State) : Host.Outcome State Fault Refusal :=
  s.run t fun d => d.when d.alive fun d => rotationKinds.foldl (fun (d : Dev) k => d.rotateKind k) d

/-- DMA_ENGINE_FAULT (R410, R413, R414): kinds 14 to 18. -/
def execDmaEngineFault (t : Nat) (kind inst : Nat) (retryOk : Bool) (s : State) : Host.Outcome State Fault Refusal :=
  s.run t fun d => d.when (d.alive && 14 ≤ kind && kind ≤ 18 && unitExists kind inst && d.unitState kind inst == .active) fun d =>
    if !retryOk then d.engineLasting kind inst 1
    else if d.transientOver kind inst then d.engineLasting kind inst 2
    else d.noteTransient kind inst { p0 := kind, p1 := inst }

/-- HEAD_OUTPUT_STAGE_FAULT (R410, R413, R414). -/
def execHeadOutputStageFault (t : Nat) (h : Fin 32) (retryOk : Bool) (s : State) : Host.Outcome State Fault Refusal :=
  s.run t fun d => d.when (d.alive && d.headOn h && d.unitState 20 h == .active) fun d =>
    if !retryOk then d.retireStage h 1
    else if d.transientOver 20 h then d.retireStage h 2
    else d.noteTransient 20 h { p0 := h.val }

/-! ### The journal -/

/-- A new epoch of the Anchor is in the flash: its GRANT leaves (R390). -/
def Dev.epochKept (d : Dev) (x : JPend) : Dev :=
  if x.entries.any fun e => e.key == anchorKey then
    match d.anchor.lastGrant with
    | some (_, u) => (d.modAnchor fun a => { a with granting := some u }).sendGrant u
    | none => d
  else d

/-- An append is done: the entries are in the journal, and the response leaves with what follows it. -/
def Dev.journalDone (d : Dev) (x : JPend) : Dev :=
  let d := { d with dict := { d.dict with
    journal := x.entries.foldl journalAdd d.dict.journal, jpend := d.dict.jpend.filter fun y => y.ticket != x.ticket } }
  let d := match x.session with
    | some (id, seq, tag) => d.qdpAnswer id seq tag 0x13 x.body
    | none => d
  let d := match x.can with
    | some p => d.emit (.usdo p (leAt x.body 0 1) .done)
    | none => d
  ((d.epochKept x).closeRoles x.close).afterAnswer x.after

/-- JOURNAL_APPEND_DONE (R324). -/
def execJournalAppendDone (t : Nat) (ticket : Nat) (s : State) : Host.Outcome State Fault Refusal :=
  s.run t fun d => d.when d.alive fun d =>
    match d.dict.jpend.find? fun x => x.ticket == ticket with
    | some x => d.journalDone x
    | none => d

end Sys2Proof.Machine
end

