-- ==== Sys2Proof/Machine/MemChannel.lean ====
section
/-! DEFINITION. The meanings of the memory commands (chapter 11): command slots, refresh, row-disturbance and imbalance
windows, MR4, the write clock oscillator, read errors, spare rows, the scrub. -/

namespace Sys2Proof.Machine

/-- The channels run: memory has trained. -/
def Dev.memUp (d : Dev) : Bool :=
  d.alive || d.power.phase == .trained || d.power.phase == .wiped

/-- MEM_COMMAND_SLOT (R303). -/
def execMemCommandSlot (t : Nat) (ch : Fin 16) (s : State) : Host.Outcome State Fault Refusal :=
  s.run t fun d => d.when d.memUp fun d =>
    let d := d.modCh ch fun c => { c with drain := c.drainAfter }
    let d : Dev := match (d.ch ch).pick d.now with
      | some (.refresh r) => d.issueRefresh ch r
      | some (.rfm bk) => d.issueRfm ch bk
      | some (.req r) => d.issueReq ch r
      | none => d
    d.modCh ch fun c => c.takeHeld

/-- TREFI_EXPIRY (R309): issued at once unless urgent requests or row hits are pending and it may still be postponed. -/
def execTrefiExpiry (t : Nat) (ch : Fin 16) (rank : Fin 2) (s : State) : Host.Outcome State Fault Refusal :=
  s.run t fun d => d.when (d.memUp && decide (rank.val < d.mem.ranks)) fun d =>
    let c := d.ch ch
    let n := tget 0 c.owed rank + 1
    let limit := d.rn O.memoryRefreshPostpone
    let d := d.modCh ch fun c => { c with owed := tset c.owed rank n }
    if !c.busyNow d.now && n = 1 then d.issueRefresh ch rank
    else if limit ≤ n then d.modCh ch fun c => { c with forced := (c.forced ++ [rank.val]).eraseDups }
    else d

/-- RH_WINDOW_START (R306, R307). -/
def execRhWindowStart (t : Nat) (ch : Fin 16) (s : State) : Host.Outcome State Fault Refusal :=
  s.run t fun d => d.when d.memUp fun d => d.modCh ch fun c => { c with tally := [], pess := [] }

/-- IMBALANCE_WINDOW_END (R305). -/
def execImbalanceWindowEnd (t : Nat) (ch : Fin 16) (s : State) : Host.Outcome State Fault Refusal :=
  s.run t fun d => d.when d.memUp fun d =>
    let c := d.ch ch
    let total := sumL (c.acts.map (·.2))
    let most := maxL (c.acts.map (·.2))
    let im := if total = 0 then 100 else openRound 305 (100 * most * (16 * d.mem.ranks)) total
    let bk := ((c.acts.find? fun a => a.2 == most).map (·.1)).getD 0
    let warn := d.rn O.memoryImbalanceWarn
    let high := if total = 0 then decide (warn < 100) else decide (warn * total < 100 * most * (16 * d.mem.ranks))
    let beyond := if high then c.beyond + 1 else 0
    let d := (d.setN O.chanImbalance ch im).modCh ch fun c => { c with
      acts := [], beyond := beyond, warned := high && (c.warned || 10 ≤ beyond) }
    if 10 ≤ beyond && !c.warned then d.raise Code.memBankImbalance ch bk else d

/-- MR4_POLL (R310 to R312, R458). -/
def execMr4Poll (t : Nat) (ch : Fin 16) (field : Mr4) (s : State) : Host.Outcome State Fault Refusal :=
  s.run t fun d => d.when d.memUp fun d =>
    let m := match field with
      | .nominal => 1
      | .twice => 2
      | .four => 4
      | .hot => 4
    let d := d.modCh ch fun c => { c with hot := field == .hot }
    let d := if field == .hot then d.raiseOnce (60 * sec) ch Code.memDramHot ch else d
    let d := if field == .hot && d.alive && d.power.throttle = 0 then d.throttleOn else d
    if m < (d.ch ch).mult then d.modCh ch fun c => { c with multNext := some m } else d.setMult ch m

/-- WCK_OSCILLATOR_READ (R315). -/
def execWckOscillatorRead (t : Nat) (ch : Fin 16) (rank : Fin 2) (driftPs : Int) (s : State) :
    Host.Outcome State Fault Refusal :=
  s.run t fun d => d.when (d.memUp && decide (rank.val < d.mem.ranks) && decide (4 < driftPs.natAbs)) fun d =>
    d.modCh ch fun c => { c with retuneDue := (c.retuneDue ++ [rank.val]).eraseDups }

/-- MEM_UNCORRECTABLE_READ (R318): the read is repeated; no master is told yet. -/
def execMemUncorrectableRead (t : Nat) (addr : Nat) (s : State) : Host.Outcome State Fault Refusal :=
  s.run t fun d => d.when (d.memUp && decide (addr < d.mem.presented)) fun d => d.reread addr 54

/-- MEM_REREAD_DONE (R318): transient with the data, or lasting with zeros and an error response. -/
def execMemRereadDone (t : Nat) (addr : Nat) (ok : Bool) (s : State) : Host.Outcome State Fault Refusal :=
  s.runMem t fun d m =>
    let ch := (d.mem.place addr).ch
    match (d.ch ch).rereads.find? fun r => r.1 == addr with
    | none => (d, m)
    | some r =>
      let d := d.modCh ch fun c => { c with rereads := c.rereads.erase r }
      if ok then ((d.readTransient addr).emit (.access r.2 addr (Memory.read m (addr / 64 * 64) 64) false), m)
      else ((d.readLasting addr 1).emit (.access r.2 addr (zeros 64) true), m)

/-- SPARE_ROW_COPY_DONE (R319): the remap takes effect; a spare that replaces an earlier one leaves that one unused. -/
def execSpareRowCopyDone (t : Nat) (ch : Fin 16) (rank : Fin 2) (bank : Fin 16) (row : Nat) (poison : List Nat)
    (s : State) : Host.Outcome State Fault Refusal :=
  s.run t fun d =>
    let p : Place := ⟨ch, rank, bank, row, 0⟩
    match d.remapOf p false with
    | none => d
    | some r =>
      let old := d.remapOf p true
      let swap (x : Remap) : Remap :=
        if x = r then { r with poison := poison, active := true }
        else if some x = old then { x with row := d.mem.rows - 16 + x.spare }
        else x
      let d := d.modCh ch fun c => { c with remaps := c.remaps.map swap }
      d.raiseOwn (p.own Code.memRowSpared)

/-- SCRUB_PASS (R318, R320). -/
def execScrubPass (t : Nat) (addr : Nat) (found : Found) (s : State) : Host.Outcome State Fault Refusal :=
  s.run t fun d => d.when (d.memUp && d.eccAt addr && tget 0 d.health.dmaFault (unitKey 18 0) == 0) fun d =>
    let d := d.queueAccess 5 addr 1 false
    match found with
    | .good => d
    | .corrected => d.corrected addr
    | .uncorrectable => d.reread addr 54

end Sys2Proof.Machine
end

