-- ==== Sys2Proof/Machine/TwinRecord.lean ====
section
/-! DEFINITION. Pitch records and snapshots (R397 to R403, R408): their sections, the layout of Table 14-5, how a Second takes
them. The content of a section is laid out as length-prefixed parts (DEDUCED, log 38). -/

namespace Sys2Proof.Machine

/-! ### Parts -/

/-- Parts with their lengths. -/
def pack (l : List Bytes) : Bytes := l.flatMap fun b => be 4 b.length ++ b

/-- See `unpack`. -/
def unpackN : Nat → Bytes → List Bytes
  | 0, _ => []
  | n + 1, b => if b.length < 4 then [] else slice b 4 (beAt b 0 4) :: unpackN n (b.drop (4 + beAt b 0 4))

/-- The parts of a packed string. -/
def unpack (b : Bytes) : List Bytes := unpackN b.length b

/-- Part i. -/
def partAt (l : List Bytes) (i : Nat) : Bytes := l.getD i []

/-- A number as a part. -/
def num8 (n : Nat) : Bytes := be 8 n

/-- The number of part i. -/
def numAt (l : List Bytes) (i : Nat) : Nat := ofBe (partAt l i)

/-- A number that may be absent. -/
def opt8 : Option Nat → Bytes
  | none => []
  | some n => be 8 n

/-- See `opt8`. -/
def optAt (l : List Bytes) (i : Nat) : Option Nat := if (partAt l i).isEmpty then none else some (numAt l i)

/-- A list of numbers. -/
def nums (l : List Nat) : Bytes := l.flatMap num8

/-- See `nums`. -/
def numsAt (l : List Bytes) (i : Nat) : List Nat := (chunks 8 (partAt l i)).map ofBe

/-- A list of pairs of numbers. -/
def pairs (l : List (Nat × Nat)) : Bytes := l.flatMap fun p => num8 p.1 ++ num8 p.2

/-- See `pairs`. -/
def pairsAt (l : List Bytes) (i : Nat) : List (Nat × Nat) := (chunks 16 (partAt l i)).map fun b => (beAt b 0 8, beAt b 8 8)

/-- An integer as a part. -/
def int8 (v : Int) : Bytes := be 8 (ofSigned 64 v)

/-- The integer of part i. -/
def intAt (l : List Bytes) (i : Nat) : Int := toSigned 64 (numAt l i)

/-- A value of an entry. -/
def Val.pack : Val → Bytes
  | .num v => (0 : Byte) :: be 16 (ofSigned 128 v)
  | .raw b => (1 : Byte) :: b

/-- See `Val.pack`. -/
def valOf (b : Bytes) : Val := if b.head? = some 0 then .num (toSigned 128 (ofBe (b.drop 1))) else .raw (b.drop 1)

/-- A descriptor with its number. -/
def descPart (p : Nat × Desc) : Bytes := p.2.bytes p.1

/-- See `descPart`. -/
def descParts (b : Bytes) : List (Nat × Desc) := (chunks 128 b).map fun x => (leAt x 0 2, descOf x)

/-- A table of a group. -/
def GTable.pack (t : GTable) : Bytes :=
  Machine.pack [num8 t.token, t.descs.flatMap descPart, Machine.pack (t.objs.map fun o => be 4 o.1 ++ o.2.pack),
    opt8 t.carried]

/-- See `GTable.pack`. -/
def tableOf (b : Bytes) : GTable :=
  let l := unpack b
  { token := numAt l 0, descs := descParts (partAt l 1)
    objs := (unpack (partAt l 2)).map fun x => (beAt x 0 4, valOf (x.drop 4)), carried := optAt l 3 }

/-! ### Sections (Table 14-6) -/

/-- The alive counter of head h's first frame that starts at or after an instant (R83). -/
def Dev.aliveBy (d : Dev) (h p : Nat) : Nat :=
  let per := max 1 (d.gridPeriod (d.groupOf h) * d.headDiv h)
  let n := match (d.hd h).nextStart with
    | some s => if p ≤ s + 1 then 1 else 1 + cdiv (p - 1 - s) per
    | none => 1
  match (d.hd h).alive with
  | some a => Nat.repeat aliveNext n a
  | none => 0

/-- Section 1. -/
def Dev.secHeads (d : Dev) (p : Nat) : Bytes :=
  d.allHeads.flatMap fun h => be 4 (d.aliveBy h p) ++ [byteOf (d.outState h), 0, 0, 0]

/-- Section 2: the deltas between two closes, as WRITE entries. -/
def Dev.secDeltas (d : Dev) (from_ dest : Nat) : Bytes :=
  (d.twin.deltas.filter fun x => cycleOf from_ ≤ cycleOf x.time && cycleOf x.time < cycleOf dest).flatMap fun x =>
    be 2 (x.key / 256) ++ [byteOf x.key, 0] ++ be 4 x.val.length ++ x.val

/-- Section 3: what is armed and not yet applied. -/
def Dev.secCommits (d : Dev) : Bytes :=
  pack ((List.range 8).flatMap fun g => ([(d.grp g).armed, (d.grp g).due].filterMap id).map fun t => (byteOf g) :: t.pack)

/-- The newest picture of a stream. -/
def Dev.newestSlot (d : Dev) (s : Nat) : Option (Slot × Nat) :=
  ((d.cx s).slots.filterMap fun x => x.tag.bind fun t => if x.awaitOut then none else some (x, t.sequence)).foldl (fun b x =>
    match b with
    | some y => if y.2 < x.2 then some x else b
    | none => some x) none

/-- Section 4. -/
def Dev.secStreams (d : Dev) : Bytes :=
  pack ((d.allStreams.filter fun s => (d.ing s).bound).map fun s =>
    let n := d.newestSlot s
    pack [num8 s, opt8 (d.ing s).ssrc, opt8 (n.map (·.1.rtp)), opt8 (n.map (·.2)),
      nums ((((d.cx s).slots.filter fun x => x.isLong).map (·.rtp)).take 16)])

/-- Section 5. -/
def Dev.secEncode (d : Dev) : Bytes :=
  pack (((List.range 32).filter fun c => (d.ec c).state != .off).map fun c =>
    let x := d.ec c
    pack [num8 c, num8 x.level, num8 x.levelDen, int8 x.qpPrev, pairs x.sent, nums x.rows, num8 x.frame, num8 x.firstHeld,
      (x.gdr.map fun p => num8 p.1 ++ num8 p.2).getD [], opt8 x.ltr, num8 (if x.ltrOnly then 1 else 0), num8 x.seq, opt8 x.ssrc,
      num8 x.lastCrc])

/-- A grid of nodes as a part. -/
def gridPart (m : List (List Int)) : Bytes := pack (m.map fun r => r.flatMap int8)

/-- See `gridPart`. -/
def gridOf (b : Bytes) : List (List Int) := (unpack b).map fun r => (chunks 8 r).map fun x => toSigned 64 (ofBe x)

/-- Section 6: contacts, holds, disarmed regions, frequency, the baselines of some frequencies, the nodes re-baselined. -/
def Dev.secTouch (d : Dev) (full : Nat → Nat → Bool) : Bytes :=
  pack ((List.range 4).map fun n =>
    let p := d.pn n
    let fs := p.freqs.filter fun f => full n f.1
    pack [pack (p.contacts.map fun c => fit 32 c.record),
      pack (p.holds.map fun k => pack [num8 k.region, num8 k.contact, num8 k.down, num8 k.length, k.record]),
      pack (p.fired.map fun f => pack [num8 f.1, nums f.2]), num8 p.cur,
      pack (fs.filterMap fun f => f.2.base.map fun b => pack [num8 f.1, gridPart b]),
      pack (p.changed.map fun c => pack [num8 c.1, num8 c.2.1, num8 c.2.2,
        int8 (nodeAt ((p.fr c.1).base.getD []) c.2.1 c.2.2)])])

/-- Section 7. -/
def Dev.secPoints (d : Dev) (from_ : Nat) : Bytes := pack ((d.twin.points.filter fun p => from_ ≤ p.1).map (·.2))

/-- Section 8: the acknowledgements posted from a sequence on. -/
def Dev.secAcks (d : Dev) (from_ : Nat) : Bytes :=
  pack ((d.touch.ring.zipIdx.filter fun r => from_ ≤ d.touch.first + r.2 && (leAt r.1 2 1 == 4 || leAt r.1 2 1 == 6)).map fun r =>
    num8 (d.touch.first + r.2) ++ r.1)

/-- Whether a key of the register file is mirrored. -/
def mirroredKey (k : Nat) : Bool :=
  (partOf 0x1000000 256 k).isSome || (match objOf k with
    | some o => o.mirrored
    | none => false)

/-- Mirrored values in effect. -/
def Dev.secEffect (d : Dev) : Bytes := pack ((d.dict.eff.filter fun e => mirroredKey e.1).map fun e => be 4 e.1 ++ e.2.pack)

/-- Mirrored values that wait, by class, and the shadow of the layers. -/
def Dev.secShadow (d : Dev) : Bytes :=
  pack [pack ([1, 2].flatMap fun c => ((d.pendOf c).filter fun w => mirroredKey w.key).map fun w =>
      num8 c ++ be 4 w.key ++ w.val.pack), d.shadow.flatMap descPart]

/-- The tables in effect, with the token of each group. -/
def Dev.secActive (d : Dev) : Bytes :=
  pack [nums ((List.range 8).map fun g => d.rn O.groupAppliedToken g), d.activeT.flatMap descPart,
    pairs (d.layers.map fun l => (l.1, l.2.taps))]

/-! ### Layout (R398) -/

/-- A section: type, length, data padded to 8 bytes. -/
def section_ (typ : Nat) (b : Bytes) : Bytes := be 2 typ ++ [0, 0] ++ be 4 b.length ++ b ++ zeros ((8 - b.length % 8) % 8)

/-- A record of a kind. -/
def Dev.recordBytes (d : Dev) (kind pitch base close : Nat) (secs : List (Nat × Bytes)) : Bytes :=
  let body := secs.flatMap fun s => section_ s.1 s.2
  let b := be 2 1 ++ [byteOf kind, byteOf (pitch % 2)] ++ be 4 d.twin.held ++ be 4 pitch ++ be 4 base ++
    be 4 (68 + body.length) ++ be 2 secs.length ++ [0, 0] ++ dtimeBe close ++ zeros 28 ++ body
  b ++ be 4 (crc32c b)

/-- The sections of a body; none where it does not parse. -/
def parseSections : Nat → Bytes → Option (List (Nat × Bytes))
  | 0, b => if b.isEmpty then some [] else none
  | n + 1, b =>
    let len := beAt b 4 4
    let pad := (8 - len % 8) % 8
    if b.length < 8 + len + pad then none
    else (parseSections n (b.drop (8 + len + pad))).map fun r => (beAt b 0 2, slice b 8 len) :: r

/-- Whether the length a record states is that of its bytes. -/
def recordWhole (b : Bytes) : Bool := 68 ≤ b.length && b.length ≤ 2097152 && beAt b 16 4 == b.length

/-- The record that bytes lay out: kind, epoch, and what it holds. -/
def parseRecord (b : Bytes) : Option (Nat × Nat × Record) :=
  let body := (b.drop 64).take (b.length - 68)
  if !recordWhole b || crc32c (b.take (b.length - 4)) != beAt b (b.length - 4) 4 || beAt b 0 2 != 1 || 16 < beAt b 20 2 then none
  else (parseSections (beAt b 20 2) body).map fun secs =>
    (beAt b 2 1, beAt b 4 4, ⟨beAt b 8 4, beAt b 12 4, beAt b 24 6 * 10 ^ 9 + beAt b 30 4, secs⟩)

/-- The data of a section of a record; the parts of a split one follow each other. -/
def Record.sec (r : Record) (typ : Nat) : Bytes := (r.sections.filter fun s => s.1 == typ).flatMap (·.2)

/-! ### The Lead closes a record (R397, R400, R401, R403) -/

/-- The sections of record k, whose pitch starts at `p`, since a close. -/
def Dev.recordSections (d : Dev) (p pitch : Nat) (base : Close) : List (Nat × Bytes) :=
  let turn := pitch % 16
  [(1, d.secHeads p), (2, d.secDeltas base.time d.now), (3, d.secCommits), (4, d.secStreams), (5, d.secEncode),
    (6, d.secTouch fun n f => 4 * n + f == turn), (7, d.secPoints base.time), (8, d.secAcks base.touchNext)]

/-- The sections of a snapshot (R408). -/
def Dev.snapshotSections (d : Dev) (p : Nat) : List (Nat × Bytes) :=
  [(9, d.secEffect), (10, d.secShadow), (11, d.secActive), (1, d.secHeads p), (3, d.secCommits), (4, d.secStreams),
    (5, d.secEncode), (6, d.secTouch fun _ _ => true), (7, d.secPoints 0), (8, d.secAcks 0)]

/-- The parts of a snapshot: each carries a piece of one section. -/
def Dev.snapshotParts (d : Dev) (pitch p : Nat) : List Bytes :=
  (d.snapshotSections p).flatMap fun s =>
    (pieces 2000000 s.2.length s.2).map fun b => d.recordBytes 2 pitch pitch d.now [(s.1, b)]

/-- Whether the partner joins and a snapshot is to go out: none has, or one has been without effect for 1 s. -/
def Dev.snapshotWanted (d : Dev) : Bool :=
  let t := d.twin
  t.identity && d.ropeIsUp && (t.partnerRole == 1 || t.partnerRole == 3 || t.partnerRole == 5) &&
    (!t.snapSent || t.acked.any fun c => c.time + sec ≤ d.now && t.partnerApplied != c.pitch)

/-- The tables armed before a close travel in its record. -/
def Dev.carryArmed (d : Dev) (p : Nat) : Dev :=
  (List.range 8).foldl (fun (d : Dev) g => match (d.grp g).armed with
    | some t => if t.carried.isNone then d.modGrp g fun x => { x with armed := some { t with carried := some p } } else d
    | none => d) d

/-- The close of record k (R397): a snapshot goes out in its place when the partner joins. -/
def Dev.recordClose (d : Dev) : Dev :=
  let p := d.nextPitch
  let pitch := aliveNext d.pitch
  let d := d.carryArmed p
  let c : Close := ⟨pitch, d.now, d.touch.next⟩
  let base := d.twin.acked.getD ⟨0, 0, 0⟩
  if d.snapshotWanted then
    let d := (d.snapshotParts pitch p).foldl (fun (d : Dev) b => d.ropeSend 0 b) d
    d.modTwin fun x => { x with closes := [c], acked := some c, snapSent := true, partnerApplied := 0 }
  else
    let b := d.recordBytes 1 pitch base.pitch d.now (d.recordSections p pitch base)
    let d := if d.twin.identity && d.twin.acked.isSome then
        d.ropeSend 0 (if 2097152 < b.length then d.recordBytes 3 pitch base.pitch d.now [] else b)
      else d
    d.modTwin fun x => { x with closes := x.closes ++ [c] }

/-- What the partner has applied is acknowledged (R399): older closes, deltas and points go. -/
def Dev.recordAcked (d : Dev) (pitch : Nat) : Dev :=
  let d := d.modTwin fun x => { x with partnerApplied := pitch }
  match d.twin.closes.find? fun c => c.pitch == pitch with
  | none => d
  | some c =>
    let d := d.modTwin fun x => { x with
      acked := some c, closes := x.closes.dropWhile fun y => y.pitch != pitch
      deltas := x.deltas.filter fun y => cycleOf c.time ≤ cycleOf y.time, points := x.points.filter fun y => c.time ≤ y.1 }
    (List.range 4).foldl (fun (d : Dev) n => d.modPn n fun p => { p with changed := [] }) d

/-! ### A Second takes a record (R399, R401, R408) -/

/-- The heads' numbers. -/
def Dev.takeHeads (d : Dev) (b : Bytes) : Dev :=
  if b.isEmpty then d
  else d.allHeads.foldl (fun (d : Dev) h =>
    let v := beAt b (8 * h) 4
    d.modHd h fun x => { x with alive := if v = 0 then none else some (v - 1) }) d

/-- Commits that travel for the first time since the last record applied: validated against the unit's own allocation. -/
def Dev.takeCommits (d : Dev) (b : Bytes) (since : Nat) : Dev :=
  (unpack b).foldl (fun (d : Dev) x =>
    let g := beAt x 0 1
    let tb := tableOf (x.drop 1)
    if tb.carried.any fun p => since < p then
      d.modGrp g fun y => { y with cstate := 1, validating := some { tb with carried := some d.now } }
    else d) d

/-- A stream's numbers: the SSRC, long-term marks, and the difference of the picture that both hold. -/
def Dev.takeStream (d : Dev) (l : List Bytes) : Dev :=
  let s := numAt l 0
  let longs := numsAt l 4
  let d := d.modIng s fun g => { g with ssrc := (optAt l 1).or g.ssrc }
  let d := d.modCx s fun c => { c with slots := c.slots.map fun x =>
    { x with isLong := x.isLong || (x.isRef && longs.contains x.rtp) } }
  match optAt l 2, optAt l 3 with
  | some rtp, some q =>
    match ((d.cx s).slots.find? fun x => x.rtp == rtp && !x.awaitOut && !x.doomed).bind (·.tag) with
    | none => d
    | some t =>
      let move (n : Nat) : Nat := n + q - t.sequence
      let d := d.modCx s fun c => { c with
        outSeq := move c.outSeq, slots := c.slots.map fun x => { x with tag := x.tag.map fun t => { t with sequence := move t.sequence } } }
      d.modTwin fun x => { x with pics := tset x.pics s ((tget [] x.pics s).map fun p => { p with seq := move p.seq }) }
  | _, _ => d

/-- An encode context's state, between frames. -/
def Dev.takeEncode (d : Dev) (l : List Bytes) : Dev :=
  let c := numAt l 0
  let gdr := partAt l 8
  let m : EncMirror :=
    { level := numAt l 1, levelDen := max 1 (numAt l 2), qpPrev := intAt l 3, sent := pairsAt l 4, rows := numsAt l 5
      frame := numAt l 6, firstHeld := numAt l 7, gdr := if gdr.isEmpty then none else some (beAt gdr 0 8, beAt gdr 8 8)
      ltr := optAt l 9, ltrOnly := numAt l 10 != 0, seq := numAt l 11, ssrc := optAt l 12 }
  let d := d.modEc c fun x => { x with mirrorCrc := some (numAt l 13), mirror := some m }
  if d.encoding c then d else d.encMirrored c

/-- A panel's contacts, holds, disarmed regions, frequency and baselines. -/
def Dev.takePanel (d : Dev) (n : Nat) (l : List Bytes) : Dev :=
  let holds := (unpack (partAt l 1)).map fun b =>
    let k := unpack b
    ({ region := numAt k 0, contact := numAt k 1, down := numAt k 2, length := numAt k 3, record := partAt k 4 } : Hold)
  let fired := (unpack (partAt l 2)).map fun b => let k := unpack b; (numAt k 0, numsAt k 1)
  let d := d.modPn n fun p => { p with
    mirrored := unpack (partAt l 0), holds := holds, fired := fired, cur := numAt l 3 }
  let d := (unpack (partAt l 4)).foldl (fun (d : Dev) b =>
    let k := unpack b
    d.modPn n fun p => p.modFr (numAt k 0) fun f => { f with base := some (gridOf (partAt k 1)) }) d
  (unpack (partAt l 5)).foldl (fun (d : Dev) b =>
    let k := unpack b
    let i := numAt k 1; let j := numAt k 2
    let put (m : List (List Int)) : List (List Int) := m.set i ((m.getD i []).set j (intAt k 3))
    d.modPn n fun p => p.modFr (numAt k 0) fun f => { f with base := f.base.map put }) d

/-- An acknowledgement: it continues the event ring, or starts it anew under its number. -/
def Dev.takeAck (d : Dev) (b : Bytes) : Dev :=
  let q := beAt b 0 8
  let t := d.touch
  if q < t.next then d
  else if q = t.next then
    let full := 1024 ≤ t.ring.length
    let ring := (if full then t.ring.drop 1 else t.ring) ++ [b.drop 8]
    { d with touch := { t with ring := ring, first := (if full then t.first + 1 else t.first), next := q + 1 } }
  else { d with touch := { t with ring := [b.drop 8], first := q, next := q + 1 } }

/-- The state sections of a record or a snapshot. -/
def Dev.takeState (d : Dev) (r : Record) (since : Nat) : Dev :=
  let d := d.takeHeads (r.sec 1)
  let d := d.takeCommits (r.sec 3) since
  let d := (unpack (r.sec 4)).foldl (fun (d : Dev) b => d.takeStream (unpack b)) d
  let d := (unpack (r.sec 5)).foldl (fun (d : Dev) b => d.takeEncode (unpack b)) d
  let d := (unpack (r.sec 6)).zipIdx.foldl (fun (d : Dev) b => d.takePanel b.2 (unpack b.1)) d
  let d := d.modTwin fun x => { x with points := (unpack (r.sec 7)).map fun p => (d.now, p) }
  (unpack (r.sec 8)).foldl (fun (d : Dev) b => d.takeAck b) d

/-- The deltas of a record, as WRITE entries. -/
def Record.deltas (r : Record) : List (Nat × Bytes) :=
  let b := r.sec 2
  ((List.range (b.length / 8 + 1)).findSome? fun n => parseWrite n b).getD []

/-- The Second applies the record of this pitch (R399, R408). -/
def Dev.applyRecord (d : Dev) (r : Record) : Dev :=
  let d := d.applyDeltas r.deltas
  let d := d.takeState r d.twin.appliedAt
  let d := { d with pitch := r.pitch }
  let first := d.twin.joined
  let d := d.modTwin fun x => { x with
    applied := r.pitch, appliedAt := d.now, record := none, missed := 0, joined := false
    role := (if first then .second else x.role) }
  if first then (d.setN O.twinColdReason 0 0).raise Code.twinRejoined else d

/-- A record is discarded (R399); the pitch start it was for reports it no more. -/
def Dev.recordDiscard (d : Dev) (reason : Nat) : Dev :=
  ((d.modTwin fun x => { x with discarded := true }).bump O.twinRecordsDiscarded).raise Code.twinRecordDiscarded 0 reason

/-- Why a record is not verified; the pitch it is for is the next one, once the unit follows. 0: its pitch has begun, which has
reported it (Table 14-10). -/
def Dev.recordFault (d : Dev) (b : Bytes) : Except Nat Record :=
  if d.twin.role == .second && (parseRecord b).any fun x => x.2.2.pitch == d.pitch then .error 0
  else if d.nextPitch < d.now + 500000 then .error 1
  else if !recordWhole b then .error 3
  else match parseRecord b with
    | none => .error 2
    | some (_, epoch, r) =>
      if epoch < d.twin.known then .error 5
      else if r.base != d.twin.applied || (d.twin.role == .second && r.pitch != aliveNext d.pitch) then .error 4
      else .ok r

/-- A record arrives at a unit that follows or joins. -/
def Dev.recordArrives (d : Dev) (b : Bytes) : Dev :=
  if d.twin.role != .second && !d.twin.joined then d
  else
    let d := match parseRecord b with
      | some (_, e, _) => d.learnEpoch e
      | none => d
    match d.recordFault b with
    | .error 0 => d
    | .error 5 => (d.recordDiscard 5).raise Code.twinEpochStale
    | .error n => d.recordDiscard n
    | .ok r =>
      if beAt b 2 1 = 3 then d.twinCold .cold 4
      else if beAt b 2 1 = 1 then d.modTwin fun x => { x with record := some r }
      else d

/-! ### Rejoin (R408) -/

/-- Whether a key is of class PIT. -/
def pitKey (k : Nat) : Bool := match objOf k with
  | some o => o.cls == .pit
  | none => false

/-- The default of a key. -/
def dfltOf (k : Nat) : Option Val := (objOf k).map fun o => o.dflt (o.inst k) (o.subI k)

/-- The mirrored values of a snapshot replace the unit's own: those of class PIT at the next pitch start. -/
def Dev.takeEffects (d : Dev) (r : Record) : Dev :=
  let vals := (unpack (r.sec 9)).map fun b => (beAt b 0 4, valOf (b.drop 4))
  let stale := d.dict.eff.filter fun e => pitKey e.1 && mirroredKey e.1 && !vals.any fun v => v.1 == e.1
  let d := { d with dict := { d.dict with eff := d.dict.eff.filter fun e => pitKey e.1 || !mirroredKey e.1 } }
  let d := (vals.filter fun v => !pitKey v.1).foldl (fun (d : Dev) v => d.setKey v.1 v.2) d
  let sh := unpack (r.sec 10)
  let waits (c : Nat) : List PendW := ((unpack (partAt sh 0)).filter fun b => beAt b 0 8 == c).map fun b =>
    ⟨beAt b 8 4, valOf (b.drop 12), cycleOf d.now⟩
  let keep (c : Nat) : List PendW := (d.pendOf c).filter fun w => !mirroredKey w.key
  let now_ := (vals.filter fun v => pitKey v.1).map fun v => (⟨v.1, v.2, 0⟩ : PendW)
  let back := stale.filterMap fun e => (dfltOf e.1).map fun v => (⟨e.1, v, 0⟩ : PendW)
  let d := (d.setPend 1 (keep 1 ++ waits 1)).setPend 2 (keep 2 ++ back ++ now_ ++ waits 2)
  { d with shadow := (descParts (partAt sh 1)).foldl (fun t p => tset t p.1 p.2) [] }

/-- The tables in effect on the Lead take effect. -/
def Dev.takeActive (d : Dev) (r : Record) : Dev :=
  let l := unpack (r.sec 11)
  let new := descParts (partAt l 1)
  let gone := (d.activeT.filter fun p => !new.any fun q => q.1 == p.1).map fun p => (p.1, ({} : Desc))
  let d := d.takePart { token := 0, descs := new ++ gone, objs := [], taps := (pairsAt l 2).filter fun p => p.2 < 6 }
  ((List.range 8).zip (numsAt l 0)).foldl (fun (d : Dev) p => d.setN O.groupAppliedToken p.1 p.2) d

/-- The parts of a snapshot as one, when every part is verified and they belong together. -/
def Dev.snapshotOf (d : Dev) (parts : List Bytes) : Option Record :=
  let rs := parts.filterMap fun b => (parseRecord b).filter fun x => x.1 == 2 && d.twin.known ≤ x.2.1
  match rs.head? with
  | none => none
  | some x =>
    if rs.length = parts.length && rs.all (fun y => y.2.2.pitch == x.2.2.pitch) then
      some { x.2.2 with sections := rs.flatMap fun y => y.2.2.sections }
    else none

/-- A complete snapshot is applied by a member that joins. -/
def Dev.takeSnapshot (d : Dev) (r : Record) : Dev :=
  let heads := d.allHeads.filter d.headOn
  let d := (d.takeEffects r).takeActive r
  let d := d.allHeads.foldl (fun (d : Dev) h => if heads.contains h == d.headOn h then d else d.headSwitched h) d
  let d := d.takeState r 0
  (d.modTwin fun x => { x with joined := true, applied := r.pitch, appliedAt := d.now, record := none, missed := 0 }).raise
    Code.twinSnapshotDone

end Sys2Proof.Machine
end

