-- ==== Sys2Proof/Machine/Twin.lean ====
section
/-! DEFINITION. Twin operation (chapter 14): the meanings of the Anchor protocol's messages and timers, of lead, records,
heartbeats, identity and snapshots. -/

namespace Sys2Proof.Machine

/-! ### At the Anchor (R390, R407) -/

/-- BEAT from member u. -/
def Dev.beatArrives (d : Dev) (u : Nat) (b : Bytes) (session : Option Nat) : Dev :=
  let role := beAt b 20 1
  let taken := role = 4 && beAt b 16 4 == d.anchor.e
  let d := d.modMember u fun m => { m with
    present := true, lastBeat := d.now, role := role, ropeOk := bit (beAt b 21 1) 0, session := session.or m.session }
  let d := if taken then d.modAnchor fun a => { a with
      granting := if a.granting = some u then none else a.granting, lead := if a.lead = 0 then d.pairSerial u else a.lead } else d
  (d.setN O.twinLeadSerial 0 d.anchor.lead).anchorDecide

/-- REQUEST from member u: the first start-up request opens the window; the Lead's own says that there is no Lead
(DEDUCED, log 38). -/
def Dev.requestArrives (d : Dev) (u : Nat) (b : Bytes) : Dev :=
  if beAt b 20 1 ≠ 1 then d
  else
    let d := d.modAnchor fun a => { a with
      lead := if a.lead = d.pairSerial u then 0 else a.lead, window := a.window.or (some d.now) }
    (d.modMember u fun m => { m with requested := m.requested.or (some d.now) }).anchorDecide

/-- RELEASE from member u. -/
def Dev.releaseArrives (d : Dev) (u : Nat) (b : Bytes) : Dev :=
  if d.anchor.lead = d.pairSerial u then (d.modAnchor fun a => { a with released := some (beAt b 20 1) }).anchorDecide else d

/-- A message of the pair reaches the Anchor. -/
def Dev.toAnchor (d : Dev) (m : AnchorMsg) (typ : Nat) (f : Dev → Nat → Bytes → Option Nat → Dev) : Dev :=
  if d.twin.role != .anchor then d
  else d.anchorIn m typ fun d b ses => match d.unitOfSerial (beAt b 0 8) with
    | some u => f d u b ses
    | none => d

/-- ANCHOR_BEAT (R390). -/
def execAnchorBeat (t : Nat) (m : AnchorMsg) (s : State) : Host.Outcome State Fault Refusal :=
  s.run t fun d => d.when d.running fun d => d.toAnchor m 0x40 fun d u b ses => d.beatArrives u b ses

/-- ANCHOR_REQUEST (R390). -/
def execAnchorRequest (t : Nat) (m : AnchorMsg) (s : State) : Host.Outcome State Fault Refusal :=
  s.run t fun d => d.when d.running fun d => d.toAnchor m 0x42 fun d u b _ => d.requestArrives u b

/-- ANCHOR_RELEASE (R390). -/
def execAnchorRelease (t : Nat) (m : AnchorMsg) (s : State) : Host.Outcome State Fault Refusal :=
  s.run t fun d => d.when d.running fun d => d.toAnchor m 0x44 fun d u b _ => d.releaseArrives u b

/-- ANCHOR_HEALTH (R407): the Anchor keeps the summary. -/
def execAnchorHealth (t : Nat) (m : AnchorMsg) (s : State) : Host.Outcome State Fault Refusal :=
  s.run t fun d => d.when d.running fun d => d.toAnchor m 0x45 fun d _ b _ =>
    d.modTwin fun x => { x with partnerHealth := slice b 20 28 }

/-- STATE_TIMER (R390). -/
def execStateTimer (t : Nat) (s : State) : Host.Outcome State Fault Refusal :=
  s.run t fun d => d.when (d.running && d.twin.role == .anchor) fun d =>
    let d := d.anchorDecide
    let d := [0, 1].foldl (fun (d : Dev) u => if (d.member u).present then d.sendState u else d) d
    match d.anchor.granting with
    | some u => d.sendGrant u
    | none => d

/-- MEMBER_ABSENT_TIMEOUT (R390): 30 ms after the last BEAT. -/
def execMemberAbsentTimeout (t : Nat) (m : Fin 2) (s : State) : Host.Outcome State Fault Refusal :=
  s.run t fun d => d.when (d.running && d.twin.role == .anchor && (d.member m).present &&
      (d.member m).lastBeat + 30000000 ≤ d.now) fun d =>
    (d.modMember m fun x => { x with present := false }).anchorDecide

/-- REQUEST_WINDOW_EXPIRY (R390). -/
def execRequestWindowExpiry (t : Nat) (s : State) : Host.Outcome State Fault Refusal :=
  s.run t fun d => d.when (d.running && d.twin.role == .anchor) fun d => d.anchorDecide

/-! ### At a member (R386 to R396) -/

/-- A message of the Anchor reaches a member. -/
def Dev.toMember (d : Dev) (m : AnchorMsg) (typ : Nat) (f : Dev → Bytes → Dev) : Dev :=
  if d.isMember then d.anchorIn m typ fun d b _ => f d b else d

/-- STATE: contact, the epoch, the Lead; a member that starts without one asks for lead (R387, R389). -/
def Dev.stateArrives (d : Dev) (b : Bytes) : Dev :=
  let lost := !d.twin.anchorContact && d.twin.anchorLast.isSome
  let d := d.modTwin fun x => { x with anchorContact := true, anchorLast := some d.now }
  let d := if lost then d.raise Code.twinAnchorRestored else d
  let lead := beAt b 24 8
  let d := (d.learnEpoch (beAt b 16 4)).setN O.twinLeadSerial 0 lead
  if d.twin.role == .starting && (lead = 0 || lead = d.serial) && !d.inService && d.twin.grant.isNone then
    d.sendAnchor 0x42 d.twin.known [1]
  else d

/-- GRANT: accepted when it names this unit and a higher epoch (R391, R429); a Lead learns an epoch from any (R392). -/
def Dev.grantArrives (d : Dev) (b : Bytes) : Dev :=
  let e := beAt b 16 4
  if beAt b 24 8 = d.serial then
    if d.twin.known < e && !d.inService then
      d.modTwin fun x => { x with known := e, grant := some (e, d.now, beAt b 20 1 == 1) }
    else d
  else d.learnEpoch e

/-- ANCHOR_STATE (R389). -/
def execAnchorState (t : Nat) (m : AnchorMsg) (s : State) : Host.Outcome State Fault Refusal :=
  s.run t fun d => d.when d.running fun d => d.toMember m 0x41 fun d b => d.stateArrives b

/-- ANCHOR_GRANT (R391). -/
def execAnchorGrant (t : Nat) (m : AnchorMsg) (s : State) : Host.Outcome State Fault Refusal :=
  s.run t fun d => d.when d.running fun d => d.toMember m 0x43 fun d b => d.grantArrives b

/-- The BEAT of a member (Table 14-3). -/
def Dev.sendBeat (d : Dev) : Dev :=
  let t := d.twin
  let flags := mask ((if t.ropeValid then [0] else []) ++ (if t.fencePin then [1] else []) ++ (if t.leadPin then [2] else []) ++
    (if t.grant.isSome then [3] else []))
  d.sendAnchor 0x40 d.leadEpoch ([byteOf d.beatRole, byteOf flags, 0, 0] ++ be 4 d.pitch ++ be 4 t.applied ++ dtimeBe d.now)

/-- BEAT_TIMER (R387). -/
def execBeatTimer (t : Nat) (s : State) : Host.Outcome State Fault Refusal :=
  s.run t fun d => d.when (d.running && d.isMember) fun d => d.sendBeat

/-- ANCHOR_CONTACT_TIMEOUT (R389): 30 ms after the last STATE. -/
def execAnchorContactTimeout (t : Nat) (s : State) : Host.Outcome State Fault Refusal :=
  s.run t fun d => d.when (d.running && d.isMember && d.twin.anchorContact &&
      (d.twin.anchorLast.any fun a => a + 30000000 ≤ d.now)) fun d =>
    (d.modTwin fun x => { x with anchorContact := false }).raise Code.twinAnchorLost

/-- LEAD_PRE_PITCH (R384, R393, R394). -/
def execLeadPrePitch (t : Nat) (fence : Bool) (s : State) : Host.Outcome State Fault Refusal :=
  s.run t fun d => d.when (d.alive && d.isMember) fun d => d.prePitch fence

/-- TWIN_FENCE_RISE (R394): a rise while the unit holds lead starts its count. -/
def execTwinFenceRise (t : Nat) (s : State) : Host.Outcome State Fault Refusal :=
  s.run t fun d => d.when (d.alive && d.isMember) fun d =>
    d.modTwin fun x => { x with
      fencePin := true, fenceRise := if x.role == .lead && !x.fencePin then some 0 else x.fenceRise }

/-! ### Records (R397 to R403) -/

/-- RECORD_CLOSE (R397). -/
def execRecordClose (t : Nat) (s : State) : Host.Outcome State Fault Refusal :=
  s.run t fun d => d.when (d.running && d.twin.role == .lead) fun d => d.recordClose

/-- RECORD_RECEIVED (R399). -/
def execRecordReceived (t : Nat) (data : Bytes) (s : State) : Host.Outcome State Fault Refusal :=
  s.run t fun d => d.when (d.running && d.isMember) fun d => d.recordArrives data

/-- SNAPSHOT_RECEIVED (R408): only for a member that joins and whose identity agrees. -/
def execSnapshotReceived (t : Nat) (parts : List Bytes) (s : State) : Host.Outcome State Fault Refusal :=
  s.run t fun d => d.when (d.running && d.isMember && d.twin.role != .lead && d.twin.role != .second && d.twin.identity) fun d =>
    match d.snapshotOf parts with
    | some r => d.takeSnapshot r
    | none => d

/-! ### Heartbeats and the cross-check (R404 to R407) -/

/-- The newest frame of head h whose last active line left before this pitch. -/
def Dev.hbFrame (d : Dev) (h : Nat) : Option FrameRec := (d.hd h).frames.find? fun f => f.ended < d.pitchAt

/-- The newest picture of stream s completed before this pitch. -/
def Dev.hbPic (d : Dev) (s : Nat) : Option PicRec := (tget [] d.twin.pics s).find? fun p => p.done < d.pitchAt

/-- The entry of a head (Table 14-8). -/
def headEntry : Option FrameRec → Bytes
  | none => zeros 16
  | some f => be 4 f.alive ++ be 4 f.crc ++ be 4 f.digest ++
      [byteOf f.flags, byteOf (mask ((if f.composed then [0] else []) ++ (if f.deferred then [1] else []))), 0, 0]

/-- The entry of a stream. -/
def picEntry : Option PicRec → Bytes
  | none => zeros 12
  | some p => be 4 p.seq ++ be 4 p.sum ++ [byteOf p.integrity, 1, 0, 0]

/-- The rope heartbeat (Table 14-8). -/
def Dev.heartbeat (d : Dev) : Bytes :=
  let t := d.twin
  let lead := t.role == .lead
  let flags := mask ((if t.anchorContact then [0] else []) ++ (if t.grant.isSome then [1] else []) ++
    (if d.beatRole = 3 then [2] else []) ++ (if (lead && t.snapSent) || t.joined then [3] else []) ++ (if t.leadPin then [4] else []))
  let applied := if lead then ((t.closes.getLast?).map (·.pitch)).getD 0 else t.applied
  be 2 1 ++ [byteOf (d.rn O.twinUnitId), byteOf d.beatRole] ++ be 4 t.known ++ be 8 d.serial ++ be 4 d.pitch ++ be 4 applied ++
    [byteOf flags] ++ zeros 11 ++ d.healthSummary ++ ((List.range 32).flatMap fun h => headEntry (d.hbFrame h)) ++
    (List.range 128).flatMap fun s => picEntry (d.hbPic s)

/-- HEARTBEAT_SEND (R404). -/
def execHeartbeatSend (t : Nat) (s : State) : Host.Outcome State Fault Refusal :=
  s.run t fun d => d.when (d.running && d.isMember) fun d => d.ropeSend 0x20 d.heartbeat

/-- A mismatch of a head (key h) or a stream (key 64 + s), by its code (R406): lasting when the comparison before it
differed too; then the unit concerned is tested. -/
def Dev.mismatch (d : Dev) (key code unit kind inst : Nat) (o : Obj) : Dev :=
  let again := d.twin.mism.contains key
  let d := d.modTwin fun x => { x with
    mism := if again then x.mism else x.mism ++ [key], mismLog := d.now :: x.mismLog.filter fun t => d.now < t + sec }
  let d := (d.bump o).raise code unit 0 (if again then 1 else 0)
  if again && unitExists kind inst then d.startTest kind inst 2 else d

/-- A comparison that agrees ends a mismatch. -/
def Dev.agrees (d : Dev) (key : Nat) : Dev := d.modTwin fun x => { x with mism := x.mism.filter (· != key) }

/-- The flags of a seal that exclude a frame from comparison: pipe_fault, underflow, head_frozen. -/
def excluded (flags : Nat) : Bool := bit flags 7 || bit flags 5 || bit flags 0

/-- Unequal digests of head h: the run of pitches (R406). -/
def Dev.digestStep (d : Dev) (h : Nat) (equal : Bool) : Dev :=
  let n := if equal then 0 else tget 0 d.twin.digestRun h + 1
  let d := d.modTwin fun x => { x with digestRun := tset x.digestRun h n }
  let d := if equal then d else d.bump O.twinDigestDifferences
  if 8 ≤ n then d.raiseOnce sec h Code.twinDigestMismatch h else d

/-- Head h against the partner's entry. -/
def Dev.compareHead (d : Dev) (h : Nat) (e : Bytes) : Dev :=
  let apart := d.modTwin fun x => { x with digestRun := tset x.digestRun h 0 }
  match d.hbFrame h with
  | none => apart
  | some f =>
    let pf := beAt e 13 1
    if beAt e 0 4 != f.alive then apart
    else
      let d := d.digestStep h (beAt e 8 4 == f.digest)
      if !(f.composed && bit pf 0) || beAt e 8 4 != f.digest || f.deferred || bit pf 1 || excluded f.flags || excluded (beAt e 12 1) then d
      else
        let d := d.bump O.twinComparedHeads
        if beAt e 4 4 = f.crc then d.agrees h
        else d.mismatch h Code.twinCrcMismatch h 6 (d.rn O.headPipe h) O.twinCrcMismatches

/-- Stream s against the partner's entry. -/
def Dev.comparePic (d : Dev) (s : Nat) (e : Bytes) : Dev :=
  if beAt e 9 1 ≠ 1 || beAt e 8 1 ≠ 0 then d
  else
    let clean := ((tget [] d.twin.pics s).filter fun p => p.integrity == 0).take 8
    match clean.find? fun p => p.seq % 2 ^ 32 == beAt e 0 4 with
    | none => d
    | some p =>
      if beAt e 4 4 = p.sum then d.agrees (64 + s)
      else d.mismatch (64 + s) Code.twinChecksumMismatch s 4 (d.cx s).engine O.twinChecksumMismatches

/-- Whether a summary with its COLD flag has worsened (R407). -/
def worsened (old new : Bytes) (wasCold cold : Bool) : Bool :=
  !old.isEmpty && ([1, 3, 5, 7].any (fun i => beAt new i 1 < beAt old i 1) || beAt old 12 4 < beAt new 12 4 ||
    [8, 9].any (fun i => beAt old i 1 < beAt new i 1)) || (cold && !wasCold)

/-- A heartbeat of the partner. -/
def Dev.heartbeatArrives (d : Dev) (b : Bytes) : Dev :=
  let t := d.twin
  let flags := beAt b 24 1
  let health := slice b 36 28
  let bad := worsened t.partnerHealth health (bit t.partnerFlags 2) (bit flags 2)
  let d := d.modTwin fun x => { x with
    hbGot := true, partnerRole := beAt b 3 1, partnerFlags := flags, partnerHealth := health
    snapSent := if beAt b 3 1 = 2 then false else x.snapSent }
  let d := if bad then d.raise Code.twinPartnerHealth else d
  let d := d.learnEpoch (beAt b 4 4)
  let d := if beAt b 3 1 = 4 then d.setN O.twinLeadSerial 0 (beAt b 8 8) else d
  let d := if d.twin.role == .lead then d.recordAcked (beAt b 20 4) else d
  let d := d.allHeads.foldl (fun (d : Dev) h => d.compareHead h (slice b (64 + 16 * h) 16)) d
  d.allStreams.foldl (fun (d : Dev) s => d.comparePic s (slice b (576 + 12 * s) 12)) d

/-- HEARTBEAT_RECEIVED (R404, R406, R407): complete in its layout, within the pitch. -/
def execHeartbeatReceived (t : Nat) (data : Bytes) (s : State) : Host.Outcome State Fault Refusal :=
  s.run t fun d => d.when (d.running && d.isMember && data.length == 2112 && beAt data 0 2 == 1 && d.pitchStarted) fun d =>
    d.heartbeatArrives data

/-! ### Identity (R408) -/

/-- What a member tells its partner of itself. -/
def Dev.identityBody (d : Dev) : Bytes :=
  le 4 ((d.flash.fwInEffect.map (·.2)).getD 0) ++ le 4 (d.rn O.identityProductCode) ++ [byteOf (d.rn O.twinUnitId)] ++ zeros 7 ++
    fit 32 d.cfgDigest

/-- The rope is UP: the identities are exchanged on twin channel 16. -/
def Dev.exchangeIdentity (d : Dev) : Dev :=
  if d.isMember then (d.modTwin fun x => { x with identity := false }).mbxPost 16 0 d.identityBody 48 0 else d

/-- The partner's identity. -/
def Dev.identityArrives (d : Dev) (b : Bytes) : Dev :=
  let own := d.identityBody
  let same := b.length == 48 && b.take 8 == own.take 8 && b.drop 16 == own.drop 16 && leAt b 8 1 != leAt own 8 1
  let x := (d.mb 16).d1
  let d := if x.outstanding then d.mbxAck 16 1 (leAt x.hdr 4 4) 0 else d
  let d := d.modTwin fun x => { x with identity := same }
  if !same && d.twin.role != .lead then d.twinCold .cold 3 else d

/-- TWIN_IDENTITY_RECEIVED (R408). -/
def execTwinIdentityReceived (t : Nat) (data : Bytes) (s : State) : Host.Outcome State Fault Refusal :=
  s.run t fun d => d.when (d.running && d.isMember) fun d => d.identityArrives data

end Sys2Proof.Machine
end

