-- ==== Sys2Proof/Machine/Pitch.lean ====
section
/-! DEFINITION. The start of a pitch (R16, R52, R57, R145, R153, R263, R399, R403, R404, R407, R418, R420, R425): the meaning
of PITCH_START. -/

namespace Sys2Proof.Machine

/-! ### The twin at a pitch start -/

/-- The heartbeat of the pitch that ends is counted (R404). -/
def Dev.hbStep (d : Dev) : Dev :=
  if !d.isMember then d
  else
    let got := d.twin.hbGot
    let d := d.modTwin fun x => { x with
      hbGot := false, hbRun := if got then x.hbRun + 1 else 0, hbBad := if got then 0 else x.hbBad + 1
      digestRun := if got then x.digestRun else [] }
    if 3 ≤ d.twin.hbBad && !d.twin.ropeLost then
      let d := (d.modTwin fun x => { x with ropeValid := false, ropeLost := true }).raise Code.twinRopeLost
      if d.twin.role == .second && (d.grantDue d.now).isNone then d.twinCold .cold 1 else d
    else if 3 ≤ d.twin.hbRun && !d.twin.ropeValid then
      let lost := d.twin.ropeLost
      let d := d.modTwin fun x => { x with ropeValid := true, ropeLost := false }
      if lost then d.raise Code.twinRopeRestored else d
    else d

/-- The record of this pitch is applied; a missing one is discarded as late (Table 14-10), and a Second without one for three
pitches follows no more (R399, R403), unless it takes lead now. -/
def Dev.recordStep (d : Dev) : Dev :=
  let second := d.twin.role == .second
  let d := match d.twin.record with
    | some r => if second || d.twin.joined then d.applyRecord r else d
    | none =>
      if second && (d.grantDue d.now).isNone then
        let d := if d.twin.discarded then d else d.recordDiscard 1
        let d := d.modTwin fun x => { x with missed := x.missed + 1 }
        if 3 ≤ d.twin.missed then d.twinCold .cold 2 else d
      else d
  d.modTwin fun x => { x with discarded := false }

/-- Each member sends its health summary (R407). -/
def Dev.sendHealth (d : Dev) : Dev := if d.isMember then d.sendAnchor 0x45 d.twin.known d.healthSummary else d

/-! ### Writes of class PIT -/

/-- The close of the record that carries a Lead's mirrored writes to this pitch (R400), as a cycle; before a first one, 0. -/
def Dev.closeCut (d : Dev) : Nat := ((d.twin.closes.getLast?).map fun c => cycleOf c.time).getD 0

/-- The writes of class PIT that are due take effect (R16, R18, R400): mirrored ones on a Lead up to the close of the
record, on a Second all that records brought. -/
def Dev.takePit (d : Dev) : Dev :=
  let now := cycleOf d.now
  match d.twin.role with
  | .lead => (d.effect 2 now fun k => !mirroredKey k).effect 2 d.closeCut mirroredKey
  | .second => (d.effect 2 now fun k => !mirroredKey k).effect 2 (now + 1) mirroredKey
  | _ => d.effect 2 now fun _ => true

/-- Whether any of some objects of an instance differ in effect between two devices. -/
def changed (a b : Dev) (os : List Obj) (i : Nat) : Bool := os.any fun o => a.effV o i != b.effV o i

/-- The objects whose change is a rebinding (the rule that closes chapter 4). -/
def rebindObjs : List Obj :=
  [O.streamSourceMode, O.streamPort, O.streamVlan, O.streamDstAddr, O.streamDstPort, O.streamSrcAddr, O.streamRtcpMux,
    O.streamPayloadType, O.streamCodec, O.streamRtspUrl, O.streamRtspUser, O.streamRtspSecret, O.streamRing]

/-- The objects whose change restarts an encode context (R263). -/
def encRestartObjs : List Obj :=
  [O.encodeSourceMode, O.encodeSource, O.encodeCrop, O.encodeOutWidth, O.encodeOutHeight, O.encodeOrient, O.encodeCodec,
    O.encodeGroup, O.encodeDivisor]

/-! ### Streams -/

/-- Whether stream s is to be bound: a source, a configuration image (R448), a life-cycle state that binds (R426). -/
def Dev.wanted (d : Dev) (s : Nat) : Bool :=
  d.rn O.streamSourceMode s != 0 && d.flash.cfgInEffect.isSome && d.power.life != 0 && d.power.life != 4

/-- The unit for a context that is bound: as planned when its write was accepted, else its pin, else by placing (R152,
R253). -/
def bindTo (p : Placer) (asg : List (Nat × Nat)) (c : Nat) (planned pin : Option Nat) : Option Nat :=
  let fits (e : Nat) : Bool := p.engines.contains e && p.fits (c :: onEngine asg e)
  ((planned.filter p.engines.contains).or (pin.filter fits)).or (p.auto asg c)

/-- The pin of stream s (R152). -/
def Dev.pinOf (d : Dev) (s : Nat) : Option Nat :=
  if d.rn O.streamEngine s = 0xFF then none else d.decView.stands (d.rn O.streamEngine s)

/-- Where the media of stream s come from: a group to join, or an RTSP session (R125, R126). -/
def Dev.openSource (d : Dev) (s : Nat) : Dev := if d.rn O.streamSourceMode s = 2 then d.rtspStart s else d.joinGroup s

/-- Stream s is bound (R145). -/
def Dev.bindStream (d : Dev) (s : Nat) : Dev :=
  let e := bindTo d.decPlacer (d.decAsg.filter fun q => q.1 != s) s (d.cx s).plan (d.pinOf s)
  let now := d.now
  let d := d.modIng s fun g => { bound := true, boundAt := now, nextUid := g.nextUid, firSeq := g.firSeq }
  let d := (d.openSource s).modCx s fun c => { c with plan := none, run := {} }
  let d := d.setEngine s (e.getD 0xFF)
  if (d.decodingOn s).isSome then d.modCx s fun c => { c with atEnd := some (if e.isSome then 3 else 2) }
  else if e.isSome then d.enterWaiting s
  else d.shedNow s

/-- Stream s is bound to another source (R57, R146). -/
def Dev.rebindStream (d : Dev) (s : Nat) : Dev :=
  let d := (d.clearIngest s).modIng s fun g => { g with ssrc := none, ssrcIdle := false, peer := none }
  (d.openSource s).ctxEvent s 3

/-- Stream s is unbound. -/
def Dev.unbindStream (d : Dev) (s : Nat) : Dev :=
  ((d.clearIngest s).modIng s fun g => { g with bound := false }).ctxEvent s 1

/-- A change of freeze mode, window or probe rectangle (R56, R57). -/
def Dev.freezeChanged (d : Dev) (s : Nat) : Dev :=
  let ends := d.rn O.streamFreezeMode s == 2 && (d.cx s).run.frozen
  let d := d.modCx s fun c => { c with run := { c.run with resetPending := true, frozen := c.run.frozen && !ends } }
  if ends then (d.setN O.streamFreezeState s 0).raise Code.streamFreezeCleared s else d

/-- A planned engine takes effect (R152). -/
def Dev.takePlan (d : Dev) (s : Nat) : Dev :=
  match (d.cx s).plan with
  | none => d
  | some e =>
    let d := d.modCx s fun c => { c with plan := none }
    if (d.cx s).state == .unbound || (d.cx s).state == .shed || (d.cx s).engine = e || d.engState e != .active then d
    else d.setEngine s e

/-- What a pitch changes for stream s, from the device before; the highest of R148 acts. -/
def Dev.pitStream (old d : Dev) (s : Nat) : Dev :=
  let was := (d.ing s).bound
  let asked := d.rf O.streamRestart s
  let d := if asked then d.setN O.streamRestart s 0 else d
  let d := if changed old d [O.streamFreezeMode, O.streamFreezeWindow, O.streamProbeRect] s then d.freezeChanged s else d
  if was && !d.wanted s then d.unbindStream s
  else if !was && d.wanted s then d.bindStream s
  else if !was then d
  else if changed old d rebindObjs s then (d.takePlan s).rebindStream s
  else if asked || changed old d [O.streamMaxWidth, O.streamMaxHeight, O.streamFrameRate] s then (d.takePlan s).ctxEvent s 3
  else d.takePlan s

/-- The shed decode contexts that can be reinstated are (R420). -/
def Dev.reinstateStreams (d : Dev) : Dev :=
  let cs := d.decPlacer.order (d.allStreams.filter fun s => (d.cx s).state == .shed && (d.ing s).bound && d.parses s)
  cs.foldl (fun (d : Dev) s => match d.decPlacer.auto d.decAsg s with
    | some e => (((d.clearCtx s).setEngine s e).enterWaiting s).restored 2 4 s
    | none => d) d

/-! ### Encode contexts -/

/-- The pin of encode context c (R253). -/
def Dev.encPinOf (d : Dev) (c : Nat) : Option Nat :=
  if d.rn O.encodeEngine c = 0xFF then none else d.encView.stands (d.rn O.encodeEngine c)

/-- An encode context is bound: its SSRC and first sequence number are drawn once (DEDUCED, log 34). -/
def Dev.encBind (d : Dev) (c : Nat) : Dev :=
  let e := bindTo d.encPlacer (d.encAsg.filter fun q => q.1 != c) c (d.ec c).plan (d.encPinOf c)
  let d := if (d.ec c).ssrc.isSome then d else
    let a := d.fresh
    let b := a.2.fresh
    b.2.modEc c fun x => { x with ssrc := some (a.1 % 2 ^ 32), seq := b.1 % 65536 }
  let d := (d.encRestart c).modEc c fun x => { x with plan := none, noted := false, engine := e.getD 0xFF }
  if e.isSome then d.setEncState c .waiting else d.encShedNow c

/-- An encode context ends. -/
def Dev.encUnbind (d : Dev) (c : Nat) : Dev :=
  ((d.encRestart c).modEc c fun x => { x with plan := none, engine := 0xFF, shedAtEnd := false }).setEncState c .off

/-- A planned encode engine takes effect. -/
def Dev.encTakePlan (d : Dev) (c : Nat) : Dev :=
  match (d.ec c).plan with
  | none => d
  | some e =>
    let d := d.modEc c fun x => { x with plan := none }
    if (d.ec c).state == .off || (d.ec c).state == .shed || (d.ee e).state != .active then d else d.setEncEngine c e

/-- What a pitch changes for encode context c (R246, R263). -/
def Dev.pitEnc (old d : Dev) (c : Nat) : Dev :=
  let off := (d.ec c).state == .off
  if d.rn O.encodeSourceMode c = 0 then (if off then d else d.encUnbind c)
  else
    let d := if off then d.encBind c
      else if changed old d encRestartObjs c then (d.encTakePlan c).encRestart c
      else d.encTakePlan c
    d.encSourceState c

/-- The shed encode contexts that can be reinstated are (R420). -/
def Dev.reinstateEnc (d : Dev) : Dev :=
  let cs := d.encPlacer.order ((List.range 32).filter fun c => (d.ec c).state == .shed)
  cs.foldl (fun (d : Dev) c => match d.encPlacer.auto d.encAsg c with
    | some e => ((d.setEncEngine c e).setEncState c .waiting).encSourceState c
    | none => d) d

/-! ### Heads -/

/-- The shed heads that find a port are placed (R418); the allocation has changed (R173). -/
def Dev.reinstateHeads (d : Dev) : Dev :=
  let hs := d.byPriority (d.shedHeads.filter fun h => d.headOn h && !d.health.retired.contains (20, h))
  let r := hs.foldl (fun (x : Dev × Bool) h => match x.1.findPort h with
    | some p => (((x.1.place h p.1 p.2).modHd h fun y => { y with shed := false }).restored 1 20 h, true)
    | none => x) (d, false)
  if r.2 then r.1.revalidateAll else r.1

/-! ### The pitch -/

/-- The writes of class PIT take effect, and what they change. -/
def Dev.pitEffects (d : Dev) : Dev :=
  let new := d.takePit
  let ends := d.allStreams.filter fun s => (d.ing s).bound && (!new.wanted s || changed d new rebindObjs s)
  let old := ends.foldl (fun (d : Dev) s => d.rtspStop s) d
  let d := old.takePit
  let order := (d.allStreams.filter fun s => (d.pinOf s).isSome) ++ d.allStreams.filter fun s => (d.pinOf s).isNone
  let d := order.foldl (fun (d : Dev) s => old.pitStream d s) d
  let d := [0, 1, 2, 3].foldl (fun (d : Dev) p => d.leaveGroups p) d
  let encs := ((List.range 32).filter fun c => (d.encPinOf c).isSome) ++ (List.range 32).filter fun c => (d.encPinOf c).isNone
  encs.foldl (fun (d : Dev) c => old.pitEnc d c) d

/-- At the first pitch start the links of the enabled heads come up (Table 16-5). -/
def Dev.firstPitch (d : Dev) : Dev :=
  if d.pitchStarted then d else (d.allHeads.filter d.headOn).foldl (fun (d : Dev) h => d.linkEnable h) d

/-- A former Lead that entered Service state takes the state once it has withdrawn (R428). -/
def Dev.serviceLatch (d : Dev) : Dev :=
  if d.twin.role == .withdrawn && !d.dict.jpend.any fun p => p.after == some 4 then d.latchLife else d

/-- A pitch starts. -/
def Dev.pitchStart (d : Dev) (fence : Bool) : Dev :=
  let began := d.pitchStarted
  let d := d.firstPitch
  let d := { d with pitchStarted := true, pitchAt := d.now, pitch := aliveNext d.pitch }
  let d := ((if began then d.hbStep else d).recordStep).pitEffects
  let d := if d.isMember then d.twinPitch fence else d
  let d := d.reinstateHeads.reinstateStreams.reinstateEnc.sendHealth
  (((d.setB O.healthReport 0 d.healthReport).closeExhausted.kickDecode).kickEncode).serviceLatch

/-- PITCH_START (R16, R174): a grid instant of group 0. `fence` is the level of TWIN_FENCE. -/
def execPitchStart (t : Nat) (fence : Bool) (s : State) : Host.Outcome State Fault Refusal :=
  s.run t fun d => d.when (d.alive && d.gridAt 0 (d.gridK 0 d.now) == (d.now : Int)) fun d => d.pitchStart fence

end Sys2Proof.Machine
end

