-- ==== Sys2Proof/Machine/Power.lean ====
section
/-! DEFINITION. Power, clocks, resets and start-up (chapters 15 and 16): the meanings of the power, reset, start-up, standby,
tamper, temperature and energy commands. -/

namespace Sys2Proof.Machine

/-! ### What a start-up begins with -/

/-- The retained region is wiped (Table 15-6): the summit ring and the fault log go. -/
def Dev.wipeRetained (d : Dev) : Dev :=
  let w := d.witness
  { d with
    witness := { keys := w.keys, keyGen := w.keyGen, capacity := w.capacity }
    health := { d.health with log := [], logSeq := 1, logNext := 1 } }

/-- A change of hash wipes it (R301). -/
def Dev.hashChanged (d : Dev) : Dev := (d.wipeRetained).modPower fun p => { p with hashWipe := true }

/-- The hash of this start-up takes effect (R300, R301). -/
def Dev.takeHash (d : Dev) : Dev :=
  let masks := d.profileMasks
  let d := if !d.power.cold && !d.mem.masks.isEmpty && d.mem.masks != masks then d.hashChanged else d
  { d with mem := { d.mem with masks := masks } }

/-- POWER_ON (R439): VAON or the main rails rise. -/
def execPowerOn (t : Nat) (s : State) : Host.Outcome State Fault Refusal :=
  s.run t fun d => (d.modPower fun p => { p with holdRail := false, holdHeat := false }).beginReset true 1

/-- NRESET_ASSERT (R439, R441). In standby only the level counts: its rising edge wakes the device (R455). -/
def execNresetAssert (t : Nat) (s : State) : Host.Outcome State Fault Refusal :=
  s.run t fun d =>
    let d := d.modPower fun p => { p with nreset := true }
    if d.powered then d.beginReset true 2 else d

/-- The device wakes from a source (R455). -/
def Dev.wakeFrom (d : Dev) (source : Nat) : Dev :=
  (d.modPower fun p => { p with wakeSource := source, pwrReq := true }).beginReset true 7

/-- A wake: in standby at once unless a latched one is being held, before standby latched (R455). -/
def Dev.wakeEvent (d : Dev) (source : Nat) : Dev :=
  match d.power.phase with
  | .standby => if d.power.wakeLatched.isNone then d.wakeFrom source else d
  | .stoppingHeads => d.modPower fun p => { p with wakeLatched := p.wakeLatched.or (some source) }
  | .powerDown => d.modPower fun p => { p with wakeLatched := p.wakeLatched.or (some source) }
  | _ => d

/-- NRESET_RELEASE (R451, R455). -/
def execNresetRelease (t : Nat) (s : State) : Host.Outcome State Fault Refusal :=
  s.run t fun d => d.when d.power.nreset fun d =>
    ((d.modPower fun p => { p with nreset := false }).wakeEvent 3).tryStart

/-- RAIL_FAULT (R436): the reset is held until the rails are back. -/
def execRailFault (t : Nat) (rail : Fin 9) (s : State) : Host.Outcome State Fault Refusal :=
  s.run t fun d => d.when (d.powered && d.power.pwrReq) fun d =>
    let d := d.bump O.powerRailFaults
    if d.power.phase == .stopped then d
    else (d.modPower fun p => { p with rail := rail, holdRail := true }).beginReset true 3

/-- RAILS_IN_RANGE (R436). -/
def execRailsInRange (t : Nat) (s : State) : Host.Outcome State Fault Refusal :=
  s.run t fun d => d.when d.power.holdRail fun d => (d.modPower fun p => { p with holdRail := false }).tryStart

/-- CLOCK_FAULT (R438): the root PLL locks again only when the input is back. -/
def execClockFault (t : Nat) (s : State) : Host.Outcome State Fault Refusal :=
  s.run t fun d => d.when d.powered fun d => d.beginReset true 4

/-- DEVICE_WATCHDOG_EXPIRY (R439). -/
def execDeviceWatchdogExpiry (t : Nat) (s : State) : Host.Outcome State Fault Refusal :=
  s.run t fun d => d.when d.alive fun d => d.beginReset false 10

/-! ### Start-up: clocks, latches, kept values (R437, R456, R448) -/

/-- The last epoch of the Anchor in the flash (R390). -/
def Dev.keptEpoch (d : Dev) : Nat :=
  match d.dict.journal.find? fun (e : JEntry) => e.key == anchorKey with
  | some e => e.val.int.toNat
  | none => 0

/-- The root PLL has locked, the latches agree: values of class RST take effect, the memory trains. -/
def Dev.locked (d : Dev) (flashOk : Bool) : Dev :=
  let d := if flashOk then d.loadValues (d.pickImage 2) else (d.later Code.bootFlashFault).loadValues none
  let d := (d.setN O.clockRootLock 0 1).setN O.clockRefStatus 0 (if d.rn O.clockRefSelect = 1 then 1 else 0)
  let top := d.rn O.memoryDataRateMax
  let d := { d with mem := { d.mem with rate := if top = 9600 then 0 else if top = 6400 then 1 else 2 } }
  let d := if d.power.lifePending then d.wipeRetained else d
  let d := (List.range 16).foldl (fun (d : Dev) ch => d.setN O.chanState ch 1) d.takeHash
  (d.modAnchor fun a => { a with e := d.keptEpoch }).modPower fun p => { p with phase := .pllLocked }

/-- ROOT_PLL_LOCK (R437, R456): with the read of the fuses, the latches and the die pairing. A mismatch in Retired, that of
the tamper that led there among them, lets the start-up complete the entry (DEDUCED, log 40). -/
def execRootPllLock (t : Nat) (pairingOk flashOk : Bool) (s : State) : Host.Outcome State Fault Refusal :=
  s.run t fun d => d.when (d.power.phase == .sequencing) fun d =>
    if pairingOk || d.power.life == 4 then d.locked flashOk else d.tampered

/-! ### Start-up: memory (R294, R313, R314, R321) -/

/-- Data rates in MT/s (Table 11-2). -/
def rateOf (i : Nat) : Nat := [9600, 6400, 4800].getD i 4800

/-- Whether a channel meets the floors of Table 11-7. -/
def marginsOk (c : ChanTrain) : Bool :=
  c.pass && 350 ≤ c.readW && 60 ≤ c.readH && 350 ≤ c.writeW && 60 ≤ c.writeH && 400 ≤ c.caW

/-- Whether the fitted memory is a configuration of Table 11-1. -/
def configOk (cs : List ChanTrain) : Bool :=
  match cs with
  | [] => false
  | c :: _ => [4, 8, 16].contains c.density && [1, 2].contains c.ranks &&
      cs.all fun x => x.density == c.density && x.ranks == c.ranks

/-- The margins of a channel (Table 11-11), in ps and mV; a CK UI is half a CK period (DEDUCED, log 36). -/
def Dev.putMargins (d : Dev) (ch : Nat) (c : ChanTrain) : Dev :=
  let r := rateOf d.mem.rate
  let d := (d.setN O.chanReadWidth ch (openRound 430 (c.readW * 1000) r : Nat)).setN O.chanReadHeight ch c.readH
  let d := (d.setN O.chanWriteWidth ch (openRound 431 (c.writeW * 1000) r : Nat)).setN O.chanWriteHeight ch c.writeH
  d.setN O.chanCaWidth ch (openRound 432 (c.caW * 4000) r : Nat)

/-- Whether a row lies in the retained region: its address with the row in the upper bits (Table 11-3). -/
def Mem.rowRetained (m : Mem) (row : Nat) : Bool :=
  if m.ranks = 2 then 0x200 ≤ row && row < 0x240 else 0x400 ≤ row && row < 0x480

/-- One repair (R321): 1 repaired, 2 no resource, 3 failed. -/
def Dev.pprOne (d : Dev) (row : List Nat) (result : Nat) : Dev :=
  let ch := row.getD 0 0; let rank := row.getD 1 0; let bank := row.getD 2 0; let r := row.getD 3 0
  let d := { d with mem := { d.mem with pprResults := d.mem.pprResults ++ [(row, result)] } }
  if result = 1 then
    let d := d.modCh ch fun c => { c with remaps := c.remaps.filter fun x => !(x.rank == rank && x.bank == bank && x.row == r) }
    let d := { d with mem := { d.mem with corrected := d.mem.corrected.filter fun e => e.1 != row } }
    let d := if d.mem.rowRetained r then d.hashChanged else d
    d.later Code.memPprDone ch rank bank r
  else if result = 3 then d.later Code.memPprFailed ch rank bank r
  else d

/-- Scheduled repair runs (R321); a result that is not given counts as failed. -/
def Dev.pprRun (d : Dev) (results : List Nat) : Dev :=
  if !d.mem.ppr then d
  else
    let rows := d.pprRows
    let d := { d with mem := { d.mem with pprResults := [], ppr := false } }
    rows.zipIdx.foldl (fun (d : Dev) p =>
      let r := results.getD p.2 3
      d.pprOne p.1 (if r = 1 || r = 2 then r else 3)) d

/-- Every channel has trained. -/
def Dev.trained (d : Dev) (cs : List ChanTrain) (ppr : List Nat) : Dev :=
  let c0 := cs.headD ⟨16, 2, 0, true, 0, 0, 0, 0, 0⟩
  let d := { d with mem := { d.mem with density := c0.density, ranks := c0.ranks } }
  let d := cs.zipIdx.foldl (fun (d : Dev) p =>
    (d.modCh p.2 fun c => { c with raaLimit := p.1.raaLimit }).setN O.chanState p.2 0) d
  ((d.later Code.memTrained (rateOf d.mem.rate)).pprRun ppr).modPower fun p => { p with phase := .trained, trainFailed := [] }

/-- A report of training: every channel on a first attempt at a rate, the ones that failed on their second. -/
def Dev.training (d : Dev) (cs : List ChanTrain) (ppr : List Nat) : Dev :=
  let second := d.power.trainFailed
  let tried := cs.zipIdx.filter fun p => second.isEmpty || second.contains p.2
  let d := tried.foldl (fun (d : Dev) p => d.putMargins p.2 p.1) d
  let bad := (tried.filter fun p => !marginsOk p.1).map (·.2)
  if second.isEmpty then
    if bad.isEmpty then d.trained cs ppr else d.modPower fun p => { p with trainFailed := bad }
  else if bad.isEmpty then
    (second.foldl (fun (d : Dev) ch =>
      (d.later Code.memTrainRetry ch).noteTransient 9 ch { code := Code.memTrainRetry, p0 := ch }) d).trained cs ppr
  else if d.mem.rate < 2 then
    let d := { d with mem := { d.mem with rate := d.mem.rate + 1 } }
    (d.later Code.memRateReduced (rateOf d.mem.rate)).modPower fun p => { p with trainFailed := [] }
  else (bad.foldl (fun (d : Dev) ch => d.setN O.chanState ch 2) d).stopStart Code.memChannelDead

/-- MEMORY_TRAINING_DONE (R294, R313, R314, R321). -/
def execMemoryTrainingDone (t : Nat) (chans : List ChanTrain) (ppr : List Nat) (s : State) :
    Host.Outcome State Fault Refusal :=
  s.run t fun d => d.when (d.power.phase == .pllLocked) fun d =>
    if configOk chans then d.training chans ppr else d.stopStart Code.memConfigInvalid

/-! ### Start-up: the wipe, the self-tests, a life-cycle change (R421, R428 to R433) -/

/-- A life-cycle change completes (R428, R430, R456). -/
def Dev.lifeDone (d : Dev) : Dev :=
  let p := d.power
  if !p.lifePending then d
  else
    let own : Own := { code := 0, p0 := p.lifeOld, p1 := p.life }
    let d := d.logFault 4 0 (p.lifeOld + 256 * p.life) own (if p.tamper then 0 else 6) 0 0xFFFF
    let d := d.later Code.lifecycleChanged p.lifeOld p.life
    let d := if p.life = 1 then
        ({ d with witness := { d.witness with keys := true, keyGen := d.witness.keyGen + 1 } }).later Code.secKeyGenerated
      else d
    let d := if p.life = 4 then
        let d := d.destroyKeys
        { d with
          flash := { d.flash with cfg := [], cfgKey := [], cfgInEffect := none }
          dict := { d.dict with journal := [] }
          health := { d.health with retired := [], restored := [] } }
      else d
    d.modPower fun q => { q with lifePending := false, tamper := false }

/-- The start-up self-tests (R421, R423): the units tested are counted, a failed one with its repeat. -/
def Dev.selfTests (d : Dev) (failed : List (Nat × Nat)) : Dev :=
  let n := sumL (rotationKinds.map fun k => d.unitCount k .active + d.unitCount k .spare)
  let bad := failed.filter fun u => rotationKinds.contains u.1 && unitExists u.1 u.2
  let d := d.bumpBy O.healthBistRuns 0 (n + bad.length)
  bad.foldl (fun (d : Dev) u =>
    if d.unitState u.1 u.2 == .retired || d.unitState u.1 u.2 == .fusedOff then d
    else
      let d := { d with health := { d.health with bistFails := d.health.bistFails + 1 } }
      (d.later Code.bistFail u.1 u.2).unitLasting u.1 u.2 3) d

/-- The wipe keeps the retained region over a warm reset alone, unless a change of hash, a repair or a life-cycle change
clears it (Table 15-6). -/
def Dev.keepsRetained (d : Dev) : Bool := !d.power.cold && !d.power.hashWipe && !d.power.lifePending

/-- STARTUP_WIPE_DONE (R416, R421, R431 to R433). -/
def execStartupWipeDone (t : Nat) (ok : Bool) (us : Nat) (selfTestFailed : List (Nat × Nat)) (s : State) :
    Host.Outcome State Fault Refusal :=
  s.runMem t fun d m =>
    if d.power.phase != .trained then (d, m)
    else if !ok then
      if d.power.wipeTries = 0 then (d.modPower fun p => { p with wipeTries := 1 }, m)
      else (d.fresh.2.stopStart (d.fresh.1 % 0xFFFF + 1), m)
    else
      let keep := d.keepsRetained
      let m := if keep then Memory.clear (Memory.clear m 0 0x20000000) 0x24000000 d.mem.presented else []
      let d := d.modPower fun p => { p with wipeUs := us, wipeMiB := d.mem.presented / 2 ^ 20 - (if keep then 64 else 0) }
      let d := match d.health.log.getLast? with
        | some r => d.setN O.healthFaultLast 0 r.seq
        | none => d
      ((d.lifeDone.restoreHealth.selfTests selfTestFailed).modPower fun p => { p with phase := .wiped }, m)

/-! ### Start-up: images, maps, the release of the masters (R375, R447, R448) -/

/-- Words for the dyadic blocks of a stretch of addresses, each as large as its alignment and its end allow. -/
def dyadic (rights : Nat) : Nat → Nat → Nat → List Nat
  | 0, _, _ => []
  | n + 1, lo, hi =>
    if hi ≤ lo then []
    else
      let k := ((List.range 37).reverse.find? fun k => lo % 2 ^ k == 0 && lo + 2 ^ k ≤ hi).getD 12
      (lo + 2 ^ 42 * k + rights + 2 ^ 63) :: dyadic rights n (lo + 2 ^ k) hi

/-- The floor of a master as region words (R373, DEDUCED, log 17). -/
def floorWords (n : Nat) : List Nat :=
  let ws := (protFloor n).flatMap fun s => dyadic (sumL (s.rights.map fun b => 2 ^ b)) 64 s.lo s.hi
  ws ++ List.replicate (16 - ws.length) 0

/-- The maps of the configuration image are committed, the floor where it has none. -/
def Dev.commitMaps (d : Dev) : Dev :=
  (List.range 55).foldl (fun (d : Dev) n =>
    let ws := if n = 54 then floorWords n else (tfind d.config.maps n).getD (floorWords n)
    let d := d.modProt n fun p => { p with active := ws }
    ws.zipIdx.foldl (fun (d : Dev) w => d.setN O.protectRegionShadow n w.1 w.2) d) d

/-- The ends of the core channels (Table 13-2), each at the core that runs its task. -/
def Dev.bindEnds (d : Dev) : Dev :=
  let d := d.config.ends.foldl (fun (d : Dev) e =>
    if e.1 < 16 then d.modMb e.1 fun x => { x with endA := d.coreFor e.2.1, endB := d.coreFor e.2.2 } else d) d
  (List.range 8).foldl (fun (d : Dev) i => d.modMb (16 + i) fun x => { x with endA := d.coreFor 3 }) d

/-- The taps of the layers of every pipe (R200). -/
def Dev.fitTaps (d : Dev) : Dev :=
  (List.range 18).foldl (fun (d : Dev) k => match d.lsFit (d.counted k) 0 1024 [] with
    | some taps => taps.foldl (fun (d : Dev) p => d.modLy p.1 fun y => { y with taps := p.2 }) d
    | none => d) d

/-- The identifiers of the PDOs 0 to 3 of each port that have no kept value: by the node-ID (R346). -/
def Dev.pdoDefaults (d : Dev) : Dev :=
  (List.range 16).foldl (fun (d : Dev) k =>
    let id := 0x100 * (k % 8) + d.rn O.canNodeId (k / 8)
    let put (d : Dev) (o : Obj) (v : Nat) : Dev := if (tfind d.dict.eff (o.key k)).isSome then d else d.setN o k (v : Nat)
    if k % 8 < 4 then put (put d O.rpdoCob (0x200 + id)) O.tpdoCob (0x180 + id) else d) d

/-- The role a unit starts in (R389, Table 14-1). -/
def Dev.startTwin (d : Dev) : Dev :=
  let mode := d.rn O.twinMode
  let r := d.fresh
  r.2.modTwin fun x => { x with
    role := if mode = 0 then .alone else if mode = 2 then .anchor else .starting
    bootId := r.1 % (2 ^ 32 - 1) + 1, msgSeq := 1 }

/-- The masters are released. -/
def Dev.release (d : Dev) (fw : Nat × Nat) : Dev :=
  let d := { d with flash := { d.flash with fwInEffect := some fw } }
  let d := ((d.setN O.bootFwSlot 0 fw.1).setN O.bootFwVersion 0 fw.2).commitMaps.bindEnds.fitTaps.pdoDefaults.startTwin
  let d := d.modPower fun p => { p with phase := .released, porOut := false }
  let d := [0, 1, 2, 3].foldl (fun (d : Dev) n => d.panelStart n) d
  if d.rf O.ropeEnable then d.ropeStart else d

/-- IMAGES_VERIFIED (R375, R447, R448). A configuration image that could not be read earlier is loaded now. -/
def execImagesVerified (t : Nat) (flashOk : Bool) (s : State) : Host.Outcome State Fault Refusal :=
  s.run t fun d => d.when (d.power.phase == .wiped) fun d =>
    if !flashOk then (d.later Code.bootFlashFault).stopStart Code.bootFwInvalid
    else
      let d := d.tryImages 1
      match d.pickImage 1 with
      | none => d.stopStart Code.bootFwInvalid
      | some p =>
        let d := d.tryImages 2
        let d := if d.flash.cfgInEffect.isNone && (d.pickImage 2).isSome then d.loadValues (d.pickImage 2) else d
        d.release (p.1, (imageOf p.2).version)

/-! ### Start-up: the summit register, the codes, the services (R101, R102, R439, R443, R452) -/

/-- Whether the kept ring is sound (R101): every chain hash, the links between records, every signature. -/
def Dev.ringSound (d : Dev) : Bool :=
  let w := d.witness
  (w.ring.all fun e =>
    e.hash == chainHash (slice e.record 96 32) e.record && e.record.drop 128 == d.signRecord (e.record.take 128)) &&
    ((w.ring.zip (w.ring.drop 1)).all fun p => slice p.2.record 96 32 == p.1.hash) &&
    (w.ring.getLast?.map (·.hash)).getD [] == w.chainHead

/-- The chain goes on or begins anew (R101, R102); without keys there is none. -/
def Dev.startChain (d : Dev) : Dev :=
  let w := d.witness
  let cap := d.rn O.summitCapacity
  if !w.keys then
    (({ d with witness := { keys := false, keyGen := w.keyGen, capacity := cap } }).setN O.summitChainStart 0 0).setN
      O.summitCapacityActive 0 cap
  else if !w.kept || w.ring.isEmpty || !d.ringSound then d.newChain cap
  else if w.capacity = cap then (d.summitPublish).setN O.summitCapacityActive 0 cap
  else if d.unexported = 0 then d.newChain cap
  else ((d.summitPublish).setN O.summitCapacityActive 0 w.capacity).raise Code.summitCapacityDeferred 0 0 w.capacity cap

/-- The codes of a reset cause (Table 16-2). -/
def Dev.raiseCause (d : Dev) : Dev :=
  let p := d.power
  if p.cause = 3 then (d.raise Code.powerRailFault p.rail).raise Code.resetCold
  else if p.cause = 5 then (d.raise Code.thermalShutdown).raise Code.resetCold
  else if p.cause = 6 then (d.raise Code.secTamper).raise Code.resetCold
  else if p.cause = 7 then (d.raise Code.wake p.wakeSource).raise Code.resetCold
  else if p.cause = 9 || p.cause = 11 then d.raise Code.resetWarm
  else if p.cause = 10 then d.raise Code.resetWatchdog
  else d.raise Code.resetCold

/-- The dictionary becomes reachable. -/
def Dev.reachable (d : Dev) : Dev :=
  let p := d.power
  let d := d.modPower fun q => { q with phase := .running, faultN := false, startCodes := [], stopCode := 0 }
  let d := (d.setN O.resetStartupMs 0 (openRound 433 (d.now - p.releasedAt) 1000000 : Nat)).setN O.resetLastStop 0 p.stopCode
  let d := p.startCodes.foldl (fun (d : Dev) c => d.raise c.1 c.2.1 c.2.2.1 c.2.2.2.1 c.2.2.2.2) d
  let d := if p.stopCode ≠ 0 then d.raise p.stopCode 0 0 0 1 else d
  let d := d.raiseCause.raise Code.wipeDone 0 0 p.wipeUs p.wipeMiB
  let d := d.startChain
  let d := { d with witness := { d.witness with kept := false } }
  ((((d.canStart 0).canStart 1).peerConnect 0)).peerConnect 1

/-- FIRMWARE_INIT_DONE (R439, R443, R452). -/
def execFirmwareInitDone (t : Nat) (s : State) : Host.Outcome State Fault Refusal :=
  s.run t fun d => d.when (d.power.phase == .released) fun d => d.reachable

/-! ### Standby and wake (R453 to R455) -/

/-- STANDBY_WIPE_DONE (R453): every head has stopped; the volatile regions are cleared, PWR_REQ falls. -/
def execStandbyWipeDone (t : Nat) (s : State) : Host.Outcome State Fault Refusal :=
  s.runMem t fun d m =>
    if d.power.phase == .stoppingHeads && d.allHeads.all fun h => !(d.hd h).started then
      (d.modPower fun p => { p with phase := .powerDown, pwrReq := false, faultN := true, porOut := true },
        Memory.clear (Memory.clear m 0 0x20000000) 0x24000000 d.mem.presented)
    else (d, m)

/-- STANDBY_REACHED (R453 to R455): DRAM loses its content; a latched wake is held 10 ms, else the alarm counts. -/
def execStandbyReached (t : Nat) (s : State) : Host.Outcome State Fault Refusal :=
  s.runMem t fun d m =>
    if d.power.phase == .powerDown then
      let after := d.rn O.standbyWakeAfter
      let at_ := if d.power.wakeLatched.isSome then some (d.now + 10000000)
        else if after = 0 then none else some (d.now + after * sec)
      (d.modPower fun p => { p with phase := .standby, wakeAt := at_ }, [])
    else (d, m)

/-- WAKE_PIN (R455). -/
def execWakePin (t : Nat) (s : State) : Host.Outcome State Fault Refusal := s.run t fun d => d.wakeEvent 1

/-- WAKE_ALARM (R455). -/
def execWakeAlarm (t : Nat) (s : State) : Host.Outcome State Fault Refusal :=
  s.run t fun d => d.when (d.power.phase == .standby && d.power.wakeLatched.isNone && d.power.wakeAt.any fun a => a ≤ d.now)
    fun d => d.wakeFrom 2

/-- LATCHED_WAKE_HOLD_EXPIRY (R455). -/
def execLatchedWakeHoldExpiry (t : Nat) (s : State) : Host.Outcome State Fault Refusal :=
  s.run t fun d => match d.power.wakeLatched with
    | some source => d.when (d.power.phase == .standby && d.power.wakeAt.any fun a => a ≤ d.now) fun d => d.wakeFrom source
    | none => d

/-! ### Tamper, temperature, energy, debug (R450, R456 to R460) -/

/-- TAMPER_MESH_CHECK (R456): two failing checks of a mesh in a row. -/
def execTamperMeshCheck (t : Nat) (mesh : Fin 2) (ok : Bool) (s : State) : Host.Outcome State Fault Refusal :=
  s.run t fun d => d.when d.powered fun d =>
    let n := if ok then 0 else tget 0 d.power.meshFails mesh + 1
    let d := d.modPower fun p => { p with meshFails := tset p.meshFails mesh n }
    if n = 2 then d.tampered else d

/-- The sensors are read (R457): the hottest one, which one it is and what the others read being open (DESIGN CHOICE, log 14). -/
def Dev.readSensors (d : Dev) (temp : Int) : Dev :=
  let r := d.fresh
  let vals := (List.range 18).foldl (fun (x : List Int × Dev) i =>
    let f := x.2.fresh
    (x.1 ++ [if i = r.1 % 18 then temp else min temp (toSigned 16 (f.1 % 65536))], f.2)) ([], r.2)
  (vals.2.setN O.thermalTemp 0 temp).setB O.thermalSensors 0 (vals.1.flatMap fun v => le 2 (v % 65536).toNat)

/-- THERMAL_WARN with its hysteresis (R457). -/
def Dev.thermalWarn (d : Dev) (temp : Int) : Dev :=
  let limit : Int := 8 * (d.rn O.thermalWarn : Int)
  if limit ≤ temp then
    if d.power.warned then d else (d.modPower fun p => { p with warned := true }).raise Code.thermalWarn
  else if temp + 40 ≤ limit then d.modPower fun p => { p with warned := false }
  else d

/-- The throttle steps (R458); a channel above its DRAM's limit holds step 1. -/
def Dev.throttle (d : Dev) (temp : Int) : Dev :=
  let limit : Int := 8 * (d.rn O.thermalThrottle : Int)
  let since (o : Option Nat) (b : Bool) : Option Nat := if b then some (o.getD d.now) else none
  let d := if limit ≤ temp && d.power.throttle = 0 then d.throttleOn else d
  let d := d.modPower fun p => { p with
    thSince := since p.thSince (decide (limit ≤ temp)), thBelow := since p.thBelow (decide (temp + 40 ≤ limit)) }
  let p := d.power
  if p.throttle = 1 && p.thSince.any fun x => x + sec ≤ d.now then d.modPower fun q => { q with throttle := 2 }
  else if p.thBelow.any fun x => x + 10 * sec ≤ d.now then
    if p.throttle = 2 then d.modPower fun q => { q with throttle := 1, thBelow := some d.now }
    else if p.throttle = 1 && !d.dramHot then d.throttleOff
    else d
  else d

/-- THERMAL_CROSSING (R457, R458). -/
def execThermalCrossing (t : Nat) (temp : Int) (s : State) : Host.Outcome State Fault Refusal :=
  s.run t fun d => d.when d.alive fun d => ((d.readSensors temp).thermalWarn temp).throttle temp

/-- THROTTLE_STEP_TIMER (R458). -/
def execThrottleStepTimer (t : Nat) (temp : Int) (s : State) : Host.Outcome State Fault Refusal :=
  s.run t fun d => d.when d.alive fun d => ((d.readSensors temp).thermalWarn temp).throttle temp

/-- THERMAL_SHUTDOWN_TRIP (R459). -/
def execThermalShutdownTrip (t : Nat) (s : State) : Host.Outcome State Fault Refusal :=
  s.run t fun d => d.when d.powered fun d =>
    ((d.modPower fun p => { p with holdHeat := true }).beginReset true 5).modPower fun p => { p with pwrReq := false }

/-- THERMAL_SHUTDOWN_RELEASE (R459). -/
def execThermalShutdownRelease (t : Nat) (s : State) : Host.Outcome State Fault Refusal :=
  s.run t fun d => d.when d.power.holdHeat fun d =>
    (d.modPower fun p => { p with holdHeat := false, pwrReq := true }).tryStart

/-- The bits of a REAL32 (IEEE 754 binary32) of a / b; the rounding, and what lies outside its range, are open (DESIGN CHOICE, log 9). -/
def real32 (a b : Nat) : Nat :=
  if a = 0 || b = 0 then 0
  else
    let e0 : Int := (Nat.log2 a : Int) - Nat.log2 b
    let below : Bool := if 0 ≤ e0 then a < b * 2 ^ e0.toNat else a * 2 ^ (-e0).toNat < b
    let e := if below then e0 - 1 else e0
    if e < -126 || 127 < e then (Config.unstated 434 [a, b]).toNat % 2 ^ 32
    else
      let m := if e ≤ 23 then openRound 435 (a * 2 ^ (23 - e).toNat) b else openRound 435 a (b * 2 ^ (e - 23).toNat)
      (e + 127).toNat * 2 ^ 23 + (m - 2 ^ 23)

/-- The counters of the subsystems of Table 16-8, with the figure of the four that have one. -/
def energyRows : List (Obj × Option Obj) :=
  [(O.energyCompositionUj, some O.energyCompositionNjpx), (O.energyDecodeUj, some O.energyDecodeNjpx),
   (O.energyEncodeUj, some O.energyEncodeNjpx), (O.energyLanesUj, some O.energyLanesPjbit), (O.energyOtherUj, none)]

/-- A sensor of subsystem k has failed its self-check (R460): its figures read 0 from now on. -/
def Dev.meterFault (d : Dev) (k : Nat) : Dev :=
  let v := d.rn O.energyValid
  if bit v k then
    let d := (d.setN O.energyValid 0 (v - 2 ^ k : Nat)).raise Code.energyMeterFault k
    match energyRows[k]? with
    | some (o, f) =>
      let d := d.setN o 0 0
      match f with
      | some f => d.setN f 0 0
      | none => d
    | none => d
  else d

/-- The energy of the last second, by subsystem, in nJ, and its work (R460): pixels, samples, samples, bits. -/
def Dev.energyIn (d : Dev) (energyNj work : List Nat) : Dev :=
  let ok (k : Nat) : Bool := bit (d.rn O.energyValid) k
  let d := energyRows.zipIdx.foldl (fun (d : Dev) r =>
    let k := r.2
    if !ok k then d
    else
      let e := energyNj.getD k 0
      let n := work.getD k 0
      let d := d.bumpBy r.1.1 0 (openRound 436 e 1000)
      match r.1.2 with
      | some f => d.setN f 0 (real32 (if k = 3 then 1000 * e else e) n : Nat)
      | none => d) d
  d.setN O.energyTotalMw 0 (min 0xFFFFFFFF (openRound 437
    (sumL ((List.range 5).map fun k => if ok k then energyNj.getD k 0 else 0)) 1000000) : Nat)

/-- ENERGY_PUBLISH (R460). -/
def execEnergyPublish (t : Nat) (energyNj work : List Nat) (badSensors : List Nat) (s : State) :
    Host.Outcome State Fault Refusal :=
  s.run t fun d => d.when d.alive fun d =>
    (badSensors.foldl (fun (d : Dev) k => d.meterFault k) d).energyIn energyNj work

/-- DEBUG_UNLOCK_ATTEMPT (R450). -/
def execDebugUnlockAttempt (t : Nat) (s : State) : Host.Outcome State Fault Refusal :=
  s.run t fun d => d.when (d.alive && d.power.life != 0) fun d => d.raiseOnce sec 0 Code.secDebugLocked

end Sys2Proof.Machine
end

