-- ==== Sys2Proof/Machine/Qdp.lean ====
section
/-! DEFINITION. The meanings of QDP's commands (R330 to R341). -/

namespace Sys2Proof.Machine

/-- A datagram of one type, once it has passed the checks of R331. -/
def State.qdp (s : State) (t : Nat) (p : Fin 4) (src dgram : Bytes) (row : Nat) (seg : Bool)
    (f : Dev → Option Session → Dgram → Dev) : Host.Outcome State Fault Refusal :=
  s.run t fun d => d.when d.running fun d => d.qdpIn p src dgram row seg f

/-- QDP_HELLO (R325, R333, R334). -/
def execQdpHello (t : Nat) (p : Fin 4) (src : Bytes) (sport : Nat) (dgram : Bytes) (s : State) :
    Host.Outcome State Fault Refusal :=
  s.qdp t p src dgram 0x01 false fun d _ g => d.qdpHello p src sport g

/-- QDP_CHALLENGE, in a handshake the device began (R337). -/
def execQdpChallenge (t : Nat) (p : Fin 4) (src : Bytes) (_sport : Nat) (dgram : Bytes) (s : State) :
    Host.Outcome State Fault Refusal :=
  s.qdp t p src dgram 0x02 false fun d se g => match se with
    | some x => d.qdpChallenge x g
    | none => d

/-- QDP_PROVE (R333). -/
def execQdpProve (t : Nat) (p : Fin 4) (src : Bytes) (_sport : Nat) (dgram : Bytes) (s : State) :
    Host.Outcome State Fault Refusal :=
  s.qdp t p src dgram 0x03 false fun d se g => match se with
    | some x => d.qdpProve src x g
    | none => d

/-- QDP_ACCEPT (R333, R337). -/
def execQdpAccept (t : Nat) (p : Fin 4) (src : Bytes) (_sport : Nat) (dgram : Bytes) (s : State) :
    Host.Outcome State Fault Refusal :=
  s.qdp t p src dgram 0x04 false fun d se _ => match se with
    | some x => d.qdpAccept x
    | none => d

/-- QDP_CLOSE (R336). -/
def execQdpClose (t : Nat) (p : Fin 4) (src : Bytes) (_sport : Nat) (dgram : Bytes) (s : State) :
    Host.Outcome State Fault Refusal :=
  s.qdp t p src dgram 0x05 false fun d se _ => match se with
    | some x => d.sessionEnd x
    | none => d

/-- QDP_KEEPALIVE (R336). -/
def execQdpKeepalive (t : Nat) (p : Fin 4) (src : Bytes) (_sport : Nat) (dgram : Bytes) (s : State) :
    Host.Outcome State Fault Refusal :=
  s.qdp t p src dgram 0x06 false fun d se _ => match se with
    | some x => d.sendQdp x 9 0x06 []
    | none => d

/-- QDP_READ (R338, R339). -/
def execQdpRead (t : Nat) (p : Fin 4) (src : Bytes) (_sport : Nat) (dgram : Bytes) (s : State) :
    Host.Outcome State Fault Refusal :=
  s.qdp t p src dgram 0x10 false fun d se g => match se with
    | some x => d.readRequest x g.seq g.tag g.body
    | none => d

/-- QDP_WRITE (R324, R326, R327, R338). -/
def execQdpWrite (t : Nat) (p : Fin 4) (src : Bytes) (_sport : Nat) (dgram : Bytes) (s : State) :
    Host.Outcome State Fault Refusal :=
  s.qdp t p src dgram 0x12 false fun d se g => match se with
    | some x => d.writeRequest x g.seq g.tag g.body
    | none => d

/-- A message that has arrived whole in segments: a READ or a WRITE under the sequence and tag of its last segment (PRESUMED, log 37). -/
def Dev.segmented (d : Dev) (g : Dgram) (se : Session) (body : Bytes) : Dev :=
  if g.typ = 0x10 then d.readRequest se g.seq g.tag body
  else if g.typ = 0x12 then d.writeRequest se g.seq g.tag body
  else d

/-- QDP_SEGMENT (R340). -/
def execQdpSegment (t : Nat) (p : Fin 4) (src : Bytes) (_sport : Nat) (dgram : Bytes) (s : State) :
    Host.Outcome State Fault Refusal :=
  s.qdp t p src dgram 0 true fun d se g => match se with
    | some x => d.segment x g fun d x body => d.segmented g x body
    | none => d

/-- QDP_SEGMENT_ACK (R340). -/
def execQdpSegmentAck (t : Nat) (p : Fin 4) (src : Bytes) (_sport : Nat) (dgram : Bytes) (s : State) :
    Host.Outcome State Fault Refusal :=
  s.qdp t p src dgram 0x18 false fun d se g => match se with
    | some x => d.segmentAck x g
    | none => d

/-- QDP_SUBSCRIBE (R338, R341). -/
def execQdpSubscribe (t : Nat) (p : Fin 4) (src : Bytes) (_sport : Nat) (dgram : Bytes) (s : State) :
    Host.Outcome State Fault Refusal :=
  s.qdp t p src dgram 0x20 false fun d se g => match se with
    | some x => d.setSession { x with mask := beAt g.body 0 2 }
    | none => d

/-- An acknowledgement of the gateway (R95): one that matches no record sent is discarded and counted. -/
def Dev.gatewayAck (d : Dev) (body : Bytes) : Dev :=
  let w := d.witness
  if body.length = 12 && beAt body 0 8 = d.serial && w.forwards.any (fun f => f.seq % 2 ^ 32 == beAt body 8 4) then
    { d with witness := { w with forwards := w.forwards.filter fun f => f.seq % 2 ^ 32 != beAt body 8 4 } }
  else { d with witness := { w with discardedAcks := w.discardedAcks + 1 } }

/-- QDP_ACK (R95), in the gateway session. -/
def execQdpAck (t : Nat) (p : Fin 4) (src : Bytes) (_sport : Nat) (dgram : Bytes) (s : State) :
    Host.Outcome State Fault Refusal :=
  s.qdp t p src dgram 0x31 false fun d se g => match se with
    | some x => if x.role = 0x47 then d.gatewayAck g.body else d
    | none => d

/-- QDP_IDLE_TIMEOUT (R336): qdp.idle_timeout without a valid datagram. -/
def execQdpIdleTimeout (t : Nat) (session : Nat) (s : State) : Host.Outcome State Fault Refusal :=
  s.run t fun d => d.when d.running fun d => match d.sessionOf session with
    | some se => if se.phase = 1 && se.last + d.rn O.qdpIdleTimeout * sec ≤ d.now then d.closeSession session 1 else d
    | none => d

/-- QDP_SEGMENT_TIMEOUT (R340). -/
def execQdpSegmentTimeout (t : Nat) (session : Nat) (s : State) : Host.Outcome State Fault Refusal :=
  s.run t fun d => d.when d.running fun d => d.segmentTimeout session

/-- QDP_PEER_RETRY (R337): a handshake that failed is reported once per run and begun again. -/
def execQdpPeerRetry (t : Nat) (peer : Fin 2) (s : State) : Host.Outcome State Fault Refusal :=
  s.run t fun d => d.when (d.running && (d.peerOf peer).retryAt.any fun r => r ≤ d.now) fun d =>
    let tried := d.dict.sessions.any fun se => se.peer && se.role == peerRole peer && se.phase != 1
    let d := if tried && !(d.peerOf peer).noted then
        (d.modPeer peer fun q => { q with noted := true }).raise Code.qdpPeerFailed
      else d
    d.peerConnect peer

/-- QDP_LOCKOUT_EXPIRY (R334): 60 s after the lockout HELLO is heard again. -/
def execQdpLockoutExpiry (t : Nat) (addr : Bytes) (s : State) : Host.Outcome State Fault Refusal :=
  s.run t fun d => d.when d.running fun d =>
    { d with dict := { d.dict with locked := d.dict.locked.filter fun l => !(l.1 == addr && l.2 + 60 * sec ≤ d.now) } }

end Sys2Proof.Machine
end

