-- ==== Sys2Proof/Machine/Rope.lean ====
section
/-! DEFINITION. The rope link (R30, R237 to R245): the meanings of its training, lane, flit and idle commands, and of the loss of
REFIN100. -/

namespace Sys2Proof.Machine

/-- REFIN100_LOST (R30): the quads switch to the own reference until the next reset; every lane in use loses lock. -/
def execRefin100Lost (t : Nat) (s : State) : Host.Outcome State Fault Refusal :=
  s.run t fun d => d.when (d.alive && d.rn O.clockRefSelect == 1 && d.rn O.clockRefStatus == 1) fun d =>
    let d := (d.setN O.clockRefStatus 0 2).raise Code.clkRefinLost
    (d.allHeads.foldl (fun (d : Dev) h => d.lockLoss h (List.range (((d.lk h).cur.map (·.lanes)).getD 0))) d).ropeFail

/-! ### Bring-up (R239, R240) -/

/-- ROPE_STEP_COMPLETE (R239); an UP link exchanges identities (R408). -/
def execRopeStepComplete (t : Nat) (locked : List (Nat × Nat)) (partnerMax : Nat) (s : State) :
    Host.Outcome State Fault Refusal :=
  s.run t fun d => d.when (d.alive && d.rope.state == 1) fun d =>
    let d := d.ropeStep locked partnerMax
    if d.ropeIsUp then d.exchangeIdentity else d

/-- ROPE_STEP_TIMEOUT (R239). -/
def execRopeStepTimeout (t : Nat) (s : State) : Host.Outcome State Fault Refusal :=
  s.run t fun d => d.when (d.alive && d.rope.state == 1) fun d => d.ropeDown

/-- ROPE_BRINGUP_RETRY_TIMER (R240). -/
def execRopeBringupRetryTimer (t : Nat) (s : State) : Host.Outcome State Fault Refusal :=
  s.run t fun d => d.when (d.alive && d.rope.state == 0 && d.rf O.ropeEnable && d.rope.retryAt.any (· ≤ d.now)) fun d => d.ropeStart

/-! ### Lanes (R238, R241) -/

/-- Whether a marker names a lane as one of a set: logical number, count and speed. -/
def markerFits (b : Bytes) (speed lane : Nat) (set : List Nat) : Bool :=
  set.contains lane && leAt b 1 1 == (set.filter (· < lane)).length && leAt b 2 1 == set.length && leAt b 3 1 == speed

/-- A lane has rejoined: a transient fault (R241), lasting where the unit has had too many (R414). -/
def Dev.ropeRestored (d : Dev) (lane : Nat) : Dev :=
  let own : Own := { code := Code.ropeLaneRestored, p0 := lane }
  let d := d.raiseOwn own
  if d.transientOver 12 lane then d.noteLasting 12 lane own 2 none 0 0 else d.noteTransient 12 lane own

/-- A lane marker (R238): the lanes that rejoin are taken with the first marker that counts them. -/
def Dev.ropeMarker (d : Dev) (lane : Nat) (b : Bytes) (skew : Nat) : Dev :=
  let r := d.rope
  let wider := (List.range 4).filter fun l => r.rxLanes.contains l || r.rejoin.contains l
  if !(wider.contains lane || r.rxOld.contains lane) then d
  else if 64 < skew then (d.raise Code.ropeSkew lane).ropeLaneLoss lane
  else if !r.rejoin.isEmpty && markerFits b r.step lane wider then
    let d := d.modRope fun x => { x with rxLanes := wider, rxOld := wider, rejoin := [] }
    r.rejoin.foldl (fun (d : Dev) l => d.ropeRestored l) d
  else if markerFits b r.step lane r.rxLanes then d.modRope fun x => { x with rxOld := x.rxLanes }
  else if markerFits b r.step lane r.rxOld then d
  else if r.rxLanes.contains lane then (d.raise Code.ropeLaneConfig lane).ropeLaneLoss lane
  else d

/-- ROPE_LANE_MARKER_RECEIVED (R238). -/
def execRopeLaneMarkerReceived (t : Nat) (lane : Fin 4) (block : Bytes) (skewUi : Nat) (s : State) :
    Host.Outcome State Fault Refusal :=
  s.run t fun d => d.when (d.alive && d.ropeIsUp && block.length == 16 && leAt block 0 1 == 0xE1) fun d => d.ropeMarker lane block skewUi

/-- ROPE_LANE_LOSS (R241). -/
def execRopeLaneLoss (t : Nat) (lane : Fin 4) (s : State) : Host.Outcome State Fault Refusal :=
  s.run t fun d => d.when (d.alive && d.ropeIsUp && d.rope.rxLanes.contains lane.val) fun d => d.ropeLaneLoss lane

/-- ROPE_LANE_RETRY_TIMEOUT (R241): 10 ms after the loss the lane is excluded, a lasting fault. -/
def execRopeLaneRetryTimeout (t : Nat) (lane : Fin 4) (s : State) : Host.Outcome State Fault Refusal :=
  s.run t fun d => d.when (d.alive && (tfind d.rope.retrying lane).any fun a => a + 10000000 ≤ d.now) fun d =>
    let d := d.modRope fun x => { x with
      retrying := x.retrying.filter fun (p : Nat × Nat) => p.1 != lane.val, lostLanes := x.lostLanes ++ [lane.val] }
    let own : Own := { code := Code.ropeLaneLost, p0 := lane }
    (d.raiseOwn own).noteLasting 12 lane own 1 none 0 0

/-- ROPE_LANE_RELOCK (R241): LANE_ADD goes out when the FOM is at or above the floor. -/
def execRopeLaneRelock (t : Nat) (lane : Fin 4) (fom : Nat) (s : State) : Host.Outcome State Fault Refusal :=
  s.run t fun d => d.when (d.alive && d.ropeIsUp && (tfind d.rope.retrying lane).any fun a => d.now < a + 10000000) fun d =>
    let d := d.modLn (68 + lane.val) fun x => { x with fom := min 255 fom }
    if fom < d.rn O.ropeFomFloor then d
    else (d.modRope fun x => { x with
      retrying := x.retrying.filter fun (p : Nat × Nat) => p.1 != lane.val, rejoin := x.rejoin ++ [lane.val] }).sendLaneCmd 2 lane

/-! ### Flits (R243, R244) -/

/-- Idle is left (R245): exit bursts and a marker; after more than 10 ms a training set step at the current speed. -/
def Dev.ropeWake (d : Dev) : Dev :=
  if !d.rope.idleTx then d
  else
    let long := d.rope.idleSince + 10000000 < d.now
    let d := if long then d.ropeTrain d.rope.txLanes
      else (List.range 32).foldl (fun (d : Dev) _ => d.ropeBlocks d.rope.txLanes burstBlock) d
    let d := (d.modRope fun x => { x with idleTx := false, idleSince := d.now }).ropeMarkers
    d.flushRope d.rope.sendQ.length

/-- An acknowledgement, out of idle. -/
def Dev.ropeAckNow (d : Dev) (nak : Bool) : Dev := d.ropeWake.sendAck nak

/-- A flit that is not accepted: the first one draws a NAK. -/
def Dev.ropeBad (d : Dev) : Dev :=
  if d.rope.nakSent then d else (d.ropeAckNow true).modRope fun x => { x with nakSent := true }

/-- The bytes of a data flit reach their channel: whole messages of a mailbox channel reach the mailbox; those of the DMA engine
and the heartbeat are commands of their own (DEDUCED, log 33). -/
def Dev.ropeDeliver (d : Dev) (chan : Nat) (data : Bytes) (last : Bool) : Dev :=
  let msg := tget [] d.rope.parts chan ++ data
  let d := d.modRope fun x => { x with parts := tset x.parts chan (if last then [] else msg) }
  if last && 0x10 ≤ chan && chan ≤ 0x17 then d.mbxFromPartner chan msg else d

/-- A management flit of the partner. -/
def Dev.ropeManage (d : Dev) (cmd lane : Nat) : Dev :=
  if cmd = 1 then d.ropeDropTx lane else if cmd = 2 then d.ropeAddTx lane else d

/-- The flit in turn is accepted; every 16th is acknowledged at once. -/
def Dev.ropeAccept (d : Dev) (b : Bytes) : Dev :=
  let d := d.modRope fun x => { x with expect := (x.expect + 1) % 65536, nakSent := false, unacked := x.unacked + 1 }
  let d := if 16 ≤ d.rope.unacked then d.ropeAckNow false else d
  if leAt b 0 1 = 3 then d.ropeManage (leAt b 8 1) (leAt b 9 1)
  else d.ropeDeliver (leAt b 1 1) (slice b 8 (leAt b 6 1)) (bit (leAt b 7 1) 2)

/-- Whether a flit is valid in type and length. -/
def flitOk (b : Bytes) : Bool := leAt b 0 1 ≤ 3 && leAt b 6 1 ≤ 244

/-- A flit arrives. -/
def Dev.ropeFlit (d : Dev) (b : Bytes) : Dev :=
  let crcOk := b.length == 256 && crc32c (b.take 252) == beAt b 252 4
  if !crcOk then (d.bump O.ropeCrcErrors).ropeBad
  else if !flitOk b then d.ropeBad
  else
    let flags := leAt b 7 1
    let d := if bit flags 0 then d.ropeAcked (beAt b 4 2) else d
    let d := if bit flags 1 then d.ropeReplay (beAt b 4 2) else d
    if !d.ropeIsUp || leAt b 0 1 % 2 = 0 then d
    else
      let k := seqDiff (beAt b 2 2) d.rope.expect
      if k = 0 then d.ropeAccept b else if k < 0 then d.ropeAckNow false else d.ropeBad

/-- ROPE_FLIT_RECEIVED (R244). -/
def execRopeFlitReceived (t : Nat) (flit : Bytes) (s : State) : Host.Outcome State Fault Refusal :=
  s.run t fun d => d.when (d.alive && d.ropeIsUp) fun d => d.ropeFlit flit

/-- ROPE_REPLAY_TIMEOUT (R244): 20 us without an advance while flits are outstanding. -/
def execRopeReplayTimeout (t : Nat) (s : State) : Host.Outcome State Fault Refusal :=
  s.run t fun d => d.when (d.alive && d.ropeIsUp && d.rope.advanceAt + 20000 ≤ d.now) fun d =>
    match d.rope.replayQ with
    | [] => d
    | f :: _ => d.ropeReplay f.seq

/-- ROPE_ACK_TIMER (R244). -/
def execRopeAckTimer (t : Nat) (s : State) : Host.Outcome State Fault Refusal :=
  s.run t fun d => d.when (d.alive && d.ropeIsUp && d.rope.unacked != 0) fun d => d.ropeAckNow false

/-! ### Idle (R245) -/

/-- ROPE_IDLE_TIMEOUT (R245). -/
def execRopeIdleTimeout (t : Nat) (s : State) : Host.Outcome State Fault Refusal :=
  s.run t fun d => d.when (d.alive && d.ropeIsUp && !d.rope.idleTx && d.rope.sendQ.isEmpty && d.rn O.ropeIdleDelay != 0 &&
      d.rope.idleSince + 1000 * d.rn O.ropeIdleDelay ≤ d.now) fun d =>
    (d.ropeBlocks d.rope.txLanes idleEntryBlock).modRope fun x => { x with idleTx := true, idleSince := d.now }

/-- ROPE_IDLE_EXIT (R245). -/
def execRopeIdleExit (t : Nat) (s : State) : Host.Outcome State Fault Refusal :=
  s.run t fun d => d.when (d.alive && d.ropeIsUp && d.rope.idleTx && !d.rope.sendQ.isEmpty) fun d => d.ropeWake

end Sys2Proof.Machine
end

