-- ==== Sys2Proof/Machine/Witness.lean ====
section
/-! DEFINITION. The meanings of the witness path's commands (chapter 3): WITNESS_SIGNED, WITNESS_ACK_TIMEOUT. The QDP ACK
of a record is in the QDP file. -/

namespace Sys2Proof.Machine

/-- A signed request leaves the queue (R92 to R96): its record is appended; one of kind 1 is forwarded by a unit with
lead, else kept and reported. A signature that came with the retry is a transient fault (R91, R413). -/
def Dev.signed (d : Dev) (r : Request) (c : Bytes) : Dev :=
  let seq := d.witness.nextSeq
  let d := ({ d with witness := { d.witness with requests := d.witness.requests.drop 1 } }).appendRecord c
  let d :=
    if r.kind = 1 then
      let d := (((d.bump O.witnessIssued).bumpAction r.region 0).raise Code.witnessIssued r.panel r.region seq).postTouch r.record 4 0
      let rec_ := ((d.witness.ring.getLast?).map (·.record)).getD []
      if d.holdsLead then
        let fw := d.sendForward ⟨seq, rec_, 0, d.now, none⟩
        { fw.1 with witness := { fw.1.witness with forwards := fw.1.witness.forwards ++ [fw.2] } }
      else d.raise Code.witnessNotForwarded 0 0 seq
    else d
  if r.tries = 0 then d
  else if d.transientOver 3 0 then d.signerLost 2
  else d.noteTransient 3 0 { code := Code.witnessSignFault }

/-- WITNESS_SIGNED (R91, R93); the closed gate of R395 blocks signing. -/
def execWitnessSigned (t : Nat) (ok : Bool) (s : State) : Host.Outcome State Fault Refusal :=
  s.run t fun d => d.when (d.running && !d.gated) fun d =>
    match d.witness.requests with
    | r :: rest =>
      match r.content with
      | some c =>
        if ok then d.signed r c
        else if r.tries = 0 then { d with witness := { d.witness with requests := { r with tries := 1 } :: rest } }
        else d.signerLost 1
      | none => d
    | [] => d

/-- WITNESS_ACK_TIMEOUT (R95): the same datagram again, or WITNESS_UNACKED once the resends are exhausted. A unit that
has given up lead resends nothing (R96). -/
def execWitnessAckTimeout (t : Nat) (seq : Nat) (s : State) : Host.Outcome State Fault Refusal :=
  s.run t fun d => d.when d.running fun d =>
    match d.witness.forwards.find? fun f => f.seq == seq && f.time + 1000000 * d.rn O.witnessAckTimeout ≤ d.now with
    | none => d
    | some f =>
      let drop (d : Dev) : Dev :=
        { d with witness := { d.witness with forwards := d.witness.forwards.filter fun g => g.seq != seq } }
      if !d.holdsLead then drop d
      else if f.resends < d.rn O.witnessResends then
        let r := d.sendForward { f with resends := f.resends + 1 }
        { r.1 with witness := { r.1.witness with
            forwards := r.1.witness.forwards.map fun g => if g.seq = seq then r.2 else g } }
      else ((drop d).bump O.witnessUnacked).raise Code.witnessUnacked 0 0 seq

end Sys2Proof.Machine
end

