-- ==== Sys2Proof/Machine/Dispatch.lean ====
section
/-! DEFINITION. One arm per command: a direct call of its meaning. -/

namespace Sys2Proof.Machine

/-- The effect of a command on everything but the queue. -/
def exec (i : Instr) (s : State) : Host.Outcome State Fault Refusal :=
  match i with
  | .refin100Lost t => Sys2Proof.Machine.execRefin100Lost t s
  | .scanoutUnderflow t h line x0 x1 => Sys2Proof.Machine.execScanoutUnderflow t h line x0 x1 s
  | .layerCutOff t layer => Sys2Proof.Machine.execLayerCutOff t layer s
  | .streamLossTimeout t st => Sys2Proof.Machine.execStreamLossTimeout t st s
  | .headFrameStart t h => Sys2Proof.Machine.execHeadFrameStart t h s
  | .headActiveEnd t h => Sys2Proof.Machine.execHeadActiveEnd t h s
  | .sealWindowPassed t h => Sys2Proof.Machine.execSealWindowPassed t h s
  | .witnessSigned t ok => Sys2Proof.Machine.execWitnessSigned t ok s
  | .witnessAckTimeout t seq => Sys2Proof.Machine.execWitnessAckTimeout t seq s
  | .pitchStart t fence => Sys2Proof.Machine.execPitchStart t fence s
  | .commitValidationDone t g => Sys2Proof.Machine.execCommitValidationDone t g s
  | .commitDue t g => Sys2Proof.Machine.execCommitDue t g s
  | .commitApply t g => Sys2Proof.Machine.execCommitApply t g s
  | .compareFire t target => Sys2Proof.Machine.execCompareFire t target s
  | .frameReceived t p f => Sys2Proof.Machine.execFrameReceived t p f s
  | .blockLockLossTimeout t p => Sys2Proof.Machine.execBlockLockLossTimeout t p s
  | .blockLockReturn t p => Sys2Proof.Machine.execBlockLockReturn t p s
  | .frameTransmitStart t p => Sys2Proof.Machine.execFrameTransmitStart t p s
  | .launchLateWindowExpiry t ring => Sys2Proof.Machine.execLaunchLateWindowExpiry t ring s
  | .frameTransmitDone t p => Sys2Proof.Machine.execFrameTransmitDone t p s
  | .auRelease t st => Sys2Proof.Machine.execAuRelease t st s
  | .ssrcIdleTimeout t st => Sys2Proof.Machine.execSsrcIdleTimeout t st s
  | .rtcpSrReceived t st ssrc ntpSec ntpFrac rtp gm => Sys2Proof.Machine.execRtcpSrReceived t st ssrc ntpSec ntpFrac rtp gm s
  | .rtcpRrTimer t st => Sys2Proof.Machine.execRtcpRrTimer t st s
  | .rtspResponse t st r => Sys2Proof.Machine.execRtspResponse t st r s
  | .rtspRetryTimer t st => Sys2Proof.Machine.execRtspRetryTimer t st s
  | .rtspKeepaliveTimer t st => Sys2Proof.Machine.execRtspKeepaliveTimer t st s
  | .multicastQueryReceived t p => Sys2Proof.Machine.execMulticastQueryReceived t p s
  | .multicastReportTimer t p => Sys2Proof.Machine.execMulticastReportTimer t p s
  | .ptpSyncReceived t p gm offset servo => Sys2Proof.Machine.execPtpSyncReceived t p gm offset servo s
  | .ptpAnnounceReceived t p gm priority1 priority2 utc => Sys2Proof.Machine.execPtpAnnounceReceived t p gm priority1 priority2 utc s
  | .ptpPdelayReceived t p request => Sys2Proof.Machine.execPtpPdelayReceived t p request s
  | .ptpSyncTimeout t => Sys2Proof.Machine.execPtpSyncTimeout t s
  | .holdoverLimitExceeded t => Sys2Proof.Machine.execHoldoverLimitExceeded t s
  | .gmSyncTimer t => Sys2Proof.Machine.execGmSyncTimer t s
  | .gmAnnounceTimer t => Sys2Proof.Machine.execGmAnnounceTimer t s
  | .auParsed t st p => Sys2Proof.Machine.execAuParsed t st p s
  | .decodeComplete t e planes sliceError refUnreadable => Sys2Proof.Machine.execDecodeComplete t e planes sliceError refUnreadable s
  | .decEngineSelfCheckFail t e => Sys2Proof.Machine.execDecEngineSelfCheckFail t e s
  | .startWaitExpiry t st => Sys2Proof.Machine.execStartWaitExpiry t st s
  | .firIntervalExpiry t st => Sys2Proof.Machine.execFirIntervalExpiry t st s
  | .pipeSelfCheckFail t k bank => Sys2Proof.Machine.execPipeSelfCheckFail t k bank s
  | .slotPost t slot buf dataTime => Sys2Proof.Machine.execSlotPost t slot buf dataTime s
  | .writebackFrameComplete t h => Sys2Proof.Machine.execWritebackFrameComplete t h s
  | .bivouacBuildStart t k => Sys2Proof.Machine.execBivouacBuildStart t k s
  | .bivouacBuildComplete t k blocks bank => Sys2Proof.Machine.execBivouacBuildComplete t k blocks bank s
  | .bivouacReadError t bank h line0 line1 retryOk => Sys2Proof.Machine.execBivouacReadError t bank h line0 line1 retryOk s
  | .hpdLowTimeout t h => Sys2Proof.Machine.execHpdLowTimeout t h s
  | .hpdHighStable t h => Sys2Proof.Machine.execHpdHighStable t h s
  | .irqHpd t h lowUs locked => Sys2Proof.Machine.execIrqHpd t h lowUs locked s
  | .linkStatusPoll t h locked symbolErrors => Sys2Proof.Machine.execLinkStatusPoll t h locked symbolErrors s
  | .readingComplete t h caps => Sys2Proof.Machine.execReadingComplete t h caps s
  | .trainingPhaseDone t h locked drive => Sys2Proof.Machine.execTrainingPhaseDone t h locked drive s
  | .trainingAttemptTimeout t h => Sys2Proof.Machine.execTrainingAttemptTimeout t h s
  | .linkRetryTimer t h => Sys2Proof.Machine.execLinkRetryTimer t h s
  | .linkRestoreTimer t h => Sys2Proof.Machine.execLinkRestoreTimer t h s
  | .laneCalibrationTimer t lane fom1 fom2 eye => Sys2Proof.Machine.execLaneCalibrationTimer t lane fom1 fom2 eye s
  | .laneCorrectionApply t lane => Sys2Proof.Machine.execLaneCorrectionApply t lane s
  | .ropeStepComplete t locked partnerMax => Sys2Proof.Machine.execRopeStepComplete t locked partnerMax s
  | .ropeStepTimeout t => Sys2Proof.Machine.execRopeStepTimeout t s
  | .ropeBringupRetryTimer t => Sys2Proof.Machine.execRopeBringupRetryTimer t s
  | .ropeLaneMarkerReceived t lane block skewUi => Sys2Proof.Machine.execRopeLaneMarkerReceived t lane block skewUi s
  | .ropeLaneLoss t lane => Sys2Proof.Machine.execRopeLaneLoss t lane s
  | .ropeLaneRetryTimeout t lane => Sys2Proof.Machine.execRopeLaneRetryTimeout t lane s
  | .ropeFlitReceived t flit => Sys2Proof.Machine.execRopeFlitReceived t flit s
  | .ropeReplayTimeout t => Sys2Proof.Machine.execRopeReplayTimeout t s
  | .ropeAckTimer t => Sys2Proof.Machine.execRopeAckTimer t s
  | .ropeIdleTimeout t => Sys2Proof.Machine.execRopeIdleTimeout t s
  | .ropeIdleExit t => Sys2Proof.Machine.execRopeIdleExit t s
  | .encodeInputCutOff t c => Sys2Proof.Machine.execEncodeInputCutOff t c s
  | .encodeFrameComplete t e params rows estPrev estQuality => Sys2Proof.Machine.execEncodeFrameComplete t e params rows estPrev estQuality s
  | .rtcpFirReceived t c => Sys2Proof.Machine.execRtcpFirReceived t c s
  | .rtcpPliReceived t c => Sys2Proof.Machine.execRtcpPliReceived t c s
  | .refreshIntervalTimer t c => Sys2Proof.Machine.execRefreshIntervalTimer t c s
  | .relaySrTimer t c => Sys2Proof.Machine.execRelaySrTimer t c s
  | .encEngineSelfCheckFail t e => Sys2Proof.Machine.execEncEngineSelfCheckFail t e s
  | .verticalScanStart t n => Sys2Proof.Machine.execVerticalScanStart t n s
  | .horizontalScanStart t n => Sys2Proof.Machine.execHorizontalScanStart t n s
  | .scanComplete t n scan => Sys2Proof.Machine.execScanComplete t n scan s
  | .holdComplete t n region => Sys2Proof.Machine.execHoldComplete t n region s
  | .contactExpiry t n contact => Sys2Proof.Machine.execContactExpiry t n contact s
  | .baselineTimeout t n => Sys2Proof.Machine.execBaselineTimeout t n s
  | .pdetPresent t n => Sys2Proof.Machine.execPdetPresent t n s
  | .pdetAbsent t n => Sys2Proof.Machine.execPdetAbsent t n s
  | .electrodeTestComplete t n capFf => Sys2Proof.Machine.execElectrodeTestComplete t n capFf s
  | .memCommandSlot t ch => Sys2Proof.Machine.execMemCommandSlot t ch s
  | .trefiExpiry t ch rank => Sys2Proof.Machine.execTrefiExpiry t ch rank s
  | .rhWindowStart t ch => Sys2Proof.Machine.execRhWindowStart t ch s
  | .imbalanceWindowEnd t ch => Sys2Proof.Machine.execImbalanceWindowEnd t ch s
  | .mr4Poll t ch field => Sys2Proof.Machine.execMr4Poll t ch field s
  | .wckOscillatorRead t ch rank driftPs => Sys2Proof.Machine.execWckOscillatorRead t ch rank driftPs s
  | .memUncorrectableRead t addr => Sys2Proof.Machine.execMemUncorrectableRead t addr s
  | .memRereadDone t addr ok => Sys2Proof.Machine.execMemRereadDone t addr ok s
  | .spareRowCopyDone t ch rank bank row poison => Sys2Proof.Machine.execSpareRowCopyDone t ch rank bank row poison s
  | .scrubPass t addr found => Sys2Proof.Machine.execScrubPass t addr found s
  | .qdpHello t p src sport dgram => Sys2Proof.Machine.execQdpHello t p src sport dgram s
  | .qdpChallenge t p src sport dgram => Sys2Proof.Machine.execQdpChallenge t p src sport dgram s
  | .qdpProve t p src sport dgram => Sys2Proof.Machine.execQdpProve t p src sport dgram s
  | .qdpAccept t p src sport dgram => Sys2Proof.Machine.execQdpAccept t p src sport dgram s
  | .qdpClose t p src sport dgram => Sys2Proof.Machine.execQdpClose t p src sport dgram s
  | .qdpKeepalive t p src sport dgram => Sys2Proof.Machine.execQdpKeepalive t p src sport dgram s
  | .qdpRead t p src sport dgram => Sys2Proof.Machine.execQdpRead t p src sport dgram s
  | .qdpWrite t p src sport dgram => Sys2Proof.Machine.execQdpWrite t p src sport dgram s
  | .qdpSegment t p src sport dgram => Sys2Proof.Machine.execQdpSegment t p src sport dgram s
  | .qdpSegmentAck t p src sport dgram => Sys2Proof.Machine.execQdpSegmentAck t p src sport dgram s
  | .qdpSubscribe t p src sport dgram => Sys2Proof.Machine.execQdpSubscribe t p src sport dgram s
  | .qdpAck t p src sport dgram => Sys2Proof.Machine.execQdpAck t p src sport dgram s
  | .qdpIdleTimeout t session => Sys2Proof.Machine.execQdpIdleTimeout t session s
  | .qdpSegmentTimeout t session => Sys2Proof.Machine.execQdpSegmentTimeout t session s
  | .qdpPeerRetry t peer => Sys2Proof.Machine.execQdpPeerRetry t peer s
  | .qdpLockoutExpiry t addr => Sys2Proof.Machine.execQdpLockoutExpiry t addr s
  | .canNmtCommand t p command node => Sys2Proof.Machine.execCanNmtCommand t p command node s
  | .canUsdoRequest t p node req => Sys2Proof.Machine.execCanUsdoRequest t p node req s
  | .canUsdoTimeout t p => Sys2Proof.Machine.execCanUsdoTimeout t p s
  | .canRpdo t p n data => Sys2Proof.Machine.execCanRpdo t p n data s
  | .canTpdoTimer t p n => Sys2Proof.Machine.execCanTpdoTimer t p n s
  | .canHeartbeatTimer t => Sys2Proof.Machine.execCanHeartbeatTimer t s
  | .canHeartbeatMissed t p consumer => Sys2Proof.Machine.execCanHeartbeatMissed t p consumer s
  | .canClassicalFrame t p => Sys2Proof.Machine.execCanClassicalFrame t p s
  | .canErrorState t p busOff => Sys2Proof.Machine.execCanErrorState t p busOff s
  | .canBusOffRecovery t p => Sys2Proof.Machine.execCanBusOffRecovery t p s
  | .coreSelfCheckFail t c => Sys2Proof.Machine.execCoreSelfCheckFail t c s
  | .coreWatchdogExpiry t c => Sys2Proof.Machine.execCoreWatchdogExpiry t c s
  | .coreRunPeriod t c => Sys2Proof.Machine.execCoreRunPeriod t c s
  | .secCoreSelfCheckFail t => Sys2Proof.Machine.execSecCoreSelfCheckFail t s
  | .mbxPost t m d master len => Sys2Proof.Machine.execMbxPost t m d master len s
  | .mbxWithdraw t m d master => Sys2Proof.Machine.execMbxWithdraw t m d master s
  | .mbxTake t m d master => Sys2Proof.Machine.execMbxTake t m d master s
  | .mbxAckIn t m d master seq reply => Sys2Proof.Machine.execMbxAckIn t m d master seq reply s
  | .mbxResultClear t m d master => Sys2Proof.Machine.execMbxResultClear t m d master s
  | .mbxAckTimeout t m d => Sys2Proof.Machine.execMbxAckTimeout t m d s
  | .registerWrite t master addr width value => Sys2Proof.Machine.execRegisterWrite t master addr width value s
  | .masterAccess t master kind scanout addr len data found => Sys2Proof.Machine.execMasterAccess t master kind scanout addr len data found s
  | .protDrainEnd t n => Sys2Proof.Machine.execProtDrainEnd t n s
  | .cvuCtrlWrite t u master value => Sys2Proof.Machine.execCvuCtrlWrite t u master value s
  | .cvuDataWrite t u master regWidth width value => Sys2Proof.Machine.execCvuDataWrite t u master regWidth width value s
  | .cvuFinish t u master => Sys2Proof.Machine.execCvuFinish t u master s
  | .anchorBeat t m => Sys2Proof.Machine.execAnchorBeat t m s
  | .anchorState t m => Sys2Proof.Machine.execAnchorState t m s
  | .anchorRequest t m => Sys2Proof.Machine.execAnchorRequest t m s
  | .anchorGrant t m => Sys2Proof.Machine.execAnchorGrant t m s
  | .anchorRelease t m => Sys2Proof.Machine.execAnchorRelease t m s
  | .anchorHealth t m => Sys2Proof.Machine.execAnchorHealth t m s
  | .beatTimer t => Sys2Proof.Machine.execBeatTimer t s
  | .stateTimer t => Sys2Proof.Machine.execStateTimer t s
  | .anchorContactTimeout t => Sys2Proof.Machine.execAnchorContactTimeout t s
  | .memberAbsentTimeout t m => Sys2Proof.Machine.execMemberAbsentTimeout t m s
  | .requestWindowExpiry t => Sys2Proof.Machine.execRequestWindowExpiry t s
  | .leadPrePitch t fence => Sys2Proof.Machine.execLeadPrePitch t fence s
  | .twinFenceRise t => Sys2Proof.Machine.execTwinFenceRise t s
  | .recordClose t => Sys2Proof.Machine.execRecordClose t s
  | .recordReceived t data => Sys2Proof.Machine.execRecordReceived t data s
  | .heartbeatSend t => Sys2Proof.Machine.execHeartbeatSend t s
  | .heartbeatReceived t data => Sys2Proof.Machine.execHeartbeatReceived t data s
  | .twinIdentityReceived t data => Sys2Proof.Machine.execTwinIdentityReceived t data s
  | .snapshotReceived t parts => Sys2Proof.Machine.execSnapshotReceived t parts s
  | .bistComplete t kind inst pass => Sys2Proof.Machine.execBistComplete t kind inst pass s
  | .bistRotationTimer t => Sys2Proof.Machine.execBistRotationTimer t s
  | .powerOn t => Sys2Proof.Machine.execPowerOn t s
  | .nresetAssert t => Sys2Proof.Machine.execNresetAssert t s
  | .nresetRelease t => Sys2Proof.Machine.execNresetRelease t s
  | .rootPllLock t pairingOk flashOk => Sys2Proof.Machine.execRootPllLock t pairingOk flashOk s
  | .memoryTrainingDone t chans ppr => Sys2Proof.Machine.execMemoryTrainingDone t chans ppr s
  | .startupWipeDone t ok us selfTestFailed => Sys2Proof.Machine.execStartupWipeDone t ok us selfTestFailed s
  | .imagesVerified t flashOk => Sys2Proof.Machine.execImagesVerified t flashOk s
  | .firmwareInitDone t => Sys2Proof.Machine.execFirmwareInitDone t s
  | .railFault t rail => Sys2Proof.Machine.execRailFault t rail s
  | .clockFault t => Sys2Proof.Machine.execClockFault t s
  | .deviceWatchdogExpiry t => Sys2Proof.Machine.execDeviceWatchdogExpiry t s
  | .standbyWipeDone t => Sys2Proof.Machine.execStandbyWipeDone t s
  | .standbyReached t => Sys2Proof.Machine.execStandbyReached t s
  | .wakePin t => Sys2Proof.Machine.execWakePin t s
  | .wakeAlarm t => Sys2Proof.Machine.execWakeAlarm t s
  | .tamperMeshCheck t mesh ok => Sys2Proof.Machine.execTamperMeshCheck t mesh ok s
  | .thermalCrossing t temp => Sys2Proof.Machine.execThermalCrossing t temp s
  | .throttleStepTimer t temp => Sys2Proof.Machine.execThrottleStepTimer t temp s
  | .thermalShutdownTrip t => Sys2Proof.Machine.execThermalShutdownTrip t s
  | .energyPublish t energyNj work badSensors => Sys2Proof.Machine.execEnergyPublish t energyNj work badSensors s
  | .debugUnlockAttempt t => Sys2Proof.Machine.execDebugUnlockAttempt t s
  | .journalAppendDone t ticket => Sys2Proof.Machine.execJournalAppendDone t ticket s
  | .processorRestartDone t c => Sys2Proof.Machine.execProcessorRestartDone t c s
  | .railsInRange t => Sys2Proof.Machine.execRailsInRange t s
  | .thermalShutdownRelease t => Sys2Proof.Machine.execThermalShutdownRelease t s
  | .latchedWakeHoldExpiry t => Sys2Proof.Machine.execLatchedWakeHoldExpiry t s
  | .ropeLaneRelock t lane fom => Sys2Proof.Machine.execRopeLaneRelock t lane fom s
  | .dmaEngineFault t kind inst retryOk => Sys2Proof.Machine.execDmaEngineFault t kind inst retryOk s
  | .headOutputStageFault t h retryOk => Sys2Proof.Machine.execHeadOutputStageFault t h retryOk s

end Sys2Proof.Machine
end

