-- ==== Sys2Proof/Machine/Step.lean ====
section
/-! DEFINITION. One step: the command at the front of the queue is carried out with the queue's rest; on an empty queue
one CLK_CTRL cycle passes (DESIGN CHOICE, log 2). -/

namespace Sys2Proof.Machine

/-- One step of the block. -/
def step (s : State) : Host.Outcome State Fault Refusal :=
  match s.front with
  | none => .next { s with dev := s.dev.idle }
  | some (c, rest) => exec c rest

/-- The state with the command a word spells at the front of the queue; the state itself where the word spells none,
which is every word (see `decodeTableWord`). -/
def State.withFetchWord (s : State) (nbits w : Nat) : State :=
  match Sys2Proof.decodeTableWord nbits w with
  | none => s
  | some c => { s with pending := c :: s.pending }

end Sys2Proof.Machine
end

