-- ==== Sys2Proof/Safety.lean ====
section
/-! DEFINITION. The terms in which claims speak of the block: what a command answers, what it leaves alone, and the invariant of
a safe run. -/

namespace Sys2Proof.Machine

/-- DRAM reads as before at every address, and the queue is as it was. -/
def State.keeps (s u : State) : Prop :=
  (∀ a, Memory.peek u.dram a = Memory.peek s.dram a) ∧ u.pending = s.pending

/-- The device without what the reporting of a code may touch: the dictionary and its sessions, the rings, the free-value
counter, the CAN ports, the trace. -/
def Dev.bare (d : Dev) : Dev := { d with dict := {}, rings := [], freeCtr := 0, canPorts := [], sent := [] }

/-- A register that the reporting of a code may change: the event sequence and its losses, frames of rings, late triggers. -/
def reportKey (k : Nat) : Bool :=
  k == O.dictEventsLast.key 0 || k == O.dictEventsLost.key 0 || k == O.timeTriggersLate.key 0 || O.ringFrames.has k

/-- Every register but those of `ks` and those of `reportKey` holds what it held. -/
def Dev.regsBut (ks : List Nat) (d e : Dev) : Prop :=
  ∀ k, k ∉ ks → reportKey k = false → tfind e.dict.eff k = tfind d.dict.eff k

/-- Every register but those of `ks` holds what it held. -/
def Dev.regsJust (ks : List Nat) (d e : Dev) : Prop := ∀ k, k ∉ ks → tfind e.dict.eff k = tfind d.dict.eff k

/-- A counter of four bytes or fewer after one more event. -/
def upTo (o : Obj) (n : Nat) : Nat := if n + 1 < 2 ^ (8 * o.size) then n + 1 else 2 ^ (8 * o.size) - 1

/-- A counter has counted one more event; past the largest value of its type nothing is claimed. -/
def Dev.counts (d e : Dev) (o : Obj) (i : Nat := 0) : Prop := d.rn o i + 1 < 2 ^ (8 * o.size) → e.rn o i = d.rn o i + 1

/-- The newest event is of a code with its first two parameters. -/
def Dev.newest (d : Dev) (code p0 p1 : Nat) : Prop :=
  ∃ e, d.dict.events.getLast? = some e ∧ e.code = code ∧ e.p0 = p0 % 2 ^ 16 ∧ e.p1 = p1 % 2 ^ 16

/-- The event ring has room, so that no record is lost. -/
def Dev.evRoom (d : Dev) : Bool := d.dict.events.length < 4096

/-- The event ring has room for `n` more records. -/
def Dev.evFree (d : Dev) (n : Nat) : Bool := d.dict.events.length + n ≤ 4096

/-- Between two devices records were appended to the events, among them one of a code with its first two parameters, stamped
with the instant. -/
def Dev.logs (d e : Dev) (code p0 p1 : Nat) : Prop :=
  ∃ l, e.dict.events = d.dict.events ++ l ∧
    ∃ x ∈ l, x.code = code ∧ x.p0 = p0 % 2 ^ 16 ∧ x.p1 = p1 % 2 ^ 16 ∧ x.time = e.clock

/-- The event ring holds a record of a code with its first parameter, stamped with the instant. -/
def Dev.told (e : Dev) (code p0 : Nat) : Prop := ∃ x ∈ e.dict.events, x.code = code ∧ x.p0 = p0 % 2 ^ 16 ∧ x.time = e.clock

/-- Between two devices something left the device. -/
def Dev.emits (d e : Dev) (o : Out) : Prop := ∃ l, e.sent = d.sent ++ l ∧ o ∈ l

/-- The newest descriptor posted to a transmit ring carries a payload to an address. -/
def Dev.sends (e : Dev) (ring : Nat) (dst payload : Bytes) : Prop :=
  ∃ x, (e.ring ring).tx.getLast? = some x ∧ x.dst = dst ∧ x.payload = payload

/-- Every register holds what it held but those of `os` and those that reporting may change. -/
def Dev.regsOf (os : List Obj) (d e : Dev) : Prop :=
  ∀ k, (∀ o ∈ os, ∀ i, k ≠ o.key i) → reportKey k = false → tfind e.dict.eff k = tfind d.dict.eff k

/-- A datagram on a port of QDP, not segmented, whose header R331 accepts as one of a type, of the type's size. -/
def Dev.qdpWell (d : Dev) (p : Nat) (b : Bytes) (typ : Nat) : Bool :=
  bit (d.rn O.qdpPorts) p && 32 ≤ b.length && beAt b 0 2 == 0x5144 && beAt b 2 1 == 1 && beAt b 3 1 == typ &&
    beAt b 12 2 != 0xFFFF && beAt b 12 2 + 32 == b.length && (qdpBodySize typ).all fun n => n + 32 == b.length

/-- No session is near the end of its numbers (R335). -/
def Dev.roomy (d : Dev) : Bool := d.dict.sessions.all fun x => x.sendSeq < 2 ^ 31 && x.recvMax < 2 ^ 31

/-- A datagram of an open session that passes every check of R331. -/
def Dev.qdpTaken (d : Dev) (p : Nat) (b : Bytes) (typ : Nat) (se : Session) : Bool :=
  d.qdpWell p b typ && d.dgramSession (parseDgram b) == some se && tagOk (parseDgram b) se.key &&
    se.accepts (parseDgram b).seq && d.roomy && (parseDgram b).seq < 2 ^ 31

/-- The body of an Anchor message that passes every check of R388 on its path. -/
def Dev.anchorTaken (d : Dev) (m : AnchorMsg) (typ : Nat) : Option Bytes :=
  let isAnchor := d.twin.role == .anchor
  match m with
  | .qdp p _ b =>
    let g := parseDgram b
    match d.dgramSession g with
    | some se => if d.qdpTaken p b typ se && se.role == 0x41 && se.peer != isAnchor && d.anchorFresh g.body false then
        some g.body else none
    | none => none
  | .can p id data =>
    let body := data.take 48
    let u := if isAnchor then (d.unitOfSerial (beAt body 0 8)).getD 0xFF else d.rn O.twinUnitId
    if d.anchorCans.contains p.val && data.length == 64 && id == anchorCanId u typ (!isAnchor) &&
        data.drop 48 == d.anchorTag id body && d.anchorFresh body true then some body
    else none

/-- The Anchor hears a message of member u with a body. -/
def Dev.anchorHears (d : Dev) (m : AnchorMsg) (typ u : Nat) (body : Bytes) : Prop :=
  d.running = true ∧ d.twin.role = .anchor ∧ d.anchorTaken m typ = some body ∧ d.unitOfSerial (beAt body 0 8) = some u

/-- A member hears a message of the Anchor with a body. -/
def Dev.memberHears (d : Dev) (m : AnchorMsg) (typ : Nat) (body : Bytes) : Prop :=
  d.running = true ∧ d.isMember = true ∧ d.anchorTaken m typ = some body

/-- A command answers a next state with DRAM and the queue as before, whose device meets `P`. -/
def State.gives (s : State) (c : Instr) (P : Dev → Prop) : Prop :=
  ∃ u, exec c s = .next u ∧ s.keeps u ∧ P u.dev

/-- DRAM is in its canonical form. -/
def State.ok (s : State) : Bool := Memory.wf s.dram

end Sys2Proof.Machine
end

