-- ==== Sys2Proof/WellFormed.lean ====
section
/-! DEFINITION. Which commands are well formed: the operands lie in the ranges that the formats of the spec give them (Table 0-2,
R77, R104, R114, R180, R229, R239, R244, R290, R298, R333, R346, R370, R376). -/

namespace Sys2Proof

/-- An instant that DTIME can carry: 48 bits of seconds. -/
def instantOk (t : Nat) : Bool := t < 2 ^ 48 * 1000000000

/-- A value of 32 bits. -/
def u32 (v : Nat) : Bool := v < 2 ^ 32

/-- Tags, addresses and ports of a frame. -/
def frameOk (f : EthFrame) : Bool :=
  f.dst < 2 ^ 48 && f.etherType < 65536 && f.tags.all (fun g => g.1 < 8 && g.2 < 4096) &&
    f.ip.all fun ip => ip.proto < 256 && ip.udp.all fun u => u.sport < 65536 && u.dport < 65536

/-- An RTSP reply. -/
def replyOk : RtspReply → Bool
  | .described rate _ _ _ _ _ gm => u32 rate && gm.all fun g => g < 2 ^ 64
  | .setUp _ => true
  | .playing timeout => u32 timeout
  | .failed => true
  | .lost => true

/-- A parameter set: a profile of Table 5-1 or another, a chroma format. -/
def psOk (p : ParamSet) : Bool := [0, 1, 2, 9].contains p.profile && p.chroma < 4

/-- What was parsed. -/
def parsedOk : Parsed → Bool
  | .picture ps h => ps.all psOk && h.keepShort.all fun x => !h.keepLong.contains x
  | .headersOnly ps => ps.all psOk
  | .syntaxError => true

/-- One plane of samples. -/
def planeOk (w h depth : Nat) (rows : List (List Nat)) : Bool :=
  rows.length == h && rows.all fun r => r.length == w && r.all fun v => v < 2 ^ depth

/-- The planes of a 4:2:0 picture. -/
def planesOk (p : Planes) : Bool :=
  planeOk p.w p.h p.depth p.y && planeOk (p.w / 2) (p.h / 2) p.depth p.cb && planeOk (p.w / 2) (p.h / 2) p.depth p.cr

/-- Lanes of a link of four. -/
def lanesOk (l : List Nat) : Bool := l.all fun x => x < 4

/-- What a sink reports: 257 bytes of DPCD, a lane count, EDID in blocks. -/
def capsOk (c : SinkCaps) : Bool := c.dpcd.length == 257 && [1, 2, 4].contains c.lanes && c.edid.length % 128 == 0

/-- A datagram of QDP: a source, a port, at most 1,472 bytes. -/
def dgramOk (src : Bytes) (sport : Nat) (g : Bytes) : Bool := !src.isEmpty && sport < 65536 && g.length ≤ 1472

/-- A USDO request. -/
def usdoOk : UsdoReq → Bool
  | .read i s => i < 65536 && s < 256
  | .readSegment => true
  | .write i s _ => i < 65536 && s < 256
  | .writeStart i s n => i < 65536 && s < 256 && u32 n
  | .writeSegment _ => true

/-- Widths of register writes in bits. -/
def widthOk (w : Nat) : Bool := [8, 16, 32, 64].contains w

/-- A register write. -/
def writeOk (addr width value : Nat) : Bool := addr < 2 ^ 40 && widthOk width && value < 2 ^ width

/-- An Anchor message: a CAN identifier has 11 bits, its data at most 64 bytes. -/
def anchorOk : AnchorMsg → Bool
  | .qdp _ addr _ => !addr.isEmpty
  | .can _ id data => id < 2048 && data.length ≤ 64

/-- A temperature in 1/8 °C, an I16. -/
def tempOk (t : Int) : Bool := -32768 ≤ t && t < 32768

/-- A well-formed command. -/
def Instr.wellFormed : Instr → Bool
  | .refin100Lost t => instantOk t
  | .scanoutUnderflow t _ line x0 x1 => instantOk t && (line < 4320 && x0 < x1 && x1 ≤ 7680)
  | .layerCutOff t _ => instantOk t
  | .streamLossTimeout t _ => instantOk t
  | .headFrameStart t _ => instantOk t
  | .headActiveEnd t _ => instantOk t
  | .sealWindowPassed t _ => instantOk t
  | .witnessSigned t _ => instantOk t
  | .witnessAckTimeout t seq => instantOk t && (seq < 2 ^ 64)
  | .pitchStart t _ => instantOk t
  | .commitValidationDone t _ => instantOk t
  | .commitDue t _ => instantOk t
  | .commitApply t _ => instantOk t
  | .compareFire t _ => instantOk t
  | .frameReceived t _ f => instantOk t && (frameOk f)
  | .blockLockLossTimeout t _ => instantOk t
  | .blockLockReturn t _ => instantOk t
  | .frameTransmitStart t _ => instantOk t
  | .launchLateWindowExpiry t _ => instantOk t
  | .frameTransmitDone t _ => instantOk t
  | .auRelease t _ => instantOk t
  | .ssrcIdleTimeout t _ => instantOk t
  | .rtcpSrReceived t _ ssrc sec frac rtp gm => instantOk t && (u32 ssrc && u32 sec && u32 frac && u32 rtp && gm.all fun g => g < 2 ^ 64)
  | .rtcpRrTimer t _ => instantOk t
  | .rtspResponse t _ r => instantOk t && (replyOk r)
  | .rtspRetryTimer t _ => instantOk t
  | .rtspKeepaliveTimer t _ => instantOk t
  | .multicastQueryReceived t _ => instantOk t
  | .multicastReportTimer t _ => instantOk t
  | .ptpSyncReceived t _ gm _ _ => instantOk t && (gm < 2 ^ 64)
  | .ptpAnnounceReceived t _ gm p1 p2 utc => instantOk t && (gm < 2 ^ 64 && p1 < 256 && p2 < 256 && -32768 ≤ utc && utc < 32768)
  | .ptpPdelayReceived t _ _ => instantOk t
  | .ptpSyncTimeout t => instantOk t
  | .holdoverLimitExceeded t => instantOk t
  | .gmSyncTimer t => instantOk t
  | .gmAnnounceTimer t => instantOk t
  | .auParsed t _ p => instantOk t && (parsedOk p)
  | .decodeComplete t _ planes _ _ => instantOk t && (planesOk planes)
  | .decEngineSelfCheckFail t _ => instantOk t
  | .startWaitExpiry t _ => instantOk t
  | .firIntervalExpiry t _ => instantOk t
  | .pipeSelfCheckFail t _ _ => instantOk t
  | .slotPost t _ _ time => instantOk t && (instantOk time)
  | .writebackFrameComplete t _ => instantOk t
  | .bivouacBuildStart t _ => instantOk t
  | .bivouacBuildComplete t _ _ _ => instantOk t
  | .bivouacReadError t _ _ y0 y1 _ => instantOk t && (y0 ≤ y1 && y1 < 4320)
  | .hpdLowTimeout t _ => instantOk t
  | .hpdHighStable t _ => instantOk t
  | .irqHpd t _ _ locked => instantOk t && (lanesOk locked)
  | .linkStatusPoll t _ locked bad => instantOk t && (lanesOk locked && lanesOk bad)
  | .readingComplete t _ caps => instantOk t && (capsOk caps)
  | .trainingPhaseDone t _ locked _ => instantOk t && (lanesOk locked)
  | .trainingAttemptTimeout t _ => instantOk t
  | .linkRetryTimer t _ => instantOk t
  | .linkRestoreTimer t _ => instantOk t
  | .laneCalibrationTimer t _ f1 f2 eye => instantOk t && (f1 < 65536 && f2 < 65536 && eye < 65536)
  | .laneCorrectionApply t _ => instantOk t
  | .ropeStepComplete t locked top => instantOk t && (lanesOk (locked.map (·.1)) && top ≤ 4)
  | .ropeStepTimeout t => instantOk t
  | .ropeBringupRetryTimer t => instantOk t
  | .ropeLaneMarkerReceived t _ block _ => instantOk t && (block.length == 16)
  | .ropeLaneLoss t _ => instantOk t
  | .ropeLaneRetryTimeout t _ => instantOk t
  | .ropeFlitReceived t flit => instantOk t && (flit.length == 256)
  | .ropeReplayTimeout t => instantOk t
  | .ropeAckTimer t => instantOk t
  | .ropeIdleTimeout t => instantOk t
  | .ropeIdleExit t => instantOk t
  | .encodeInputCutOff t _ => instantOk t
  | .encodeFrameComplete t _ _ _ _ _ => instantOk t
  | .rtcpFirReceived t _ => instantOk t
  | .rtcpPliReceived t _ => instantOk t
  | .refreshIntervalTimer t _ => instantOk t
  | .relaySrTimer t _ => instantOk t
  | .encEngineSelfCheckFail t _ => instantOk t
  | .verticalScanStart t _ => instantOk t
  | .horizontalScanStart t _ => instantOk t
  | .scanComplete t _ scan => instantOk t && (scan.badPins.all fun p => p < 256)
  | .holdComplete t _ _ => instantOk t
  | .contactExpiry t _ _ => instantOk t
  | .baselineTimeout t _ => instantOk t
  | .pdetPresent t _ => instantOk t
  | .pdetAbsent t _ => instantOk t
  | .electrodeTestComplete t _ caps => instantOk t && (caps.all fun p => p.1 < 256)
  | .memCommandSlot t _ => instantOk t
  | .trefiExpiry t _ _ => instantOk t
  | .rhWindowStart t _ => instantOk t
  | .imbalanceWindowEnd t _ => instantOk t
  | .mr4Poll t _ _ => instantOk t
  | .wckOscillatorRead t _ _ _ => instantOk t
  | .memUncorrectableRead t addr => instantOk t && (addr < 2 ^ 36)
  | .memRereadDone t addr _ => instantOk t && (addr < 2 ^ 36)
  | .spareRowCopyDone t _ _ _ row poison => instantOk t && (row < 65536 && poison.all fun b => b < 32)
  | .scrubPass t addr _ => instantOk t && (addr < 2 ^ 36)
  | .qdpHello t _ src sport g => instantOk t && (dgramOk src sport g)
  | .qdpChallenge t _ src sport g => instantOk t && (dgramOk src sport g)
  | .qdpProve t _ src sport g => instantOk t && (dgramOk src sport g)
  | .qdpAccept t _ src sport g => instantOk t && (dgramOk src sport g)
  | .qdpClose t _ src sport g => instantOk t && (dgramOk src sport g)
  | .qdpKeepalive t _ src sport g => instantOk t && (dgramOk src sport g)
  | .qdpRead t _ src sport g => instantOk t && (dgramOk src sport g)
  | .qdpWrite t _ src sport g => instantOk t && (dgramOk src sport g)
  | .qdpSegment t _ src sport g => instantOk t && (dgramOk src sport g)
  | .qdpSegmentAck t _ src sport g => instantOk t && (dgramOk src sport g)
  | .qdpSubscribe t _ src sport g => instantOk t && (dgramOk src sport g)
  | .qdpAck t _ src sport g => instantOk t && (dgramOk src sport g)
  | .qdpIdleTimeout t _ => instantOk t
  | .qdpSegmentTimeout t _ => instantOk t
  | .qdpPeerRetry t _ => instantOk t
  | .qdpLockoutExpiry t addr => instantOk t && !addr.isEmpty
  | .canNmtCommand t _ command node => instantOk t && (command < 256 && node < 128)
  | .canUsdoRequest t _ node r => instantOk t && (node < 128 && usdoOk r)
  | .canUsdoTimeout t _ => instantOk t
  | .canRpdo t _ _ data => instantOk t && (data.length ≤ 64)
  | .canTpdoTimer t _ _ => instantOk t
  | .canHeartbeatTimer t => instantOk t
  | .canHeartbeatMissed t _ _ => instantOk t
  | .canClassicalFrame t _ => instantOk t
  | .canErrorState t _ _ => instantOk t
  | .canBusOffRecovery t _ => instantOk t
  | .coreSelfCheckFail t _ => instantOk t
  | .coreWatchdogExpiry t _ => instantOk t
  | .coreRunPeriod t _ => instantOk t
  | .secCoreSelfCheckFail t => instantOk t
  | .mbxPost t _ _ _ len => instantOk t && (len < 65536)
  | .mbxWithdraw t _ _ _ => instantOk t
  | .mbxTake t _ _ _ => instantOk t
  | .mbxAckIn t _ _ _ seq reply => instantOk t && (u32 seq && reply < 65536)
  | .mbxResultClear t _ _ _ => instantOk t
  | .mbxAckTimeout t _ _ => instantOk t
  | .registerWrite t _ addr width value => instantOk t && (writeOk addr width value)
  | .masterAccess t _ kind _ addr len data _ => instantOk t && (addr < 2 ^ 40 && 0 < len && (kind != .write || data.length == len))
  | .protDrainEnd t _ => instantOk t
  | .cvuCtrlWrite t _ _ value => instantOk t && (u32 value)
  | .cvuDataWrite t _ _ reg width value => instantOk t && ([8, 16, 32].contains reg && widthOk width && value < 2 ^ width)
  | .cvuFinish t _ _ => instantOk t
  | .anchorBeat t m => instantOk t && (anchorOk m)
  | .anchorState t m => instantOk t && (anchorOk m)
  | .anchorRequest t m => instantOk t && (anchorOk m)
  | .anchorGrant t m => instantOk t && (anchorOk m)
  | .anchorRelease t m => instantOk t && (anchorOk m)
  | .anchorHealth t m => instantOk t && (anchorOk m)
  | .beatTimer t => instantOk t
  | .stateTimer t => instantOk t
  | .anchorContactTimeout t => instantOk t
  | .memberAbsentTimeout t _ => instantOk t
  | .requestWindowExpiry t => instantOk t
  | .leadPrePitch t _ => instantOk t
  | .twinFenceRise t => instantOk t
  | .recordClose t => instantOk t
  | .recordReceived t _ => instantOk t
  | .heartbeatSend t => instantOk t
  | .heartbeatReceived t _ => instantOk t
  | .twinIdentityReceived t _ => instantOk t
  | .snapshotReceived t _ => instantOk t
  | .bistComplete t kind _ _ => instantOk t && (1 ≤ kind && kind ≤ 20)
  | .bistRotationTimer t => instantOk t
  | .powerOn t => instantOk t
  | .nresetAssert t => instantOk t
  | .nresetRelease t => instantOk t
  | .rootPllLock t _ _ => instantOk t
  | .memoryTrainingDone t chans ppr => instantOk t && (chans.length == 16 && ppr.all fun r => 1 ≤ r && r ≤ 3)
  | .startupWipeDone t _ us failed => instantOk t && (u32 us && failed.all fun u => 1 ≤ u.1 && u.1 ≤ 20)
  | .imagesVerified t _ => instantOk t
  | .firmwareInitDone t => instantOk t
  | .railFault t _ => instantOk t
  | .clockFault t => instantOk t
  | .deviceWatchdogExpiry t => instantOk t
  | .standbyWipeDone t => instantOk t
  | .standbyReached t => instantOk t
  | .wakePin t => instantOk t
  | .wakeAlarm t => instantOk t
  | .tamperMeshCheck t _ _ => instantOk t
  | .thermalCrossing t temp => instantOk t && (tempOk temp)
  | .throttleStepTimer t temp => instantOk t && (tempOk temp)
  | .thermalShutdownTrip t => instantOk t
  | .energyPublish t e w bad => instantOk t && (e.length == 5 && w.length == 4 && bad.all fun k => k < 5)
  | .debugUnlockAttempt t => instantOk t
  | .journalAppendDone t _ => instantOk t
  | .processorRestartDone t _ => instantOk t
  | .railsInRange t => instantOk t
  | .thermalShutdownRelease t => instantOk t
  | .latchedWakeHoldExpiry t => instantOk t
  | .ropeLaneRelock t _ fom => instantOk t && (fom < 65536)
  | .dmaEngineFault t kind _ _ => instantOk t && (14 ≤ kind && kind ≤ 18)
  | .headOutputStageFault t _ _ => instantOk t

end Sys2Proof
end

