-- ==== Sys2Proof/Certificates/Slice0/Obligations.lean ====
section
/-! DEFINITION. The statements for the provers. In each, `d` is the device as the command finds it: at the command's
instant; `e` is the device it leaves. -/

open Sys2Proof Sys2Proof.Machine

/-! ### The queue and the machine as a whole -/

/-- A step carries out the command at the front of the queue with the queue's rest. -/
def Obligations.StepRunsFront : Prop :=
  ∀ (c : Instr) (s : State), step { s with pending := c :: s.pending } = exec c s

/-- On an empty queue one CLK_CTRL cycle passes: device time grows by time.increment (R127), and nothing else changes. That a
step on an empty queue is this cycle is the model's choice (DESIGN CHOICE, log 2). -/
def Obligations.StepIdles : Prop :=
  ∀ (d : Dev) (m : List Host.Cell),
    ∃ u, step ⟨d, m, []⟩ = .next u ∧ u.dram = m ∧ u.pending = [] ∧
      u.dev.clock = d.clock + d.rn O.timeIncrement ∧ u.dev = { d with clock := u.dev.clock }

/-- Every step answers a next state and takes exactly the front command from the queue: no command stops the block or changes
what waits behind it. -/
def Obligations.StepTakesFront : Prop :=
  ∀ s : State, ∃ u, step s = .next u ∧ u.pending = s.pending.tail

/-- The memory's canonical form holds at reset. -/
def Obligations.DramCanonicalAtReset : Prop := State.reset.ok = true

/-- Every step keeps the memory's canonical form: addresses strictly rising, no listed byte equal to what an unlisted address
reads as. -/
def Obligations.DramCanonicalKept : Prop :=
  ∀ s u : State, s.ok = true → step s = .next u → u.ok = true

/-! ### The Cairn unit -/

/-- STREAM_LOSS_TIMEOUT: a bound stream past its loss timeout is marked lost. -/
def Claims.StreamLossMarks : Prop :=
  ∀ (s : State) (t : Nat) (st : Fin 128), let d := s.dev.tick t
    d.alive = true → (d.ing st).bound = true → d.streamLost st (six d.now) = true →
    s.gives (.streamLossTimeout t st) fun e =>
      e.ing st = { d.ing st with lost := true } ∧ (∀ o, o ≠ st.val → e.ing o = d.ing o) ∧ e = { d with ingest := e.ingest }

/-- LAYER_CUT_OFF: the evaluation of the frame in production becomes the layer's newest, and a transition raises the code of
the state entered. -/
def Claims.CutOffEvaluates : Prop :=
  ∀ (s : State) (t : Nat) (n : Fin 512) (ev : LEval), let d := s.dev.tick t
    d.alive = true → d.evFree 3 = true → d.evalNow n = some ev →
    (∀ y, d.evalAhead n = some y → gapOf ev.cutoff (six d.now) ≤ gapOf y.cutoff (six d.now)) →
    s.gives (.layerCutOff t n) fun e =>
      (e.ly n).hist = (ev :: (d.ly n).hist).take 8 ∧ (∀ m, m ≠ n.val → e.ly m = d.ly m) ∧
      (ev.state ≠ .none → ev.state ≠ ((d.lastEval n).map (·.state)).getD .none →
        d.logs e ev.state.event (d.desc n).head n) ∧
      e.bare = { d.bare with layers := e.layers } ∧ d.regsBut [] e

/-- All of `Claims.StreamLossMarks`, `Claims.CutOffEvaluates`. -/
def Obligations.LayersEvaluated : Prop :=
  Claims.StreamLossMarks ∧ Claims.CutOffEvaluates

/-- A live video layer's evaluation is of state LIVE only when a picture is shown whose age is within the layer's bound and
that is neither of a lost stream nor suspected frozen. -/
def Obligations.LiveIsInformed : Prop :=
  ∀ (d : Dev) (n : Nat) (desc : Desc) (prev : Option Shown) (start lc alive : Nat) (ev : LEval),
    desc.kind = 0 → desc.evaluated = true → d.evalLayer n desc prev start lc alive = some ev → ev.state = .live →
    ev.age ≤ ev.bound ∧ d.streamLost desc.source ev.cutoff = false ∧
      ∃ sl tag, ev.shown = some (.pic desc.source sl tag) ∧ tag.frozen = false

/-! ### The bivouac cache -/

/-- BIVOUAC_BUILD_START: on an idle pipe with cycles free the first waiting build runs and pins the newest posts of its
members. -/
def Claims.BuildStarts : Prop :=
  ∀ (s : State) (t : Nat) (k : Fin 18) (x : Build), let d := s.dev.tick t
    d.alive = true → (∀ b ∈ d.bivouac.builds, b.running = true → d.keyPipe b.key ≠ k) → d.pipeFree k = true →
    d.nextBuild k = some x →
    s.gives (.bivouacBuildStart t k) fun e =>
      { x with running := true, posts := d.postsOf x.key } ∈ e.bivouac.builds ∧
      e.bivouac = { d.bivouac with builds := e.bivouac.builds } ∧ e = { d with bivouac := e.bivouac }

/-- BIVOUAC_BUILD_COMPLETE: with blocks free the build becomes the newest copy of its run and is counted. -/
def Claims.BuildCompletes : Prop :=
  ∀ (s : State) (t : Nat) (k : Fin 18) (blocks : Nat) (bank : Fin 68) (x : Build), let d := s.dev.tick t
    d.alive = true → d.bivouac.builds.find? (fun b => b.running && d.keyPipe b.key == k) = some x →
    d.blocksUsed + min 80 blocks ≤ d.rn O.bivouacCapacity →
    s.gives (.bivouacBuildComplete t k blocks bank) fun e =>
      (∃ c, e.bivouac.copies = d.bivouac.copies ++ [c] ∧ c.key = x.key ∧ c.posts = x.posts ∧ c.completed = d.now ∧
        c.bank = bank.val ∧ c.blocks ≤ 80) ∧
      d.counts e O.bivouacBuilds ∧
      e.bare = { d.bare with bivouac := e.bivouac } ∧ d.regsJust [O.bivouacBuilds.key 0] e

/-- All of `Claims.BuildStarts`, `Claims.BuildCompletes`. -/
def Obligations.BivouacBuilds : Prop :=
  Claims.BuildStarts ∧ Claims.BuildCompletes

/-- BIVOUAC_READ_ERROR: a retry that succeeds is a transient of the bank, reported and logged; the lines read are noted for the
frame. -/
def Claims.ReadErrorTransient : Prop :=
  ∀ (s : State) (t : Nat) (bank : Fin 68) (h : Fin 32) (l0 l1 : Nat), let d := s.dev.tick t
    d.alive = true → d.bivouac.retired.contains bank.val = false → d.transientOver 8 bank = false → d.evFree 3 = true →
    s.gives (.bivouacReadError t bank h l0 l1 true) fun e =>
      d.logs e Code.bivouacTransient bank 0 ∧
      ((d.hd h).inFrame = true → (e.hd h).bivLines = (d.hd h).bivLines ++ [(l0, l1)]) ∧
      (∃ r, e.health.log.getLast? = some r ∧ r.cls = 0 ∧ r.kind = 8 ∧ r.inst = bank ∧ r.code = Code.bivouacTransient) ∧
      e.bare = { d.bare with heads := e.heads, health := e.health } ∧ d.regsBut [O.healthFaultLast.key 0] e

/-- BIVOUAC_READ_ERROR: a failed retry retires the bank: its copies are lost, and the first spare bank is engaged. -/
def Claims.ReadErrorRetires : Prop :=
  ∀ (s : State) (t : Nat) (bank : Fin 68) (h : Fin 32) (l0 l1 sp : Nat) (rest : List Nat), let d := s.dev.tick t
    d.alive = true → d.bivouac.retired.contains bank.val = false →
    d.bivouac.spares.filter (· != bank.val) = sp :: rest →
    s.gives (.bivouacReadError t bank h l0 l1 false) fun e =>
      e.bivouac.retired = d.bivouac.retired ++ [bank.val] ∧ e.bivouac.spares = rest ∧
      e.bivouac.copies = d.bivouac.copies.filter (fun c => c.bank != bank.val) ∧ (8, bank.val) ∈ e.health.retired ∧
      e.health.lasting = d.health.lasting + 1 ∧
      e.bare = { d.bare with heads := e.heads, health := e.health, bivouac := e.bivouac } ∧
      d.regsBut [O.healthFaultLast.key 0] e

/-- All of `Claims.ReadErrorTransient`, `Claims.ReadErrorRetires`. -/
def Obligations.BivouacReadFails : Prop :=
  Claims.ReadErrorTransient ∧ Claims.ReadErrorRetires

/-! ### Heads, seals, pipes -/

/-- HEAD_FRAME_START: a head whose frame is due starts it now, with the next alive counter and the present pitch; a head whose
link is up and that may emit does. -/
def Claims.FrameStarts : Prop :=
  ∀ (s : State) (t : Nat) (h : Fin 32), let d := s.dev.tick t
    d.alive = true → d.headOn h = true → (d.hd h).inFrame = false → d.mayStart h = true → (d.hd h).late = none →
    (d.hd h).remap = none → d.power.phase ≠ .stoppingHeads →
    s.gives (.headFrameStart t h) fun e =>
      (e.hd h).inFrame = true ∧ (e.hd h).start = d.now ∧ (e.hd h).alive = some (d.aliveFor h d.now) ∧
      (e.hd h).pitch = d.pitch ∧ (e.hd h).under = [] ∧
      ((d.hd h).emitting = true → (d.lk h).state = .running → d.mayEmit h = true → (e.hd h).emitting = true) ∧
      (∀ o, o ≠ h.val → e.hd o = d.hd o) ∧
      e.bare = { d.bare with heads := e.heads, layers := e.layers, bivouac := e.bivouac, time := e.time, panels := e.panels,
                             touch := e.touch } ∧
      d.regsBut [O.touchEventsLost.key 0] e

/-- HEAD_ACTIVE_END: the frame ends; its CRC is published and its record kept with the start, alive and pitch counters it
carried. -/
def Claims.ActiveEnds : Prop :=
  ∀ (s : State) (t : Nat) (h : Fin 32), let d := s.dev.tick t
    d.alive = true → d.headOn h = true → (d.hd h).inFrame = true →
    s.gives (.headActiveEnd t h) fun e =>
      (e.hd h).inFrame = false ∧
      (∃ fr, (e.hd h).frames = (fr :: (d.hd h).frames).take 8 ∧ fr.start = (d.hd h).start ∧ fr.pitch = (d.hd h).pitch ∧
        fr.alive = (d.hd h).alive.getD 0 ∧ fr.ended = d.now ∧ e.rn O.headFrameCrc h = fr.crc) ∧
      e.layers = d.layers ∧ e.panels = d.panels ∧ e.links = d.links ∧ e.pitch = d.pitch ∧ e.slots = d.slots

/-- SEAL_WINDOW_PASSED: a seal not sent within its window is dropped and counted; nothing else changes. -/
def Claims.SealDropped : Prop :=
  ∀ (s : State) (t : Nat) (h : Fin 32), let d := s.dev.tick t
    d.alive = true → (d.hd h).sealPend.isSome = true →
    s.gives (.sealWindowPassed t h) fun e =>
      e.hd h = { d.hd h with sealPend := none } ∧ (∀ o, o ≠ h.val → e.hd o = d.hd o) ∧
      e.rn O.headSealsDropped h = upTo O.headSealsDropped (d.rn O.headSealsDropped h) ∧
      e.bare = { d.bare with heads := e.heads } ∧ d.regsJust [O.headSealsDropped.key h] e

/-- All of `Claims.FrameStarts`, `Claims.ActiveEnds`, `Claims.SealDropped`. -/
def Obligations.FramesShown : Prop :=
  Claims.FrameStarts ∧ Claims.ActiveEnds ∧ Claims.SealDropped

/-- SCANOUT_UNDERFLOW: a late fetch marks the pixels drawn late and every layer of the head on that line, raises the code, and
starts the retry of the head's pipe. -/
def Claims.UnderflowMarks : Prop :=
  ∀ (s : State) (t : Nat) (h : Fin 32) (line x0 x1 : Nat), let d := s.dev.tick t
    d.alive = true → d.composed h = true → (d.hd h).inFrame = true → (d.pp (d.rn O.headPipe h)).retry = none →
    d.evFree 2 = true →
    s.gives (.scanoutUnderflow t h line x0 x1) fun e =>
      e.hd h = { d.hd h with under := (d.hd h).under ++ [(line, x0, x1)] } ∧
      (∀ l ∈ d.vlayers h, l.2.2.y0 ≤ line → line < l.2.2.y1 → (e.ly l.1).underflow = true) ∧
      d.logs e Code.scanoutUnderflow h 0 ∧ d.logs e Code.pipeFault (d.rn O.headPipe h) h ∧
      (e.pp (d.rn O.headPipe h)).retry = some ⟨[h.val], [h.val], none, h.val⟩ ∧
      e.bare = { d.bare with heads := e.heads, layers := e.layers, pipes := e.pipes } ∧ d.regsBut [] e

/-- PIPE_SELF_CHECK_FAIL on a pipe in use without a retry open: every head of the pipe is reported and will be retried, and no
head leaves the pipe. -/
def Claims.SelfCheckRetries : Prop :=
  ∀ (s : State) (t : Nat) (k : Fin 18) (bank : Option (Fin 17)), let d := s.dev.tick t
    d.alive = true → d.pipeState k = .active → (d.pp k).retry = none → (d.onPipe k).filter d.composed ≠ [] →
    d.evFree 32 = true →
    s.gives (.pipeSelfCheckFail t k bank) fun e =>
      (∀ h ∈ d.onPipe k, d.composed h = true → d.logs e Code.pipeFault k h) ∧
      (∃ r, (e.pp k).retry = some r ∧ r.faulted = (d.onPipe k).filter d.composed ∧
        r.retrying = (d.onPipe k).filter d.composed ∧ r.bank = bank.map (·.val)) ∧
      e.bare = { d.bare with heads := e.heads, pipes := e.pipes } ∧ d.regsBut [] e

/-- All of `Claims.UnderflowMarks`, `Claims.SelfCheckRetries`. -/
def Obligations.ScanoutFaults : Prop :=
  Claims.UnderflowMarks ∧ Claims.SelfCheckRetries

/-! ### Content slots and write-back -/

/-- SLOT_POST to a buffer that nothing pins: the post becomes the slot's newest. -/
def Claims.PostTaken : Prop :=
  ∀ (s : State) (t : Nat) (slot : Fin 256) (buf : Fin 4) (tm : Nat), let d := s.dev.tick t
    d.alive = true → d.postPinned slot buf = false →
    s.gives (.slotPost t slot buf tm) fun e =>
      tget {} e.slots slot = { post := some (buf.val, tm) } ∧ (∀ o, o ≠ slot.val → tget {} e.slots o = tget {} d.slots o) ∧
      e.bivouac.copies = d.bivouac.copies ∧ e = { d with slots := e.slots, bivouac := e.bivouac }

/-- SLOT_POST to a pinned buffer: SLOT_BUSY, and no slot changes. -/
def Claims.PostBusy : Prop :=
  ∀ (s : State) (t : Nat) (slot : Fin 256) (buf : Fin 4) (tm : Nat), let d := s.dev.tick t
    d.alive = true → d.postPinned slot buf = true → d.evFree 1 = true →
    s.gives (.slotPost t slot buf tm) fun e =>
      d.logs e Code.slotBusy slot buf ∧ e.bare = d.bare ∧ d.regsBut [] e

/-- WRITEBACK_FRAME_COMPLETE: the one frame a head is writing is complete now. -/
def Claims.WritebackCompletes : Prop :=
  ∀ (s : State) (t : Nat) (h : Fin 32) (w : WbBuf), let d := s.dev.tick t
    d.alive = true → (d.hd h).wb.filter (·.completion.isNone) = [w] →
    s.gives (.writebackFrameComplete t h) fun e =>
      { w with completion := some d.now } ∈ (e.hd h).wb ∧ (e.hd h).wb.length = (d.hd h).wb.length ∧
      (∀ o, o ≠ h.val → e.hd o = d.hd o) ∧ e = { d with heads := e.heads }

/-- All of `Claims.PostTaken`, `Claims.PostBusy`, `Claims.WritebackCompletes`. -/
def Obligations.SlotsPosted : Prop :=
  Claims.PostTaken ∧ Claims.PostBusy ∧ Claims.WritebackCompletes

/-! ### Commit groups -/

/-- COMMIT_VALIDATION_DONE: a table that validates is armed in place of what was armed; one that does not is refused, and what
was armed stays. -/
def Claims.ValidationEnds : Prop :=
  ∀ (s : State) (t : Nat) (g : Fin 8) (tb : GTable), let d := s.dev.tick t
    d.alive = true → (d.grp g).revalidate = false → (d.grp g).validating = some tb →
    s.gives (.commitValidationDone t g) fun e =>
      (e.grp g).validating = none ∧ (e.grp g).due = (d.grp g).due ∧
      (∀ tb', d.validate g tb = .ok tb' →
        (e.grp g).armed = some { tb' with armedAt := d.now } ∧ e.rn O.groupArmedToken g = tb.token) ∧
      (∀ r, d.validate g tb = .error r → (e.grp g).armed = (d.grp g).armed ∧ (e.grp g).refusal = r) ∧
      (∀ o, o ≠ g.val → e.grp o = d.grp o) ∧
      e.bare = { d.bare with groups := e.groups, bivouac := e.bivouac, twin := e.twin } ∧
      d.regsBut [O.groupArmedToken.key g, O.groupRefusal.key g] e

/-- COMMIT_DUE: from the deadline an armed commit is due at its instant and no longer armed. -/
def Claims.CommitFallsDue : Prop :=
  ∀ (s : State) (t : Nat) (g : Fin 8) (tb : GTable), let d := s.dev.tick t
    d.alive = true → (d.grp g).armed = some tb → (d.grp g).due = none → (d.grp g).revalidate = false →
    (d.twin.role ≠ .lead ∧ d.twin.role ≠ .second ∨ tb.carried.isSome = true) →
    six (d.applyAt g tb) ≤ six d.now + d.deadline6 g →
    s.gives (.commitDue t g) fun e =>
      e.grp g = { d.grp g with armed := none, due := some { tb with due := some (d.applyAt g tb) } } ∧
      (∀ o, o ≠ g.val → e.grp o = d.grp o) ∧ e = { d with groups := e.groups }

/-- COMMIT_APPLY: at its instant a due commit is applied: it is due no longer, its token is the applied one, the commit is
counted and reported. -/
def Claims.CommitApplies : Prop :=
  ∀ (s : State) (t : Nat) (g : Fin 8) (tb : GTable), let d := s.dev.tick t
    d.alive = true → (d.grp g).due = some tb → tb.due.getD 0 ≤ d.now → tb.recheck = false →
    (∀ o ∈ tb.objs, o.1 ≠ O.groupCommits.key g) →
    s.gives (.commitApply t g) fun e =>
      (e.grp g).due = none ∧ e.rn O.groupAppliedToken g = tb.token ∧
      e.rn O.groupCommits g = upTo O.groupCommits (d.rn O.groupCommits g) ∧
      (∃ x ∈ e.dict.events, x.code = Code.commitApplied ∧ x.p0 = g ∧ x.p2 = tb.token % 2 ^ 32 ∧ x.time = e.clock) ∧ (∀ o, o ≠ g.val → e.grp o = d.grp o) ∧
      e.pitch = d.pitch ∧ e.ctxs = d.ctxs ∧ e.ingest = d.ingest ∧ e.slots = d.slots ∧ e.chans = d.chans

/-- All of `Claims.ValidationEnds`, `Claims.CommitFallsDue`, `Claims.CommitApplies`. -/
def Obligations.CommitsProceed : Prop :=
  Claims.ValidationEnds ∧ Claims.CommitFallsDue ∧ Claims.CommitApplies

/-! ### Ethernet -/

/-- FRAME_RECEIVED: a frame that no step of the classification takes is dropped and counted; one for a ring of service firmware
is delivered there with its descriptor, or dropped for want of a free one and counted. -/
def Obligations.FrameClassified : Prop :=
  ∀ (s : State) (t : Nat) (p : Fin 4) (f : EthFrame), let d := s.dev.tick t
    d.alive = true → d.rn O.portMode p ≠ 0 →
    s.gives (.frameReceived t p f) fun e =>
      (d.classify p f = none → d.counts e O.portRxDropped p ∧ e.rings = d.rings ∧ e.bare = d.bare ∧
        d.regsJust [O.portRxDropped.key p] e) ∧
      (∀ pl, d.classify p f = some pl → pl.ring < 4 →
        ((d.ring (16 * p + pl.ring)).rx.length < d.rn O.ringSize (16 * p + pl.ring) → (pl.ring ≠ 2 ∨ isAnswered f = false) →
          (e.ring (16 * p + pl.ring)).rx = (d.ring (16 * p + pl.ring)).rx ++ [rxDescOf f (d.arrivalOf p) pl] ∧
          e.bare = d.bare ∧ d.regsBut [] e) ∧
        (d.rn O.ringSize (16 * p + pl.ring) ≤ (d.ring (16 * p + pl.ring)).rx.length →
          (e.ring (16 * p + pl.ring)).rx = (d.ring (16 * p + pl.ring)).rx ∧
          e.rn O.ringOverflows (16 * p + pl.ring) = upTo O.ringOverflows (d.rn O.ringOverflows (16 * p + pl.ring)) ∧
          e.bare = d.bare ∧ d.regsBut [O.ringOverflows.key (16 * p + pl.ring)] e)) ∧
      e.bare = { d.bare with ports := e.ports, ingest := e.ingest, ctxs := e.ctxs, health := e.health }

/-- BLOCK_LOCK_LOSS_TIMEOUT: the link is down and reported, and nothing is left posted on its transmit rings. -/
def Claims.LinkGoesDown : Prop :=
  ∀ (s : State) (t : Nat) (p : Fin 4), let d := s.dev.tick t
    d.alive = true → (d.port p).linkUp = true → (∀ x ∈ (d.port p).sending, x.1 < 16) → d.evFree 1 = true →
    s.gives (.blockLockLossTimeout t p) fun e =>
      e.port p = { d.port p with linkUp := false, sending := none } ∧ (∀ o, o ≠ p.val → e.port o = d.port o) ∧
      e.rn O.portLink p = 0 ∧ (∀ q, 8 ≤ q → q < 16 → (e.ring (16 * p + q)).tx = []) ∧ d.logs e Code.netLinkDown p 0 ∧
      e.bare = { d.bare with ports := e.ports } ∧ d.regsBut [O.portLink.key p] e

/-- BLOCK_LOCK_RETURN: the link is up and reported, and duplicate address detection starts. -/
def Claims.LinkComesUp : Prop :=
  ∀ (s : State) (t : Nat) (p : Fin 4), let d := s.dev.tick t
    d.alive = true → d.rn O.portMode p ≠ 0 → (d.port p).linkUp = false → tget 0 d.health.dmaFault (unitKey 14 p) = 0 →
    d.evFree 1 = true →
    s.gives (.blockLockReturn t p) fun e =>
      e.port p = { d.port p with linkUp := true, conflicts := [], dadFrom := some d.now } ∧
      (∀ o, o ≠ p.val → e.port o = d.port o) ∧ e.rn O.portLink p = 1 ∧ d.logs e Code.netLinkUp p 0 ∧
      e.bare = { d.bare with ports := e.ports } ∧ d.regsBut [O.portLink.key p] e

/-- All of `Claims.LinkGoesDown`, `Claims.LinkComesUp`. -/
def Obligations.PortLinksChange : Prop :=
  Claims.LinkGoesDown ∧ Claims.LinkComesUp

/-- FRAME_TRANSMIT_START: with no launch times at the heads of its rings the port starts the frame at the head of the first
ring that R113 serves, with its departure time inserted, and takes it off the ring. COMPARE_FIRE of a launch is that same
step of the ring's port. -/
def Claims.TransmitStarts : Prop :=
  (∀ (s : State) (t : Nat) (p : Fin 4) (q : Nat) (x : TxDesc) (r : List TxDesc), let d := s.dev.tick t
    d.alive = true → (d.port p).linkUp = true → (d.port p).sending = none → d.gated = false →
    (∀ o ∈ d.txOrder p, ∀ y, d.txHead (16 * p + o) = some y → y.launchEn = false) →
    d.nextTx p = some q → (d.ring (16 * p + q)).tx = x :: r →
    s.gives (.frameTransmitStart t p) fun e =>
      (e.port p).sending = some (q, d.withTime p x, d.departure p) ∧ (e.ring (16 * p + q)).tx = r ∧
      (∀ o, o ≠ 16 * p.val + q → e.ring o = d.ring o) ∧ (∀ o, o ≠ p.val → e.port o = d.port o) ∧
      e = { d with ports := e.ports, rings := e.rings }) ∧
  ∀ (s : State) (t : Nat) (ring : Fin 64),
    exec (.compareFire t (.launch ring)) s = exec (.frameTransmitStart t ⟨ring / 16, by omega⟩) s

/-- FRAME_TRANSMIT_DONE: the frame in transmission leaves the device and its descriptor completes, with its departure time when
it asked for it. -/
def Claims.TransmitDone : Prop :=
  ∀ (s : State) (t : Nat) (p : Fin 4) (q dep : Nat) (x : TxDesc), let d := s.dev.tick t
    d.alive = true → (d.port p).sending = some (q, x, dep) →
    s.gives (.frameTransmitDone t p) fun e =>
      e.port p = { d.port p with sending := none } ∧ e.sent = d.sent ++ [.frame p q x.id dep x.payload] ∧
      (e.ring (16 * p + q)).done = (d.ring (16 * p + q)).done ++
        [⟨x.id, if x.late then 1 else 0, if x.tsCapture then dep % 2 ^ 48 else 0⟩] ∧
      (∀ o, o ≠ p.val → e.port o = d.port o) ∧ (∀ o, o ≠ 16 * p.val + q → e.ring o = d.ring o) ∧
      d.counts e O.ringFrames (16 * p + q) ∧
      e.bare = { d.bare with ports := e.ports } ∧ d.regsJust [O.ringFrames.key (16 * p + q)] e

/-- LAUNCH_LATE_WINDOW_EXPIRY: the late frame at the head of a ring is dropped with status 2 when its descriptor says so, else
it is kept to be sent late; the device reports it. -/
def Claims.LaunchLate : Prop :=
  ∀ (s : State) (t : Nat) (ring : Fin 64) (x : TxDesc), let d := s.dev.tick t
    d.alive = true → d.txHead ring = some x → d.launchLate (ring / 16) x = true → x.late = false → d.evFree 1 = true →
    s.gives (.launchLateWindowExpiry t ring) fun e =>
      (x.dropLate = true → ∃ y ∈ (e.ring ring).done, y.id = x.id ∧ y.status = 2) ∧
      (x.dropLate = false → (e.txHead ring) = some { x with late := true }) ∧
      (d.mayRaise (Code.netLaunchLate * 65536 + ring) sec = true → d.logs e Code.netLaunchLate ring 0) ∧
      e.bare = d.bare ∧ d.regsBut [] e

/-- COMPARE_FIRE: a general trigger whose time has come fires once: it is no longer set, and no other is touched. A grid
compare starts what HEAD_FRAME_START, PITCH_START and ENCODE_INPUT_CUT_OFF say and nothing of its own. -/
def Claims.CompareFires : Prop :=
  ∀ (s : State) (t : Nat), let d := s.dev.tick t
    d.alive = true →
    (∀ (i : Fin 16) (x : Nat), tfind d.triggers i = some x → compareFires x d.now = true →
      s.gives (.compareFire t (.trigger i)) fun e =>
        tfind e.triggers i = none ∧ (∀ o, o ≠ i.val → tfind e.triggers o = tfind d.triggers o) ∧
        e = { d with triggers := e.triggers }) ∧
    ∀ g : Fin 8, s.gives (.compareFire t (.grid g)) fun e => e = d

/-- All of `Claims.TransmitStarts`, `Claims.TransmitDone`, `Claims.LaunchLate`, `Claims.CompareFires`. -/
def Obligations.FramesSent : Prop :=
  Claims.TransmitStarts ∧ Claims.TransmitDone ∧ Claims.LaunchLate ∧ Claims.CompareFires

/-! ### Ingest, RTCP, RTSP, groups -/

/-- AU_RELEASE: the oldest access unit of a stream whose hold has passed is released when it is complete, and lost with its
code when it is not. -/
def Claims.AuReleases : Prop :=
  ∀ (s : State) (t : Nat) (st : Fin 128) (a : Au) (rest : List Au), let d := s.dev.tick t
    d.alive = true → (d.ing st).jitter = a :: rest → a.ended = true → a.dead = false →
    a.done + 1000000 * d.rn O.streamJitter st ≤ d.now → d.evFree (rest.length + 1) = true →
    s.gives (.auRelease t st) fun e =>
      (a.complete (rest.head?.map (·.firstSeq)) = true → { a with release := d.now } ∈ (e.ing st).releaseQ) ∧
      (a.complete (rest.head?.map (·.firstSeq)) = false → d.logs e Code.auIncomplete st 0) ∧
      (e.ing st).jitter.length ≤ rest.length ∧ (∀ o, o ≠ st.val → e.ing o = d.ing o) ∧
      e.bare = { d.bare with ingest := e.ingest } ∧ d.regsBut [O.streamAuComplete.key st, O.streamAuLost.key st] e

/-- SSRC_IDLE_TIMEOUT and RTCP_SR_RECEIVED: after 200 ms of silence the next SSRC may be adopted; a sender report of the
context's own SSRC gives the mapping of its clock. -/
def Claims.SsrcAndSenderReport : Prop :=
  ∀ (s : State) (t : Nat) (st : Fin 128), let d := s.dev.tick t
    d.alive = true →
    ((d.ing st).ssrc.isSome = true → (d.ing st).ssrcLast + 200000000 ≤ d.now →
      s.gives (.ssrcIdleTimeout t st) fun e =>
        e.ing st = { d.ing st with ssrcIdle := true } ∧ (∀ o, o ≠ st.val → e.ing o = d.ing o) ∧ e = { d with ingest := e.ingest }) ∧
    ∀ (ssrc sec_ frac rtp : Nat) (gm : Option Nat), (d.ing st).bound = true → (d.ing st).ssrc = some ssrc →
      s.gives (.rtcpSrReceived t st ssrc sec_ frac rtp gm) fun e =>
        e.ing st = { d.ing st with sr := some ⟨sec_, frac, rtp, d.now, gm⟩ } ∧ (∀ o, o ≠ st.val → e.ing o = d.ing o) ∧
        e.ri O.streamLastSr st = dtime d.now ∧ e.bare = { d.bare with ingest := e.ingest } ∧
        d.regsJust [O.streamLastSr.key st] e

/-- RTCP_RR_TIMER: a bound context whose peer is known sends it a receiver report. -/
def Claims.ReceiverReportSent : Prop :=
  ∀ (s : State) (t : Nat) (st : Fin 128) (peer : Bytes × Nat), let d := s.dev.tick t
    d.alive = true → (d.ing st).bound = true → d.rtcpPeer st = some peer → (d.port (d.rn O.streamPort st)).linkUp = true →
    s.gives (.rtcpRrTimer t st) fun e =>
      (∃ x, (e.ring (16 * d.rn O.streamPort st + 10)).tx =
          (d.ring (16 * d.rn O.streamPort st + 10)).tx ++ [x] ∧
        x.dst = peer.1 ∧ x.dport = peer.2 ∧ x.payload.take 4 = [0x81, 0xC9, 0, 7]) ∧
      e.bare = d.bare ∧ d.regsJust [] e

/-- All of `Claims.AuReleases`, `Claims.SsrcAndSenderReport`, `Claims.ReceiverReportSent`. -/
def Obligations.IngestProceeds : Prop :=
  Claims.AuReleases ∧ Claims.SsrcAndSenderReport ∧ Claims.ReceiverReportSent

/-- RTSP_RESPONSE: a session goes from DESCRIBE to SETUP to PLAY to playing; an error or a lost connection makes it wait 1, 2,
4 and then every 8 s. -/
def Claims.RtspProceeds : Prop :=
  ∀ (s : State) (t : Nat) (st : Fin 128) (r : RtspReply), let d := s.dev.tick t
    d.alive = true → (d.ing st).bound = true → d.rn O.streamSourceMode st = 2 →
    s.gives (.rtspResponse t st r) fun e =>
      (∀ gm, r = .described 90000 false false false false 0 gm → (d.rts st).state = 1 →
        (e.rts st).state = 2 ∧ (e.rts st).rfc7273Gm = gm) ∧
      (∀ g, r = .setUp g → (d.rts st).state = 2 → (e.rts st).state = 3 ∧ (e.rts st).group = g) ∧
      (∀ n, r = .playing n → (d.rts st).state = 3 →
        (e.rts st).state = 4 ∧ (e.rts st).step = 0 ∧ (e.rts st).due = d.now + n * sec / 2 ∧ e.rn O.streamRtspState st = 2) ∧
      (r = .failed ∨ r = .lost → 1 ≤ (d.rts st).state → (d.rts st).state ≤ 4 →
        (e.rts st).state = 5 ∧ (e.rts st).due = d.now + min 8 (2 ^ (d.rts st).step) * sec ∧ e.rn O.streamRtspState st = 3) ∧
      (∀ o, o ≠ st.val → e.rts o = d.rts o) ∧ e.bare = { d.bare with rtsp := e.rtsp, ports := e.ports }

/-- RTSP_RETRY_TIMER and RTSP_KEEPALIVE_TIMER: a failed session starts anew with DESCRIBE; a playing one asks again half its
timeout later. -/
def Claims.RtspTimers : Prop :=
  ∀ (s : State) (t : Nat) (st : Fin 128), let d := s.dev.tick t
    d.alive = true → (d.rts st).due ≤ d.now → (d.port (d.rn O.streamPort st)).linkUp = true →
    (d.rb O.streamRtspUrl st).length ≤ 1000 →
    ((d.rts st).state = 5 →
      s.gives (.rtspRetryTimer t st) fun e =>
        e.rts st = { d.rts st with state := 1 } ∧ e.rn O.streamRtspState st = 1 ∧
        e.sends (16 * d.rn O.streamPort st + 10) (urlHost (d.rb O.streamRtspUrl st))
          (ascii "DESCRIBE" ++ [0x20] ++ d.rb O.streamRtspUrl st ++ ascii " RTSP/2.0") ∧
        (∀ o, o ≠ st.val → e.rts o = d.rts o) ∧ e.bare = { d.bare with rtsp := e.rtsp } ∧
        d.regsJust [O.streamRtspState.key st] e) ∧
    ((d.rts st).state = 4 →
      s.gives (.rtspKeepaliveTimer t st) fun e =>
        e.rts st = { d.rts st with due := d.now + (d.rts st).timeout * sec / 2 } ∧
        e.sends (16 * d.rn O.streamPort st + 10) (urlHost (d.rb O.streamRtspUrl st))
          (ascii "GET_PARAMETER" ++ [0x20] ++ d.rb O.streamRtspUrl st ++ ascii " RTSP/2.0") ∧
        (∀ o, o ≠ st.val → e.rts o = d.rts o) ∧ e.bare = { d.bare with rtsp := e.rtsp } ∧
        d.regsJust [O.streamRtspState.key st] e)

/-- MULTICAST_QUERY_RECEIVED reports every membership of the port; MULTICAST_REPORT_TIMER repeats the report of each new one,
once. -/
def Claims.MembershipsReported : Prop :=
  ∀ (s : State) (t : Nat) (p : Fin 4), let d := s.dev.tick t
    let report (n : Nat) (j : Join) : Bytes :=
      [byteOf (if isV6 j.group then 143 else 0x22), byteOf n] ++ j.group ++ [0x20] ++ j.src
    d.alive = true → (d.port p).linkUp = true → (∀ j ∈ (d.port p).joins, j.group.length ≤ 64 ∧ j.src.length ≤ 64) →
    (s.gives (.multicastQueryReceived t p) fun e =>
      (e.ring (16 * p + 10)).tx.map (·.payload) =
        (d.ring (16 * p + 10)).tx.map (·.payload) ++ (d.port p).joins.map (fun j => report j.mode j) ∧
      e.bare = d.bare ∧ d.regsJust [] e) ∧
    (s.gives (.multicastReportTimer t p) fun e =>
      (e.ring (16 * p + 10)).tx.map (·.payload) =
        (d.ring (16 * p + 10)).tx.map (·.payload) ++
          ((d.port p).joins.filter (·.again)).map (fun j => report (j.mode + 2) j) ∧
      e.port p = { d.port p with joins := (d.port p).joins.map fun j => { j with again := false } } ∧
      (∀ o, o ≠ p.val → e.port o = d.port o) ∧ e.bare = { d.bare with ports := e.ports } ∧ d.regsJust [] e)

/-- All of `Claims.RtspProceeds`, `Claims.RtspTimers`, `Claims.MembershipsReported`. -/
def Obligations.SourcesOpened : Prop :=
  Claims.RtspProceeds ∧ Claims.RtspTimers ∧ Claims.MembershipsReported

/-! ### The time base -/

/-- PTP_SYNC_RECEIVED from the selected master: the offset is published; the sixteenth Sync in a row within 1 us locks, the
fourth in a row beyond 10 us unlocks, and in holdover one within 10 us locks again. -/
def Claims.SyncMeasured : Prop :=
  ∀ (s : State) (t : Nat) (p : Fin 4) (gm : Nat) (offset : Int) (servo : Nat), let d := s.dev.tick t
    d.alive = true → d.ptpPorts.contains p.val = true → d.time.port = p → d.time.gm = gm → d.evFree 2 = true →
    s.gives (.ptpSyncReceived t p gm offset servo) fun e =>
      e.ri O.timeOffset = offset ∧ e.time.lastOffset = offset ∧
      (d.time.state = .acquiring → offset.natAbs ≤ 1000 → d.time.inBound = 15 →
        e.time.state = .locked ∧ e.rn O.timeState = 2 ∧ d.logs e Code.timeLocked 0 0) ∧
      (d.time.state = .acquiring → (1000 < offset.natAbs ∨ d.time.inBound < 15) → e.time.state = .acquiring) ∧
      (d.time.state = .locked → 10000 < offset.natAbs → d.time.outBound = 3 →
        e.time.state = .acquiring ∧ e.rn O.timeState = 1 ∧ d.logs e Code.timeUnlocked 0 0) ∧
      (d.time.state = .locked → (offset.natAbs ≤ 10000 ∨ d.time.outBound < 3) → e.time.state = .locked) ∧
      (d.time.state = .holdover → offset.natAbs ≤ 10000 → e.time.state = .locked) ∧
      e.bare = { d.bare with time := e.time, clock := e.clock }

/-- PTP_ANNOUNCE_RECEIVED: the port's master is noted; a device in FREE that cannot be grandmaster follows the first one it
hears. -/
def Claims.AnnounceSelects : Prop :=
  ∀ (s : State) (t : Nat) (p : Fin 4) (gm p1 p2 : Nat) (utc : Int), let d := s.dev.tick t
    d.alive = true → d.ptpPorts.contains p.val = true →
    s.gives (.ptpAnnounceReceived t p gm p1 p2 utc) fun e =>
      tfind e.time.masters p = some (p1, p2, gm) ∧
      (d.time.masters = [] → d.rf O.timeGmCapable = false → d.time.state = .free →
        e.time.state = .acquiring ∧ e.time.gm = gm ∧ e.time.port = p ∧ e.rn O.timeState = 1 ∧ e.ri O.timeUtcOffset = utc) ∧
      (e.time.port ≠ p → e.ri O.timeUtcOffset = d.ri O.timeUtcOffset) ∧
      e.bare = { d.bare with time := e.time } ∧ d.regsBut [O.timeState.key 0, O.timeGmIdentity.key 0, O.timeUtcOffset.key 0] e

/-- PTP_PDELAY_RECEIVED: a request on a PTP port whose link is up is answered with a response and its follow-up. -/
def Claims.PdelayAnswered : Prop :=
  ∀ (s : State) (t : Nat) (p : Fin 4) (request : Bool), let d := s.dev.tick t
    d.alive = true → d.ptpPorts.contains p.val = true → (d.port p).linkUp = true →
    s.gives (.ptpPdelayReceived t p request) fun e =>
      (e.ring (16 * p + 8)).tx.map (·.payload) = (d.ring (16 * p + 8)).tx.map (·.payload) ++
        (if request then [d.ptpMessage p 3 d.time.gmSeq (insertedTime 1 (d.arrivalOf p) ++ zeros 10),
          d.ptpMessage p 10 d.time.gmSeq (insertedTime 1 (d.departure p) ++ zeros 10)] else []) ∧
      e.bare = d.bare ∧ d.regsJust [] e

/-- PTP_SYNC_TIMEOUT takes LOCKED to HOLDOVER and ACQUIRING to FREE; HOLDOVER_LIMIT_EXCEEDED takes HOLDOVER to FREE. -/
def Claims.SyncLost : Prop :=
  ∀ (s : State) (t : Nat), let d := s.dev.tick t
    d.alive = true → d.evFree 2 = true →
    (d.time.state = .locked → s.gives (.ptpSyncTimeout t) fun e =>
      e.time.state = .holdover ∧ e.time.holdFrom = d.now ∧ e.rn O.timeState = 3 ∧ d.logs e Code.timeHoldover 0 0 ∧
      e.bare = { d.bare with time := e.time } ∧ d.regsBut [O.timeState.key 0, O.timeIncrement.key 0] e) ∧
    (d.time.state = .acquiring → s.gives (.ptpSyncTimeout t) fun e =>
      e.time.state = .free ∧ e.time.gm = 0 ∧ e.rn O.timeState = 0 ∧
      e.bare = { d.bare with time := e.time } ∧ d.regsBut [O.timeState.key 0, O.timeGmIdentity.key 0] e) ∧
    (d.time.state = .holdover → 1000 * d.rn O.timeHoldoverLimit < d.errorBound →
      s.gives (.holdoverLimitExceeded t) fun e =>
        e.time.state = .free ∧ e.time.gm = 0 ∧ e.rn O.timeState = 0 ∧ d.logs e Code.timeUnlocked 0 0 ∧
        e.bare = { d.bare with time := e.time } ∧ d.regsBut [O.timeState.key 0, O.timeGmIdentity.key 0] e)

/-- All of `Claims.SyncMeasured`, `Claims.AnnounceSelects`, `Claims.SyncLost`. -/
def Obligations.TimeBaseFollows : Prop :=
  Claims.SyncMeasured ∧ Claims.AnnounceSelects ∧ Claims.SyncLost

/-- GM_SYNC_TIMER and GM_ANNOUNCE_TIMER: a grandmaster sends Sync, and Announce with its priorities, on each PTP port whose
link is up. -/
def Claims.GrandmasterSends : Prop :=
  ∀ (s : State) (t : Nat), let d := s.dev.tick t
    d.alive = true → d.time.state = .grandmaster →
    (s.gives (.gmSyncTimer t) fun e =>
      e.time = { d.time with gmSeq := d.time.gmSeq + 1 } ∧
      (∀ p ∈ d.ptpPorts, (d.port p).linkUp = true →
        ∃ x ∈ (e.ring (16 * p + 8)).tx, x.payload = d.ptpMessage p 0 d.time.gmSeq (zeros 10) ∧ x.tsCapture = true) ∧
      e.bare = { d.bare with time := e.time } ∧ d.regsJust ((d.ptpPorts).map fun p => O.ringFrames.key (16 * p + 8)) e) ∧
    (s.gives (.gmAnnounceTimer t) fun e =>
      (∀ p ∈ d.ptpPorts, (d.port p).linkUp = true →
        ∃ x ∈ (e.ring (16 * p + 8)).tx, x.payload = d.ptpMessage p 11 d.time.gmSeq (zeros 13 ++
          [byteOf (d.rn O.timePriority1)] ++ zeros 4 ++ [byteOf (d.rn O.timePriority2)] ++ be 8 d.ownClock ++ zeros 3)) ∧
      e.bare = d.bare ∧ d.regsJust ((d.ptpPorts).map fun p => O.ringFrames.key (16 * p + 8)) e)

/-- All of `Claims.PdelayAnswered`, `Claims.GrandmasterSends`. -/
def Obligations.TimeBaseServes : Prop :=
  Claims.PdelayAnswered ∧ Claims.GrandmasterSends

/-! ### The decode cluster -/

/-- AU_PARSED: the oldest released access unit is taken; a picture the context can decode joins its jobs, a syntax error loses
it, and a parameter set outside what the context supports halts it. -/
def Claims.AuParsedTaken : Prop :=
  ∀ (s : State) (t : Nat) (st : Fin 128) (r : Parsed) (au : Au) (rest : List Au), let d := s.dev.tick t
    d.alive = true → d.parses st = true → (d.ing st).releaseQ = au :: rest → (d.cx st).state = .clean →
    s.gives (.auParsed t st r) fun e =>
      (∀ hdr ps, r = .picture none hdr → (d.cx st).ps = some ps → d.limitCode st ps hdr = none →
        (∀ p ∈ hdr.refs, p ∈ d.heldPocs st) → (d.eng (d.cx st).engine).busy.isSome = true →
        (e.cx st).jobs = (d.cx st).jobs ++ [⟨au, hdr, ps, false⟩] ∧ (e.ing st).releaseQ = rest ∧ (e.cx st).state = .clean) ∧
      (r = .syntaxError → d.counts e O.streamAuLost st ∧ (e.ing st).releaseQ = rest ∧ (e.cx st).state = .clean) ∧
      (∀ ps code, r = .headersOnly (some ps) → d.haltCode st ps = some code →
        (e.cx st).state = .halted ∧ e.rn O.streamDecState st = CtxState.halted.code ∧ (e.ing st).releaseQ = rest) ∧
      (∀ o, o ≠ st.val → e.ing o = d.ing o ∧ e.heads = d.heads) ∧
      e.bare = { d.bare with ctxs := e.ctxs, engines := e.engines, ingest := e.ingest }

/-- DECODE_COMPLETE: the picture of the engine is counted, its checksum published and kept with its completion and whether it
is concealed. -/
def Claims.PictureCompletes : Prop :=
  ∀ (s : State) (t : Nat) (n : Fin 9) (p : Planes) (sliceError refBad : Bool) (b : Busy), let d := s.dev.tick t
    d.alive = true → d.engState n = .active → (d.eng n).busy = some b →
    s.gives (.decodeComplete t n p sliceError refBad) fun e =>
      d.counts e O.streamPictures b.stream ∧ d.counts e O.enginePictures n ∧
      e.rn O.streamChecksum b.stream = checksum p ∧
      (∃ r, (tget [] e.twin.pics b.stream).head? = some r ∧ r.sum = checksum p ∧ r.done = d.now ∧
        (b.job.subst = true ∨ sliceError = true ∨ refBad = true ∨ b.bad = true ↔ r.integrity = 2)) ∧
      e.heads = d.heads ∧ e.layers = d.layers ∧
      e.bare = { d.bare with ctxs := e.ctxs, engines := e.engines, health := e.health, ingest := e.ingest, twin := e.twin }

/-- All of `Claims.AuParsedTaken`, `Claims.PictureCompletes`. -/
def Obligations.PicturesDecoded : Prop :=
  Claims.AuParsedTaken ∧ Claims.PictureCompletes

/-- DEC_ENGINE_SELF_CHECK_FAIL: the first failure reruns the picture; a second retires the engine, and the spare takes its
picture. -/
def Claims.EngineFails : Prop :=
  ∀ (s : State) (t : Nat) (n : Fin 9) (b : Busy), let d := s.dev.tick t
    d.alive = true → d.engState n = .active → (d.eng n).busy = some b → d.evFree 1 = true →
    (b.tries = 0 → s.gives (.decEngineSelfCheckFail t n) fun e =>
      e.eng n = { d.eng n with busy := some { b with tries := 1 } } ∧ (∀ o, o ≠ n.val → e.eng o = d.eng o) ∧
      d.logs e Code.decEngineFault n b.stream ∧ e.bare = { d.bare with engines := e.engines } ∧ d.regsBut [] e) ∧
    (b.tries ≠ 0 → n.val < 8 → d.engState 8 = .spare → s.gives (.decEngineSelfCheckFail t n) fun e =>
      (e.eng n).state = .retired ∧ (e.eng n).busy = none ∧ (e.eng n).replacedBy = some 8 ∧
      (e.eng 8).state = .active ∧ (e.eng 8).busy = some { b with tries := 0, bad := false } ∧
      (4, n.val) ∈ e.health.retired ∧ e.health.lasting = d.health.lasting + 1 ∧
      (∀ st ∈ d.engCtxs n, (e.cx st).engine = 8) ∧
      e.bare = { d.bare with engines := e.engines, ctxs := e.ctxs, health := e.health })

/-- START_WAIT_EXPIRY and FIR_INTERVAL_EXPIRY: a full intra request is counted and reported, and the next follows after the
interval. -/
def Claims.IntraRequested : Prop :=
  ∀ (s : State) (t : Nat) (st : Fin 128) (x : Nat), let d := s.dev.tick t
    let c : Ctx := { d.cx st with firNext := some (d.now + 1000000 * d.rn O.streamFirInterval st) }
    d.alive = true → x ≤ d.now → d.evFree 1 = true →
    ((d.cx st).state = .waiting → (d.cx st).startTimer = some x →
      s.gives (.startWaitExpiry t st) fun e =>
        e.cx st = { c with startTimer := none } ∧ (∀ o, o ≠ st.val → e.cx o = d.cx o) ∧
        e.rn O.streamFirSent st = upTo O.streamFirSent (d.rn O.streamFirSent st) ∧ d.logs e Code.decIntraRequested st 0 ∧
        e.bare = { d.bare with ctxs := e.ctxs, ingest := e.ingest }) ∧
    ((d.cx st).state = .waiting ∨ (d.cx st).state = .tainted → (d.cx st).firNext = some x →
      s.gives (.firIntervalExpiry t st) fun e =>
        e.cx st = c ∧ (∀ o, o ≠ st.val → e.cx o = d.cx o) ∧
        e.rn O.streamFirSent st = upTo O.streamFirSent (d.rn O.streamFirSent st) ∧ d.logs e Code.decIntraRequested st 0 ∧
        e.bare = { d.bare with ctxs := e.ctxs, ingest := e.ingest })

/-- All of `Claims.EngineFails`, `Claims.IntraRequested`. -/
def Obligations.DecodeRecovers : Prop :=
  Claims.EngineFails ∧ Claims.IntraRequested

/-! ### Head links and lanes -/

/-- HPD_LOW_TIMEOUT: a head with a display loses it: its link is absent with no lane failed, its stream stops, and the code is
raised. -/
def Claims.DisplayLeaves : Prop :=
  ∀ (s : State) (t : Nat) (h : Fin 32), let d := s.dev.tick t
    d.alive = true → h.val < d.gradeHeads → (d.lk h).state ≠ .disabled → (d.lk h).state ≠ .absent → d.evFree 1 = true →
    s.gives (.hpdLowTimeout t h) fun e =>
      e.lk h = { d.lk h with hpd := false, failed := [], state := .absent, cands := [], sameRetry := false, lossOf := [],
                             retryAt := none, cur := none } ∧
      ((d.lk h).state = .running → (e.hd h).emitting = false ∧ (e.hd h).sealPend = none) ∧
      (∀ o, o ≠ h.val → e.lk o = d.lk o ∧ e.hd o = d.hd o) ∧ d.logs e Code.linkAbsent h 0 ∧
      e.bare = { d.bare with links := e.links, heads := e.heads } ∧ d.regsBut [] e

/-- HPD_HIGH_STABLE: an absent head whose 10 ms have run goes to READING and reports the display. -/
def Claims.DisplayArrives : Prop :=
  ∀ (s : State) (t : Nat) (h : Fin 32), let d := s.dev.tick t
    d.alive = true → h.val < d.gradeHeads → (d.lk h).state = .absent → (d.lk h).countFrom + 10000000 ≤ d.now →
    d.evFree 1 = true →
    s.gives (.hpdHighStable t h) fun e =>
      (e.lk h).state = .reading ∧ (e.lk h).hpd = true ∧ (e.lk h).cands = [] ∧ (∀ o, o ≠ h.val → e.lk o = d.lk o) ∧
      d.logs e Code.linkPresent h 0 ∧ e.bare = { d.bare with links := e.links } ∧ d.regsBut [] e

/-- IRQ_HPD and LINK_STATUS_POLL on a running link: a lane out of lock starts one retry of the same candidate, the main stream
stops, and no other head is touched; while absent IRQ_HPD restarts the 10 ms; the poll counts symbol errors. -/
def Claims.LinkStatusHandled : Prop :=
  ∀ (s : State) (t : Nat) (h : Fin 32) (us : Nat) (locked errs : List Nat), let d := s.dev.tick t
    let out (c : Cand) : List Nat := (List.range c.lanes).filter fun i => !locked.contains i
    let retry (c : Cand) (e : Dev) : Prop := (e.lk h).state = .training ∧ (e.lk h).cands = [c] ∧ (e.lk h).sameRetry = true ∧
      (e.lk h).lossOf = out c ∧ (e.hd h).emitting = false
    d.alive = true →
    (h.val < d.gradeHeads → 250 ≤ us → us ≤ 2000 →
      s.gives (.irqHpd t h us locked) fun e =>
        ((d.lk h).state = .absent → e.lk h = { d.lk h with countFrom := d.now } ∧ e.heads = d.heads) ∧
        (∀ c, (d.lk h).state = .running → (d.lk h).cur = some c → out c ≠ [] → retry c e) ∧
        (∀ c, (d.lk h).state = .running → (d.lk h).cur = some c → out c = [] → e = d) ∧
        (∀ o, o ≠ h.val → e.lk o = d.lk o ∧ e.hd o = d.hd o) ∧ e = { d with links := e.links, heads := e.heads }) ∧
    ((d.lk h).state = .running →
      s.gives (.linkStatusPoll t h locked errs) fun e =>
        (d.rn O.headSymbolErrors h + sumL errs < 2 ^ 32 →
          e.rn O.headSymbolErrors h = d.rn O.headSymbolErrors h + sumL errs) ∧
        (∀ c, (d.lk h).cur = some c → out c ≠ [] → retry c e) ∧
        (∀ c, (d.lk h).cur = some c → out c = [] → e.links = d.links ∧ e.heads = d.heads) ∧
        (∀ o, o ≠ h.val → e.lk o = d.lk o ∧ e.hd o = d.hd o) ∧
        e.bare = { d.bare with links := e.links, heads := e.heads } ∧ d.regsJust [O.headSymbolErrors.key h] e)

/-- All of `Claims.DisplayLeaves`, `Claims.DisplayArrives`, `Claims.LinkStatusHandled`. -/
def Obligations.DisplaysDetected : Prop :=
  Claims.DisplayLeaves ∧ Claims.DisplayArrives ∧ Claims.LinkStatusHandled

/-- READING_COMPLETE: what the sink reports is published, and the attempt starts with every candidate that carries the mode; a
sink that shares no rate leaves the head untrained. -/
def Claims.ReadingEnds : Prop :=
  ∀ (s : State) (t : Nat) (h : Fin 32) (caps : SinkCaps), let d := s.dev.tick t
    d.alive = true → (d.lk h).state = .reading → (d.rf O.clockRefSpread = false ∨ caps.spread = true) → d.evFree 1 = true →
    s.gives (.readingComplete t h caps) fun e =>
      e.rb O.headSinkCaps h = caps.dpcd.take 257 ∧ e.rb O.headEdid h = caps.edid.take 1024 ∧
      (e.lk h).sinkRates = caps.rates ∧ (e.lk h).sinkLanes = caps.lanes ∧
      (∀ r ∈ caps.rates, ∀ n ∈ [1, 2, 4], r < 7 → r ≤ d.rn O.headMaxRate h → n ≤ caps.lanes → n ≤ d.rn O.headLaneCount h →
        (d.lk h).failed = [] → d.carriesMode h r n 1 = true →
        (e.lk h).state = .training ∧ ⟨r, n, false⟩ ∈ (e.lk h).cands ∧
        e.rn O.headTrainings h = upTo O.headTrainings (d.rn O.headTrainings h)) ∧
      (caps.rates = [] → (e.lk h).state = .untrained ∧ d.logs e Code.linkModeNofit h 0) ∧
      (∀ o, o ≠ h.val → e.lk o = d.lk o) ∧ e.bare = { d.bare with links := e.links } ∧
      d.regsBut [O.headSinkCaps.key h, O.headEdid.key h, O.headTrainings.key h] e

/-- TRAINING_PHASE_DONE: with every lane of the candidate locked the first phase goes on to the second and the second to
RUNNING; with a lane missing the next candidate is tried. -/
def Claims.TrainingProceeds : Prop :=
  ∀ (s : State) (t : Nat) (h : Fin 32) (locked drive : List Nat) (c : Cand) (rest : List Cand), let d := s.dev.tick t
    let all := (List.range c.lanes).all locked.contains
    d.alive = true → (d.lk h).state = .training → (d.lk h).cands = c :: rest → (d.lk h).sameRetry = false →
    (∀ i ∈ (d.lk h).tookPart, i ∈ (d.lk h).lockSeen) → d.evFree 4 = true →
    s.gives (.trainingPhaseDone t h locked drive) fun e =>
      e.rn O.headDrive h = driveWord (drive.take c.lanes) ∧
      (all = true → (d.lk h).phase = 0 → (e.lk h).state = .training ∧ (e.lk h).phase = 1 ∧ (e.lk h).cands = c :: rest) ∧
      (all = true → (d.lk h).phase ≠ 0 →
        (e.lk h).state = .running ∧ (e.lk h).cur = some c ∧ (e.lk h).runningSince = d.now ∧ (e.lk h).retryStep = 0 ∧
        d.logs e Code.linkRunning h 0) ∧
      (all = false → rest ≠ [] → (e.lk h).state = .training ∧ (e.lk h).phase = 0 ∧ (e.lk h).cands = rest) ∧
      (∀ o, o ≠ h.val → e.lk o = d.lk o ∧ e.hd o = d.hd o) ∧
      e.bare = { d.bare with links := e.links, heads := e.heads, health := e.health }

/-- TRAINING_ATTEMPT_TIMEOUT: a head in READING, or in an attempt of which no lane failed, is untrained and retries by the
schedule of 100, 400, 1,600 and then 5,000 ms; LINK_RETRY_TIMER then returns it to READING. -/
def Claims.TrainingTimesOut : Prop :=
  ∀ (s : State) (t : Nat) (h : Fin 32), let d := s.dev.tick t
    d.alive = true → d.evFree 1 = true →
    ((d.lk h).state = .reading ∨ (d.lk h).state = .training ∧ (d.lk h).sameRetry = false ∧
        (∀ i ∈ (d.lk h).tookPart, i ∈ (d.lk h).lockSeen) →
      s.gives (.trainingAttemptTimeout t h) fun e =>
        (e.lk h).state = .untrained ∧
        (e.lk h).retryAt = some (d.now + 1000000 * [100, 400, 1600].getD (d.lk h).retryStep 5000) ∧
        (e.lk h).retryStep = (d.lk h).retryStep + 1 ∧ d.logs e Code.linkPhaseTimeout h 0 ∧
        (∀ o, o ≠ h.val → e.lk o = d.lk o) ∧ e.bare = { d.bare with links := e.links } ∧ d.regsBut [] e) ∧
    ((d.lk h).state = .untrained → (d.lk h).retryAt.getD 0 ≤ d.now →
      s.gives (.linkRetryTimer t h) fun e =>
        e.lk h = { d.lk h with state := .reading, retryAt := none, cands := [] } ∧ (∀ o, o ≠ h.val → e.lk o = d.lk o) ∧
        e = { d with links := e.links })

/-- LINK_RESTORE_TIMER: a degraded link that has run its restore interval starts a full attempt, and its stream stops. -/
def Claims.LinkRestores : Prop :=
  ∀ (s : State) (t : Nat) (h : Fin 32), let d := s.dev.tick t
    d.alive = true → (d.lk h).state = .running → (d.lk h).degraded ≠ 0 → d.rn O.headRestoreInterval h ≠ 0 →
    (d.lk h).runningSince + d.rn O.headRestoreInterval h * sec ≤ d.now →
    (d.rf O.clockRefSpread = false ∨ (d.lk h).sinkSpread = true) → d.candidates h ≠ [] →
    s.gives (.linkRestoreTimer t h) fun e =>
      (e.lk h).state = .training ∧ (e.lk h).cands = d.candidates h ∧ (e.hd h).emitting = false ∧
      e.rn O.headTrainings h = upTo O.headTrainings (d.rn O.headTrainings h) ∧
      (∀ o, o ≠ h.val → e.lk o = d.lk o ∧ e.hd o = d.hd o) ∧
      e.bare = { d.bare with links := e.links, heads := e.heads } ∧ d.regsJust [O.headTrainings.key h] e

/-- All of `Claims.ReadingEnds`, `Claims.TrainingProceeds`, `Claims.TrainingTimesOut`, `Claims.LinkRestores`. -/
def Obligations.HeadLinksTrain : Prop :=
  Claims.ReadingEnds ∧ Claims.TrainingProceeds ∧ Claims.TrainingTimesOut ∧ Claims.LinkRestores

/-- LANE_CALIBRATION_TIMER: a receiving lane accepts settings when two measurements agree within 8 and beat its figure, else
it counts a rejection; LANE_CORRECTION_APPLY takes what was accepted in blanking. -/
def Claims.LaneCalibrates : Prop :=
  ∀ (s : State) (t : Nat) (lane : Fin 72) (f1 f2 eye : Nat), let d := s.dev.tick t
    let better := gapOf f1 f2 ≤ 8 ∧ 2 * (d.ln72 lane).fom < f1 + f2
    d.alive = true →
    (s.gives (.laneCalibrationTimer t lane f1 f2 eye) fun e =>
      (lane.val < 64 → e.lanes = (d.modLn lane fun l => { l with correction := some (0, 0) }).lanes ∧ e.dict = d.dict) ∧
      (64 ≤ lane.val → better → (e.ln72 lane).correction = some ((f1 + f2) / 2 % 256, min 128 eye) ∧
        (e.ln72 lane).fom = (d.ln72 lane).fom ∧
        e.rn O.laneCalAccepted lane = upTo O.laneCalAccepted (d.rn O.laneCalAccepted lane)) ∧
      (64 ≤ lane.val → ¬ better → e.lanes = d.lanes ∧
        e.rn O.laneCalRejected lane = upTo O.laneCalRejected (d.rn O.laneCalRejected lane)) ∧
      (∀ o, o ≠ lane.val → e.ln72 o = d.ln72 o) ∧ e.bare = { d.bare with lanes := e.lanes } ∧
      d.regsJust [O.laneCalAccepted.key lane, O.laneCalRejected.key lane] e) ∧
    ∀ fom w, d.laneBlank lane = true → (d.ln72 lane).correction = some (fom, w) →
      s.gives (.laneCorrectionApply t lane) fun e =>
        e.ln72 lane = ⟨fom, w, none⟩ ∧ (∀ o, o ≠ lane.val → e.ln72 o = d.ln72 o) ∧ e = { d with lanes := e.lanes }

/-! ### The rope -/

/-- REFIN100_LOST: the device runs on its own reference, every link in use retries, and the rope goes down. -/
def Claims.ReferenceLost : Prop :=
  ∀ (s : State) (t : Nat), let d := s.dev.tick t
    d.alive = true → d.rn O.clockRefSelect = 1 → d.rn O.clockRefStatus = 1 → d.evFree 2 = true →
    s.gives (.refin100Lost t) fun e =>
      e.rn O.clockRefStatus = 2 ∧ d.logs e Code.clkRefinLost 0 0 ∧
      (∀ h ∈ d.allHeads, ∀ c, (d.lk h).state = .running → (d.lk h).cur = some c → c.lanes ≠ 0 →
        (e.lk h).state = .training ∧ (e.lk h).sameRetry = true ∧ (e.hd h).emitting = false) ∧
      e.rope.state = 0 ∧ (d.rope.state ≠ 0 → d.logs e Code.ropeDown 0 0) ∧
      e.bare = { d.bare with heads := e.heads, links := e.links, rope := e.rope } ∧ d.regsBut [O.clockRefStatus.key 0] e

/-- All of `Claims.LaneCalibrates`, `Claims.ReferenceLost`. -/
def Obligations.LanesAndReference : Prop :=
  Claims.LaneCalibrates ∧ Claims.ReferenceLost

/-- ROPE_STEP_COMPLETE: a step whose lanes are no fewer than before and all at the floor goes on to the next speed, or makes
the rope UP on those lanes at the highest common speed. -/
def Claims.RopeStepEnds : Prop :=
  ∀ (s : State) (t : Nat) (locked : List (Nat × Nat)) (pmax : Nat), let d := s.dev.tick t
    let ok := locked.filter fun p => p.1 < 4 && !d.rope.lostLanes.contains p.1
    let lanes := (List.range 4).filter fun l => ok.any fun p => p.1 == l
    d.alive = true → d.rope.state = 1 → lanes ≠ [] → d.rope.lastStep = false → d.rope.prevLanes.length ≤ lanes.length →
    (∀ p ∈ ok, d.rn O.ropeFomFloor ≤ p.2) → d.evFree 8 = true →
    s.gives (.ropeStepComplete t locked pmax) fun e =>
      (d.rope.step < min (d.rn O.ropeMaxSpeed) pmax →
        e.rope.state = 1 ∧ e.rope.step = d.rope.step + 1 ∧ e.rope.prevLanes = lanes) ∧
      (min (d.rn O.ropeMaxSpeed) pmax ≤ d.rope.step →
        e.rope.state = 2 ∧ e.rope.step = d.rope.step ∧ e.rope.txLanes = lanes ∧ e.rope.rxLanes = lanes ∧
        d.logs e Code.ropeUp 0 0 ∧ d.logs e Code.ropeSpeed d.rope.step (mask lanes)) ∧
      e.bare = { d.bare with lanes := e.lanes, mbx := e.mbx, rope := e.rope, twin := e.twin }

/-- ROPE_STEP_TIMEOUT takes the rope down until the next retry of the schedule; ROPE_BRINGUP_RETRY_TIMER then starts bring-up at
the lowest speed. -/
def Claims.RopeRetries : Prop :=
  ∀ (s : State) (t : Nat), let d := s.dev.tick t
    d.alive = true → d.evFree 1 = true →
    (d.rope.state = 1 → s.gives (.ropeStepTimeout t) fun e =>
      e.rope.state = 0 ∧ e.rope.retryAt = some (d.now + 1000000 * [100, 400, 1600].getD d.rope.retryStep 5000) ∧
      e.rope.retryStep = d.rope.retryStep + 1 ∧ e.rope.txLanes = [] ∧ e.rope.replayQ = [] ∧
      d.logs e Code.ropeDown 0 0 ∧ e.bare = { d.bare with rope := e.rope } ∧ d.regsBut [] e) ∧
    (∀ x, d.rope.state = 0 → d.rf O.ropeEnable = true → d.rope.retryAt = some x → x ≤ d.now →
      s.gives (.ropeBringupRetryTimer t) fun e =>
        e.rope.state = 1 ∧ e.rope.step = 0 ∧ e.rope.retryAt = none ∧ e.rope.txLanes = [] ∧
        e.sent.length = d.sent.length + 4 ∧ e = { d with rope := e.rope, sent := e.sent, freeCtr := e.freeCtr })

/-- ROPE_LANE_MARKER_RECEIVED: a marker that fits the lanes in use settles them; one skewed by more than 64 UI loses its lane,
with the code. -/
def Claims.MarkerReceived : Prop :=
  ∀ (s : State) (t : Nat) (lane : Fin 4) (b : Bytes) (skew : Nat), let d := s.dev.tick t
    d.alive = true → d.ropeIsUp = true → b.length = 16 → leAt b 0 1 = 0xE1 → lane.val ∈ d.rope.rxLanes → d.rope.rejoin = [] →
    d.evFree 2 = true →
    (skew ≤ 64 → markerFits b d.rope.step lane d.rope.rxLanes = true →
      s.gives (.ropeLaneMarkerReceived t lane b skew) fun e =>
        e.rope = { d.rope with rxOld := d.rope.rxLanes } ∧ e = { d with rope := e.rope }) ∧
    (64 < skew → (∃ l ∈ d.rope.rxLanes, l ≠ lane.val) →
      s.gives (.ropeLaneMarkerReceived t lane b skew) fun e =>
        e.rope.rxLanes = d.rope.rxLanes.filter (· != lane.val) ∧ d.logs e Code.ropeSkew lane 0 ∧
        e.bare = { d.bare with rope := e.rope } ∧ d.regsBut [] e)

/-- All of `Claims.RopeStepEnds`, `Claims.RopeRetries`, `Claims.MarkerReceived`. -/
def Obligations.RopeComesUp : Prop :=
  Claims.RopeStepEnds ∧ Claims.RopeRetries ∧ Claims.MarkerReceived

/-- ROPE_LANE_LOSS: with lanes left the lost one is retried and LANE_DROP goes to the partner; the last lane takes the rope
down. -/
def Claims.RopeLaneLost : Prop :=
  ∀ (s : State) (t : Nat) (lane : Fin 4), let d := s.dev.tick t
    d.alive = true → d.ropeIsUp = true → lane.val ∈ d.rope.rxLanes → d.evFree 1 = true →
    ((∃ l ∈ d.rope.rxLanes, l ≠ lane.val) → s.gives (.ropeLaneLoss t lane) fun e =>
      e.rope.state = 2 ∧ e.rope.rxLanes = d.rope.rxLanes.filter (· != lane.val) ∧
      tfind e.rope.retrying lane = some d.now ∧
      (∃ f ∈ e.rope.sendQ ++ e.rope.replayQ, f.typ = 3 ∧ f.data = [1, byteOf lane]) ∧
      e = { d with rope := e.rope, sent := e.sent }) ∧
    ((∀ l ∈ d.rope.rxLanes, l = lane.val) → s.gives (.ropeLaneLoss t lane) fun e =>
      e.rope.state = 0 ∧ d.logs e Code.ropeDown 0 0 ∧ e.bare = { d.bare with rope := e.rope } ∧ d.regsBut [] e)

/-- ROPE_LANE_RETRY_TIMEOUT: 10 ms after its loss a lane is excluded as a lasting fault; ROPE_LANE_RELOCK: before that a lane
whose figure is at the floor is to rejoin, and LANE_ADD goes to the partner. -/
def Claims.RopeLaneRetried : Prop :=
  ∀ (s : State) (t : Nat) (lane : Fin 4) (a fom : Nat), let d := s.dev.tick t
    d.alive = true → tfind d.rope.retrying lane = some a → d.evFree 4 = true →
    (a + 10000000 ≤ d.now → s.gives (.ropeLaneRetryTimeout t lane) fun e =>
      e.rope.lostLanes = d.rope.lostLanes ++ [lane.val] ∧
      e.rope.retrying = d.rope.retrying.filter (fun p => p.1 != lane.val) ∧ d.logs e Code.ropeLaneLost lane 0 ∧
      e.health.lasting = d.health.lasting + 1 ∧ e.bare = { d.bare with rope := e.rope, health := e.health } ∧
      d.regsBut [O.healthFaultLast.key 0] e) ∧
    (d.now < a + 10000000 → d.ropeIsUp = true → s.gives (.ropeLaneRelock t lane fom) fun e =>
      (e.ln72 (68 + lane)).fom = min 255 fom ∧
      (fom < d.rn O.ropeFomFloor → e.rope = d.rope) ∧
      (d.rn O.ropeFomFloor ≤ fom → e.rope.rejoin = d.rope.rejoin ++ [lane.val] ∧
        ∃ f ∈ e.rope.sendQ ++ e.rope.replayQ, f.typ = 3 ∧ f.data = [2, byteOf lane]) ∧
      e = { d with rope := e.rope, lanes := e.lanes, sent := e.sent })

/-- All of `Claims.RopeLaneLost`, `Claims.RopeLaneRetried`. -/
def Obligations.RopeLanesRetry : Prop :=
  Claims.RopeLaneLost ∧ Claims.RopeLaneRetried

/-- ROPE_FLIT_RECEIVED: a flit that fails its check is counted and answered by one NAK; a data flit in turn advances the
sequence expected. -/
def Claims.FlitReceived : Prop :=
  ∀ (s : State) (t : Nat) (b : Bytes), let d := s.dev.tick t
    let good := b.length = 256 ∧ crc32c (b.take 252) = beAt b 252 4
    d.alive = true → d.ropeIsUp = true →
    s.gives (.ropeFlitReceived t b) fun e =>
      (¬ good → e.rn O.ropeCrcErrors = upTo O.ropeCrcErrors (d.rn O.ropeCrcErrors) ∧ e.rope.nakSent = true ∧
        e.rope.expect = d.rope.expect) ∧
      (good → leAt b 0 1 = 1 → leAt b 6 1 ≤ 244 → bit (leAt b 7 1) 1 = false →
        seqDiff (beAt b 2 2) d.rope.expect = 0 →
        e.rope.expect = (d.rope.expect + 1) % 65536 ∧ e.rope.nakSent = false) ∧
      e.bare = { d.bare with rope := e.rope, mbx := e.mbx }

/-- ROPE_REPLAY_TIMEOUT: outstanding flits are sent again up to four times without an advance; the next takes the rope
down. -/
def Claims.RopeReplays : Prop :=
  ∀ (s : State) (t : Nat), let d := s.dev.tick t
    d.alive = true → d.ropeIsUp = true → d.rope.advanceAt + 20000 ≤ d.now → d.rope.replayQ ≠ [] → d.evFree 1 = true →
    (d.rope.replays < 4 → s.gives (.ropeReplayTimeout t) fun e =>
      e.rope = { d.rope with replays := d.rope.replays + 1, advanceAt := d.now } ∧
      e.bare = { d.bare with rope := e.rope } ∧ d.regsBut [] e) ∧
    (4 ≤ d.rope.replays → s.gives (.ropeReplayTimeout t) fun e =>
      e.rope.state = 0 ∧ d.logs e Code.ropeDown 0 0 ∧ e.bare = { d.bare with rope := e.rope } ∧ d.regsBut [] e)

/-- ROPE_ACK_TIMER, ROPE_IDLE_TIMEOUT, ROPE_IDLE_EXIT: what is unacknowledged is acknowledged; an idle transmitter goes to
electrical idle, and leaves it when there is something to send. -/
def Claims.RopeTimers : Prop :=
  ∀ (s : State) (t : Nat), let d := s.dev.tick t
    d.alive = true → d.ropeIsUp = true →
    (d.rope.unacked ≠ 0 → s.gives (.ropeAckTimer t) fun e =>
      e.rope.unacked = 0 ∧ e.sent.getLast? = some (.flit (flitBytes 2 0 0 d.rope.expect 0 1 [])) ∧
      e = { d with rope := e.rope, sent := e.sent, freeCtr := e.freeCtr }) ∧
    (d.rope.idleTx = false → d.rope.sendQ = [] → d.rn O.ropeIdleDelay ≠ 0 →
      d.rope.idleSince + 1000 * d.rn O.ropeIdleDelay ≤ d.now →
      s.gives (.ropeIdleTimeout t) fun e =>
        e.rope = { d.rope with idleTx := true, idleSince := d.now } ∧ e = { d with rope := e.rope, sent := e.sent }) ∧
    (d.rope.idleTx = true → d.rope.sendQ ≠ [] → d.rope.replayQ.length < 128 →
      s.gives (.ropeIdleExit t) fun e =>
        e.rope.idleTx = false ∧ e.rope.sendQ.length < d.rope.sendQ.length ∧
        e = { d with rope := e.rope, sent := e.sent, freeCtr := e.freeCtr })

/-- All of `Claims.FlitReceived`, `Claims.RopeReplays`, `Claims.RopeTimers`. -/
def Obligations.RopeCarries : Prop :=
  Claims.FlitReceived ∧ Claims.RopeReplays ∧ Claims.RopeTimers

/-! ### The encode cluster -/

/-- ENCODE_INPUT_CUT_OFF: a running context takes the newest input complete before the cut-off; it waits or an engine starts
it. One it replaces unstarted is counted as skipped. -/
def Claims.InputTaken : Prop :=
  ∀ (s : State) (t : Nat) (c : Fin 32) (i : EncInput), let d := s.dev.tick t
    let p : EncPend := ⟨i, d.encCutNow c, false⟩
    d.alive = true → (d.ec c).state = .running → d.encSourceOk c = true → d.encSelect c (d.encCutNow c) = some i →
    (d.ec c).last ≠ some i → (∀ q, (d.ec c).pend = some q → q.input ≠ i) → d.evFree 1 = true →
    s.gives (.encodeInputCutOff t c) fun e =>
      ((e.ec c).pend = some p ∨ ∃ n, (e.ee n).busy = some (c.val, p, 0)) ∧ (e.ec c).state = .running ∧
      ((d.ec c).pend.isSome = true →
        e.rn O.encodeInputsSkipped c = upTo O.encodeInputsSkipped (d.rn O.encodeInputsSkipped c)) ∧
      e.bare = { d.bare with enc := e.enc, encEngines := e.encEngines } ∧ d.regsBut [O.encodeInputsSkipped.key c] e

/-- ENCODE_FRAME_COMPLETE: the coded frame is counted with its bytes and becomes the context's last input; a frame that a
restart discards leaves no trace. -/
def Claims.FrameCoded : Prop :=
  ∀ (s : State) (t : Nat) (n : Fin 5) (params : List Bytes) (rows : List CodedRow) (ep eq c tries : Nat) (p : EncPend),
    let d := s.dev.tick t
    d.alive = true → (d.ee n).state = .active → (d.ee n).busy = some (c, p, tries) → (d.ec c).mirror = none →
    s.gives (.encodeFrameComplete t n params rows ep eq) fun e =>
      ((d.ec c).discard = false →
        d.counts e O.encodeFrames c ∧ (e.ec c).frame = ((d.ec c).frame + 1) % 2 ^ 32 ∧ (e.ec c).last = some p.input ∧
        ∃ b, (e.ec c).sent.head? = some (d.now, b) ∧ e.rn O.encodeBytesLast c = b) ∧
      ((d.ec c).discard = true →
        (e.ec c).discard = false ∧ (e.ec c).frame = (d.ec c).frame ∧ (e.ec c).seq = (d.ec c).seq ∧
        e.rn O.encodeFrames c = d.rn O.encodeFrames c) ∧
      e.heads = d.heads ∧ e.layers = d.layers ∧
      e.bare = { d.bare with enc := e.enc, encEngines := e.encEngines, ctxs := e.ctxs, engines := e.engines, health := e.health }

/-- All of `Claims.InputTaken`, `Claims.FrameCoded`. -/
def Obligations.FramesEncoded : Prop :=
  Claims.InputTaken ∧ Claims.FrameCoded

/-- ENC_ENGINE_SELF_CHECK_FAIL: the first failure reruns the frame; a second retires the engine, and the spare takes its
frame. -/
def Claims.EncEngineFails : Prop :=
  ∀ (s : State) (t : Nat) (n : Fin 5) (c tries : Nat) (p : EncPend), let d := s.dev.tick t
    d.alive = true → (d.ee n).state = .active → (d.ee n).busy = some (c, p, tries) → d.evFree 1 = true →
    (tries = 0 → s.gives (.encEngineSelfCheckFail t n) fun e =>
      e.ee n = { d.ee n with busy := some (c, p, 1) } ∧ (∀ o, o ≠ n.val → e.ee o = d.ee o) ∧
      d.logs e Code.encEngineFault n c ∧ e.bare = { d.bare with encEngines := e.encEngines } ∧ d.regsBut [] e) ∧
    (tries ≠ 0 → n.val < 4 → (d.ee 4).state = .spare → s.gives (.encEngineSelfCheckFail t n) fun e =>
      (e.ee n).state = .retired ∧ (e.ee n).busy = none ∧ (e.ee n).replacedBy = some 4 ∧
      (e.ee 4).state = .active ∧ (e.ee 4).busy = some (c, p, 0) ∧ (5, n.val) ∈ e.health.retired ∧
      e.health.lasting = d.health.lasting + 1 ∧
      e.bare = { d.bare with encEngines := e.encEngines, enc := e.enc, health := e.health })

/-- RTCP_FIR_RECEIVED, RTCP_PLI_RECEIVED, REFRESH_INTERVAL_TIMER: a refresh is wanted, unless a gradual one is in progress; the
first picture loss in a second asks for a frame that refers to the long-term reference alone, where there is one. -/
def Claims.RefreshAsked : Prop :=
  ∀ (s : State) (t : Nat) (c : Fin 32), let d := s.dev.tick t
    let want (e : Dev) : Prop := ((d.ec c).gdr = none → (e.ec c).wantRefresh = true) ∧
      ((d.ec c).gdr.isSome = true → (e.ec c).wantRefresh = (d.ec c).wantRefresh)
    d.alive = true → d.encOn c = true →
    (d.relays = true → s.gives (.rtcpFirReceived t c) fun e =>
      want e ∧ (∀ o, o ≠ c.val → e.ec o = d.ec o) ∧ e = { d with enc := e.enc, rings := e.rings }) ∧
    (d.relays = true → s.gives (.rtcpPliReceived t c) fun e =>
      (e.ec c).lastPli = some d.now ∧ (∀ x, (d.ec c).lastPli = some x → d.now < x + sec → want e) ∧
      ((∀ x ∈ (d.ec c).lastPli, x + sec ≤ d.now) → (e.ec c).wantRefresh = (d.ec c).wantRefresh ∧
        (d.rf O.encodeLtrEnable c = true → (d.ec c).ltr.isSome = true → (e.ec c).ltrOnly = true)) ∧
      (∀ o, o ≠ c.val → e.ec o = d.ec o) ∧ e = { d with enc := e.enc, rings := e.rings }) ∧
    (d.rn O.encodeRefreshInterval c ≠ 0 → s.gives (.refreshIntervalTimer t c) fun e =>
      want e ∧ (∀ o, o ≠ c.val → e.ec o = d.ec o) ∧ e = { d with enc := e.enc })

/-- RELAY_SR_TIMER: a context that codes on the unit that relays sends its sender report. -/
def Claims.SenderReportSent : Prop :=
  ∀ (s : State) (t : Nat) (c : Fin 32), let d := s.dev.tick t
    d.alive = true → d.encOn c = true → d.relays = true → (d.port (d.rn O.encodePort c)).linkUp = true →
    s.gives (.relaySrTimer t c) fun e =>
      e.sends (16 * d.rn O.encodePort c + 10) (d.rb O.encodeDstAddr c) (d.senderReport c) ∧
      e = { d with rings := e.rings, freeCtr := e.freeCtr }

/-- All of `Claims.EncEngineFails`, `Claims.RefreshAsked`, `Claims.SenderReportSent`. -/
def Obligations.EncodeRecovers : Prop :=
  Claims.EncEngineFails ∧ Claims.RefreshAsked ∧ Claims.SenderReportSent

/-! ### Console touch -/

/-- VERTICAL_SCAN_START and HORIZONTAL_SCAN_START: a scan of the panel's next frequency begins, its sample time 40 chips on. -/
def Claims.ScanStarts : Prop :=
  ∀ (s : State) (t : Nat) (n : Fin 4), let d := s.dev.tick t
    let began (e : Dev) : Prop :=
      (e.pn n).scan = some (d.nextFreq n, d.now + 40000000 / d.hopFreq n (d.nextFreq n)) ∧
      (e.pn n).scanCount = (d.pn n).scanCount + 1 ∧ (e.pn n).contacts = (d.pn n).contacts ∧
      (e.pn n).state = (d.pn n).state ∧ (∀ o, o ≠ n.val → e.pn o = d.pn o) ∧ e = { d with panels := e.panels }
    d.scanning n = true →
    (d.takesVertical n = true → s.gives (.verticalScanStart t n) began) ∧
    (d.takesHorizontal n = true → s.gives (.horizontalScanStart t n) began)

/-- SCAN_COMPLETE: a good scan is counted and is the panel's last; the first failed one is reported and retried. -/
def Claims.ScanProcessed : Prop :=
  ∀ (s : State) (t : Nat) (n : Fin 4) (sc : ScanData) (f at_ : Nat), let d := s.dev.tick t
    d.scanning n = true → (d.pn n).scan = some (f, at_) → (d.pn n).failed = false → d.evFree 1 = true →
    s.gives (.scanComplete t n sc) fun e =>
      (e.pn n).scan = none ∧
      (sc.good = true → (e.pn n).lastScan = some (f, at_) ∧ e.rn O.panelScans n = upTo O.panelScans (d.rn O.panelScans n)) ∧
      (sc.good = false → (e.pn n).failed = true ∧ (e.pn n).failPins = sc.badPins ∧ (e.pn n).lastScan = (d.pn n).lastScan ∧
        d.logs e Code.touchScanFault n 0) ∧
      (∀ o, o ≠ n.val → e.pn o = d.pn o) ∧ e.heads = d.heads ∧ e.layers = d.layers ∧
      e.bare = { d.bare with panels := e.panels, touch := e.touch, witness := e.witness, health := e.health }

/-- HOLD_COMPLETE: a completed hold is over and its region disarmed; a region that is not live-required fires. -/
def Claims.HoldFires : Prop :=
  ∀ (s : State) (t : Nat) (n : Fin 4) (region : Fin 256) (k : Hold), let d := s.dev.tick t
    d.alive = true → (d.pn n).holds.find? (fun x => x.region == region.val && x.doneAt.isSome) = some k →
    s.gives (.holdComplete t n region) fun e =>
      (∀ x ∈ (e.pn n).holds, x.region ≠ region.val) ∧ (tfind (e.pn n).fired region).isSome = true ∧
      ((d.actionRegion region).kind ≠ 1 → e.told Code.touchActionFired n ∧ e.witness = d.witness) ∧
      (∀ o, o ≠ n.val → e.pn o = d.pn o) ∧
      e.bare = { d.bare with panels := e.panels, touch := e.touch, witness := e.witness }

/-- CONTACT_EXPIRY: a contact down for the expiry time is lifted and reported, and its nodes are re-baselined. -/
def Claims.ContactExpires : Prop :=
  ∀ (s : State) (t : Nat) (n : Fin 4) (id : Fin 10) (c : Contact) (f at_ : Nat), let d := s.dev.tick t
    d.scanning n = true → (d.pn n).contacts.find? (fun x => x.id == id.val) = some c →
    (d.pn n).lastScan = some (f, at_) → c.down + d.rn O.panelExpiry n * sec ≤ at_ →
    s.gives (.contactExpiry t n id) fun e =>
      (e.pn n).contacts = (d.pn n).contacts.filter (fun x => x.id != id.val) ∧ e.told Code.touchExpired n ∧
      e.rn O.panelRebaselines n = upTo O.panelRebaselines (d.rn O.panelRebaselines n) ∧
      (e.pn n).state = (d.pn n).state ∧ (∀ o, o ≠ n.val → e.pn o = d.pn o) ∧
      e.bare = { d.bare with panels := e.panels, touch := e.touch } ∧
      d.regsBut [O.panelRebaselines.key n, O.touchEventsLost.key 0] e

/-- All of `Claims.HoldFires`, `Claims.ContactExpires`. -/
def Obligations.TouchActs : Prop :=
  Claims.HoldFires ∧ Claims.ContactExpires

/-- BASELINE_TIMEOUT: 2 s into the capture of a frequency its baseline is forced to the mean of the last scans. -/
def Claims.BaselineForced : Prop :=
  ∀ (s : State) (t : Nat) (n : Fin 4), let d := s.dev.tick t
    d.scanning n = true → (d.pn n).state = .baselining → (d.pn n).freqStart + 2 * sec ≤ d.now →
    ((d.pn n).fr (d.pn n).cur).recent ≠ [] → d.evFree 2 = true →
    s.gives (.baselineTimeout t n) fun e =>
      ((e.pn n).fr (d.pn n).cur).base = some (meanScan (d.drives n).length (d.senses n).length ((d.pn n).fr (d.pn n).cur).recent) ∧
      d.logs e Code.touchBaselineForced n 0 ∧ (∀ o, o ≠ n.val → e.pn o = d.pn o) ∧
      e.bare = { d.bare with panels := e.panels } ∧ d.regsBut [] e

/-- All of `Claims.ScanStarts`, `Claims.ScanProcessed`, `Claims.BaselineForced`. -/
def Obligations.PanelsScanned : Prop :=
  Claims.ScanStarts ∧ Claims.ScanProcessed ∧ Claims.BaselineForced

/-- PDET_PRESENT and PDET_ABSENT: an absent panel that is plugged in is tested; one in use that is unplugged is absent and
loses its contacts; both are reported. -/
def Claims.PanelPresence : Prop :=
  ∀ (s : State) (t : Nat) (n : Fin 4), let d := s.dev.tick t
    d.alive = true →
    ((d.pn n).present = false → (d.pn n).state = .absent → (d.pn n).contacts = [] →
      (∀ k ∈ (d.pn n).holds, k.doneAt.isSome = true) → d.evFree 1 = true →
      s.gives (.pdetPresent t n) fun e =>
        (e.pn n).present = true ∧ (e.pn n).state = .testing ∧ d.logs e Code.touchPanelPresent n 0 ∧
        (∀ o, o ≠ n.val → e.pn o = d.pn o) ∧ e.bare = { d.bare with panels := e.panels } ∧ d.regsBut [] e) ∧
    ((d.pn n).present = true → (d.pn n).state = .active ∨ (d.pn n).state = .baselining ∨ (d.pn n).state = .fault →
      s.gives (.pdetAbsent t n) fun e =>
        (e.pn n).present = false ∧ (e.pn n).state = .absent ∧ (e.pn n).contacts = [] ∧ e.told Code.touchPanelAbsent n ∧
        (∀ o, o ≠ n.val → e.pn o = d.pn o) ∧
        e.bare = { d.bare with panels := e.panels, touch := e.touch } ∧ d.regsBut [O.touchEventsLost.key 0] e)

/-- ELECTRODE_TEST_COMPLETE: the electrodes below 5 pF are open, and so are retired channels; with a pattern of them that the panel can mend it captures
baselines, else it is in FAULT and reported. -/
def Claims.ElectrodesTested : Prop :=
  ∀ (s : State) (t : Nat) (n : Fin 4) (cap : List (Nat × Nat)), let d := s.dev.tick t
    let open_ := ((d.drives n ++ d.senses n).map (·.2)).filter fun pin => cap.any fun c => c.1 == pin && c.2 < 5000
    let pins := (open_ ++ (d.pn n).retiredPins).eraseDups
    d.alive = true → (d.pn n).state = .testing →
    s.gives (.electrodeTestComplete t n cap) fun e =>
      (e.pn n).openPins = pins ∧ (d.openOk n pins = true → (e.pn n).state = .baselining) ∧
      (d.openOk n pins = false → (e.pn n).state = .fault ∧ e.told Code.touchPanelFault n) ∧
      (∀ o, o ≠ n.val → e.pn o = d.pn o) ∧
      e.bare = { d.bare with panels := e.panels, touch := e.touch } ∧ d.regsBut [O.touchEventsLost.key 0] e

/-- All of `Claims.PanelPresence`, `Claims.ElectrodesTested`. -/
def Obligations.PanelsWatched : Prop :=
  Claims.PanelPresence ∧ Claims.ElectrodesTested

/-! ### The memory subsystem -/

/-- MEM_COMMAND_SLOT: the slot issues what the order of R303 picks, and a forced refresh goes before everything else. -/
def Claims.SlotIssues : Prop :=
  ∀ (s : State) (t : Nat) (ch : Fin 16), let d := s.dev.tick t
    let c : Channel := { d.ch ch with drain := (d.ch ch).drainAfter }
    d.memUp = true →
    s.gives (.memCommandSlot t ch) fun e =>
      (∀ r, c.pick d.now = some (.refresh r) → d.emits e (.memIssue ch (.refresh r))) ∧
      (∀ bk, c.pick d.now = some (.rfm bk) → d.emits e (.memIssue ch (.rfm (bk / 16) (bk % 16))) ∧
        bk ∉ (e.ch ch).rfmDue) ∧
      (∀ r, c.pick d.now = some (.req r) → d.emits e (.memIssue ch (.access r (!c.hit r d.now)))) ∧
      (c.pick d.now = none → e.sent = d.sent ∧ e.dict = d.dict) ∧
      (∀ r rest, c.forced = r :: rest → c.pick d.now = some (.refresh r)) ∧
      (∀ o, o ≠ ch.val → e.ch o = d.ch o) ∧ e.bare = { d.bare with chans := e.chans, mem := e.mem }

/-- TREFI_EXPIRY: a refresh falls due; it is issued at once on a channel with nothing urgent, else it is owed, and forced once
as many are owed as may be postponed. -/
def Claims.RefreshDue : Prop :=
  ∀ (s : State) (t : Nat) (ch : Fin 16) (rank : Fin 2), let d := s.dev.tick t
    let n := tget 0 (d.ch ch).owed rank + 1
    d.memUp = true → rank.val < d.mem.ranks →
    s.gives (.trefiExpiry t ch rank) fun e =>
      ((d.ch ch).busyNow d.now = false → n = 1 → d.emits e (.memIssue ch (.refresh rank)) ∧ tget 0 (e.ch ch).owed rank = 0) ∧
      ((d.ch ch).busyNow d.now = true ∨ n ≠ 1 → tget 0 (e.ch ch).owed rank = n ∧ e.sent = d.sent ∧ e.dict = d.dict) ∧
      ((d.ch ch).busyNow d.now = true ∨ n ≠ 1 → d.rn O.memoryRefreshPostpone ≤ n → rank.val ∈ (e.ch ch).forced) ∧
      (∀ o, o ≠ ch.val → e.ch o = d.ch o) ∧ e.bare = { d.bare with chans := e.chans }

/-- All of `Claims.SlotIssues`, `Claims.RefreshDue`. -/
def Obligations.MemoryIssues : Prop :=
  Claims.SlotIssues ∧ Claims.RefreshDue

/-- RH_WINDOW_START empties the tally tables and ends pessimism; IMBALANCE_WINDOW_END publishes the share of the busiest bank
and starts a new window. -/
def Claims.MemoryWindows : Prop :=
  ∀ (s : State) (t : Nat) (ch : Fin 16), let d := s.dev.tick t
    let total := sumL ((d.ch ch).acts.map (·.2))
    d.memUp = true →
    (s.gives (.rhWindowStart t ch) fun e =>
      e.ch ch = { d.ch ch with tally := [], pess := [] } ∧ (∀ o, o ≠ ch.val → e.ch o = d.ch o) ∧ e = { d with chans := e.chans }) ∧
    (s.gives (.imbalanceWindowEnd t ch) fun e =>
      e.rn O.chanImbalance ch =
        (if total = 0 then 100 else openRound 305 (100 * maxL ((d.ch ch).acts.map (·.2)) * (16 * d.mem.ranks)) total) ∧
      (e.ch ch).acts = [] ∧ (∀ o, o ≠ ch.val → e.ch o = d.ch o) ∧
      e.bare = { d.bare with chans := e.chans } ∧ d.regsBut [O.chanImbalance.key ch] e)

/-- MR4_POLL: a higher refresh multiplier is taken at once and a lower one waits for the next refresh; a hot DRAM is noted and
throttles. -/
def Claims.RefreshRate : Prop :=
  ∀ (s : State) (t : Nat) (ch : Fin 16) (field : Mr4), let d := s.dev.tick t
    let m := match field with
      | .nominal => 1
      | .twice => 2
      | .four => 4
      | .hot => 4
    d.memUp = true →
    s.gives (.mr4Poll t ch field) fun e =>
      ((e.ch ch).hot = true ↔ field = .hot) ∧
      ((d.ch ch).mult ≤ m → (e.ch ch).mult = m ∧ (e.ch ch).multNext = none) ∧
      (m < (d.ch ch).mult → (e.ch ch).mult = (d.ch ch).mult ∧ (e.ch ch).multNext = some m) ∧
      (field = .hot → d.alive = true → d.power.throttle = 0 → e.power.throttle = 1 ∧ e.power.thFrom = d.now) ∧
      (field ≠ .hot → e.power = d.power) ∧ (∀ o, o ≠ ch.val → e.ch o = d.ch o) ∧
      e.bare = { d.bare with chans := e.chans, power := e.power } ∧ d.regsBut [] e

/-- WCK_OSCILLATOR_READ, MEM_UNCORRECTABLE_READ: a drift of more than 4 ps makes a correction due; an uncorrectable read is
repeated before its master is told. -/
def Claims.MemoryDefers : Prop :=
  ∀ (s : State) (t : Nat), let d := s.dev.tick t
    d.memUp = true →
    (∀ (ch : Fin 16) (rank : Fin 2) (ps : Int), rank.val < d.mem.ranks → 4 < ps.natAbs →
      s.gives (.wckOscillatorRead t ch rank ps) fun e =>
        rank.val ∈ (e.ch ch).retuneDue ∧ e.ch ch = { d.ch ch with retuneDue := (e.ch ch).retuneDue } ∧
        (∀ o, o ≠ ch.val → e.ch o = d.ch o) ∧ e = { d with chans := e.chans }) ∧
    ∀ addr, addr < d.mem.presented →
      s.gives (.memUncorrectableRead t addr) fun e =>
        (e.ch (d.mem.place addr).ch).rereads = (d.ch (d.mem.place addr).ch).rereads ++ [(addr, 54)] ∧
        (∀ o, o ≠ (d.mem.place addr).ch → e.ch o = d.ch o) ∧ e = { d with chans := e.chans }

/-- All of `Claims.MemoryWindows`, `Claims.RefreshRate`, `Claims.MemoryDefers`. -/
def Obligations.MemoryTimed : Prop :=
  Claims.MemoryWindows ∧ Claims.RefreshRate ∧ Claims.MemoryDefers

/-- MEM_REREAD_DONE: good data goes to the master with the transient reported; bad data goes as zeros with an error response,
counted as lasting. -/
def Claims.RereadEnds : Prop :=
  ∀ (s : State) (t addr : Nat) (ok : Bool) (r : Nat × Nat), let d := s.dev.tick t
    let p := d.mem.place addr
    (d.ch p.ch).rereads.find? (fun x => x.1 == addr) = some r → d.evFree 6 = true →
    s.gives (.memRereadDone t addr ok) fun e =>
      (ok = true → d.emits e (.access r.2 addr (Memory.read s.dram (addr / 64 * 64) 64) false) ∧
        d.logs e Code.memReadTransient p.ch p.rank) ∧
      (ok = false → d.emits e (.access r.2 addr (zeros 64) true) ∧ d.logs e Code.memReadLasting p.ch p.rank ∧
        d.counts e O.memoryReadLasting) ∧
      (e.ch p.ch).rereads = (d.ch p.ch).rereads.erase r ∧ (∀ o, o ≠ p.ch → e.ch o = d.ch o) ∧
      e.bare = { d.bare with chans := e.chans, health := e.health } ∧
      d.regsBut [O.memoryReadLasting.key 0, O.healthFaultLast.key 0] e

/-- SPARE_ROW_COPY_DONE: the spare takes the row's place, poisoned where the copy was, and is reported. -/
def Claims.RowSpared : Prop :=
  ∀ (s : State) (t : Nat) (ch : Fin 16) (rank : Fin 2) (bank : Fin 16) (row : Nat) (poison : List Nat) (r : Remap),
    let d := s.dev.tick t
    d.remapOf ⟨ch, rank, bank, row, 0⟩ false = some r → d.evFree 1 = true →
    s.gives (.spareRowCopyDone t ch rank bank row poison) fun e =>
      { r with poison := poison, active := true } ∈ (e.ch ch).remaps ∧ d.logs e Code.memRowSpared ch rank ∧
      (e.ch ch).remaps.length = (d.ch ch).remaps.length ∧ (∀ o, o ≠ ch.val → e.ch o = d.ch o) ∧
      e.bare = { d.bare with chans := e.chans } ∧ d.regsBut [] e

/-- SCRUB_PASS: each burst of an ECC region is read at class 5; a corrected error is counted, an uncorrectable one is read
again. -/
def Claims.Scrubbed : Prop :=
  ∀ (s : State) (t addr : Nat) (found : Found), let d := s.dev.tick t
    d.memUp = true → addr % 64 = 0 → d.eccAt addr = true → tget 0 d.health.dmaFault (unitKey 18 0) = 0 →
    s.gives (.scrubPass t addr found) fun e =>
      (found = .good → e = { d with chans := e.chans }) ∧
      (found = .corrected → d.counts e O.memoryEccCorrected ∧
        (e.mem.corrected.head?.map fun x => x.2.head?) = some (some d.now)) ∧
      (found = .uncorrectable → (addr, 54) ∈ (e.ch (d.mem.place addr).ch).rereads ∧ e.dict = d.dict) ∧
      (∀ o, o ≠ (d.mem.place addr).ch → e.ch o = d.ch o) ∧
      e.bare = { d.bare with chans := e.chans, mem := e.mem } ∧ d.regsBut [O.memoryEccCorrected.key 0] e

/-- All of `Claims.RereadEnds`, `Claims.RowSpared`, `Claims.Scrubbed`. -/
def Obligations.MemoryMended : Prop :=
  Claims.RereadEnds ∧ Claims.RowSpared ∧ Claims.Scrubbed

/-! ### Services -/

/-- CORE_SELF_CHECK_FAIL, CORE_WATCHDOG_EXPIRY and SEC_CORE_SELF_CHECK_FAIL: the processor alone is reset, counted and reported;
a service core that fails again within 10 s is retired, and core 8 takes its tasks while it is a spare. -/
def Claims.ProcessorFails : Prop :=
  ∀ (s : State) (t : Nat) (c : Fin 14) (cmd : Instr) (code : Nat), let d := s.dev.tick t
    d.alive = true → (d.proc c).state ≠ 2 → d.evFree 512 = true →
    ((∃ k : Fin 13, k.val = c ∧
        (cmd = .coreSelfCheckFail t k ∧ code = Code.coreFault ∨ cmd = .coreWatchdogExpiry t k ∧ code = Code.coreWatchdog)) ∨
      c.val = 13 ∧ cmd = .secCoreSelfCheckFail t ∧ code = Code.secCoreFault) →
    ((∀ x ∈ (d.proc c).faultAt, x + 10 * sec ≤ d.now) → s.gives cmd fun e =>
      e.proc c = { d.proc c with state := 3, faultAt := some d.now } ∧ (∀ o, o ≠ c.val → e.proc o = d.proc o) ∧
      e.rn O.procRestarts c = upTo O.procRestarts (d.rn O.procRestarts c) ∧ d.logs e code c 0 ∧
      e.bare = { d.bare with procs := e.procs, mbx := e.mbx, rope := e.rope } ∧
      d.regsOf [O.procRestarts, O.mbxAborts, O.mbxAcksDiscarded] e) ∧
    (∀ x, (d.proc c).faultAt = some x → d.now < x + 10 * sec → c.val < 8 → (d.proc 8).state = 1 → s.gives cmd fun e =>
      (e.proc c).state = 2 ∧ (e.proc c).tasks = [] ∧ (e.proc 8).state = 0 ∧
      (e.proc 8).tasks = (d.proc 8).tasks ++ (d.proc c).tasks ∧ (∀ o, o ≠ c.val → o ≠ 8 → e.proc o = d.proc o) ∧
      (1, c.val) ∈ e.health.retired ∧ e.health.lasting = d.health.lasting + 1 ∧ d.logs e code c 0 ∧
      d.logs e Code.coreRetired c 0 ∧ d.logs e Code.coreSpareEngaged 8 c ∧
      e.bare = { d.bare with procs := e.procs, mbx := e.mbx, rope := e.rope, health := e.health })

/-- PROCESSOR_RESTART_DONE and CORE_RUN_PERIOD: a restarted processor runs again, and 10 s after that without a fault the fault
counts as transient. -/
def Claims.ProcessorReturns : Prop :=
  ∀ (s : State) (t : Nat) (c : Fin 14), let d := s.dev.tick t
    d.alive = true →
    ((d.proc c).state = 3 → s.gives (.processorRestartDone t c) fun e =>
      e.proc c = { d.proc c with state := if c.val = 8 ∧ (d.proc c).tasks = [] then 1 else 0,
                                 faultAt := (d.proc c).faultAt.map fun _ => d.now } ∧
      (∀ o, o ≠ c.val → e.proc o = d.proc o) ∧ e = { d with procs := e.procs }) ∧
    (∀ x, (d.proc c).faultAt = some x → x + 10 * sec ≤ d.now → (d.proc c).state ≠ 3 → (d.proc c).state ≠ 2 →
      d.transientOver (procUnit c).1 (procUnit c).2 = false → d.evFree 4 = true → s.gives (.coreRunPeriod t c) fun e =>
        e.proc c = { d.proc c with faultAt := none } ∧ (∀ o, o ≠ c.val → e.proc o = d.proc o) ∧
        (c.val ≠ 13 → d.logs e Code.coreTransient c 0) ∧ e.health.lasting = d.health.lasting ∧
        e.bare = { d.bare with procs := e.procs, health := e.health } ∧ d.regsBut [O.healthFaultLast.key 0] e)

/-- All of `Claims.ProcessorFails`, `Claims.ProcessorReturns`. -/
def Obligations.ProcessorsRestart : Prop :=
  Claims.ProcessorFails ∧ Claims.ProcessorReturns

/-- MBX_POST from the master at the sending end: on a free direction the message is in the slot with the next sequence; on a
direction with a message outstanding it is refused as busy and counted, and the slot stays. -/
def Claims.MessagePosted : Prop :=
  ∀ (s : State) (t : Nat) (m : Fin 32) (dir : Fin 2) (master : Fin 55) (len : Nat), let d := s.dev.tick t
    let x := (d.mb m).dir dir
    d.alive = true → d.protCheck master .write (mbxAddr m dir 0x30) 4 = 0 → master.val = (d.mb m).sender dir →
    (x.outstanding = false → len ≤ 48 → d.mbxBound m = true → s.gives (.mbxPost t m dir master len) fun e =>
      let y := (e.mb m).dir dir
      y.full = true ∧ y.outstanding = true ∧ y.awaiting = false ∧ y.lastPost = 0 ∧ y.seq = nextSeq32 x.seq ∧
      y.data = fit 48 (x.tx.take len) ∧ y.posted = d.now ∧ y.tx = x.tx ∧ y.resultValid = x.resultValid ∧
      y.result = x.result ∧ (e.mb m).dir (1 - dir) = (d.mb m).dir (1 - dir) ∧ (∀ o, o ≠ m.val → e.mb o = d.mb o) ∧
      d.counts e O.mbxPosts m ∧
      e.bare = { d.bare with mbx := e.mbx, rope := e.rope } ∧ d.regsJust [O.mbxPosts.key m] e) ∧
    (x.outstanding = true → s.gives (.mbxPost t m dir master len) fun e =>
      (e.mb m).dir dir = { x with lastPost := 1 } ∧ (e.mb m).dir (1 - dir) = (d.mb m).dir (1 - dir) ∧
      (∀ o, o ≠ m.val → e.mb o = d.mb o) ∧ e.rn O.mbxCollisions m = upTo O.mbxCollisions (d.rn O.mbxCollisions m) ∧
      e.bare = { d.bare with mbx := e.mbx } ∧ d.regsBut [O.mbxCollisions.key m] e)

/-- MBX_TAKE, MBX_ACK_IN, MBX_WITHDRAW and MBX_RESULT_CLEAR on a channel of this device: the receiver takes a message and the slot
is empty; it acknowledges one and the result holds its sequence, code 0 and the reply; the sender withdraws one, or clears a
result. -/
def Claims.MessageHandled : Prop :=
  ∀ (s : State) (t : Nat) (m : Fin 32) (dir : Fin 2) (master : Fin 55) (seq reply : Nat), let d := s.dev.tick t
    let x := (d.mb m).dir dir
    let ok (off : Nat) : Prop := d.protCheck master .write (mbxAddr m dir off) (mbxRegBytes off) = 0
    let only (e : Dev) : Prop := (e.mb m).dir (1 - dir) = (d.mb m).dir (1 - dir) ∧ (∀ o, o ≠ m.val → e.mb o = d.mb o)
    d.alive = true → m.val < 16 →
    (x.full = true → master.val = (d.mb m).receiver dir → ok 0x80 →
      s.gives (.mbxTake t m dir master) fun e =>
        (e.mb m).dir dir = { x with full := false, awaiting := true } ∧ only e ∧
        e.bare = { d.bare with mbx := e.mbx } ∧ d.regsBut [] e) ∧
    (x.outstanding = true → leAt x.hdr 4 4 = seq → x.hdrEpoch = (d.mb m).sendEpoch dir → master.val = (d.mb m).receiver dir →
      ok 0x88 → s.gives (.mbxAckIn t m dir master seq reply) fun e =>
        (e.mb m).dir dir = ({ x with full := false, awaiting := false, outstanding := false, resultValid := true,
                                     result := (seq, 0, reply), bells := (x.bells.1 + 1, x.bells.2) } : MbxDir) ∧ only e ∧
        e = { d with mbx := e.mbx }) ∧
    (x.full = true → master.val = (d.mb m).sender dir → ok 0x30 → s.gives (.mbxWithdraw t m dir master) fun e =>
      (e.mb m).dir dir = { x with full := false, outstanding := false } ∧ only e ∧ e = { d with mbx := e.mbx }) ∧
    (master.val = (d.mb m).sender dir → ok 0x34 → s.gives (.mbxResultClear t m dir master) fun e =>
      (e.mb m).dir dir = { x with resultValid := false } ∧ only e ∧ e = { d with mbx := e.mbx })

/-- MBX_ACK_TIMEOUT: a message that no acknowledgement ended in time ends with ACK_TIMEOUT, counted. -/
def Claims.MessageTimesOut : Prop :=
  ∀ (s : State) (t : Nat) (m : Fin 32) (dir : Fin 2), let d := s.dev.tick t
    let x := (d.mb m).dir dir
    d.alive = true → x.outstanding = true → x.posted + 1000000 * d.rn O.mbxAckTimeout m ≤ d.now →
    x.hdrEpoch = (d.mb m).sendEpoch dir →
    s.gives (.mbxAckTimeout t m dir) fun e =>
      ((e.mb m).dir dir).outstanding = false ∧ ((e.mb m).dir dir).full = false ∧ ((e.mb m).dir dir).resultValid = true ∧
      ((e.mb m).dir dir).result = (leAt x.hdr 4 4, Code.ackTimeout, 0) ∧
      (e.mb m).dir (1 - dir) = (d.mb m).dir (1 - dir) ∧ (∀ o, o ≠ m.val → e.mb o = d.mb o) ∧
      e.rn O.mbxTimeouts m = upTo O.mbxTimeouts (d.rn O.mbxTimeouts m) ∧
      e.bare = { d.bare with mbx := e.mbx } ∧ d.regsBut [O.mbxTimeouts.key m] e

/-- All of `Claims.MessagePosted`, `Claims.MessageHandled`, `Claims.MessageTimesOut`. -/
def Obligations.MailboxesCarry : Prop :=
  Claims.MessagePosted ∧ Claims.MessageHandled ∧ Claims.MessageTimesOut

/-- REGISTER_WRITE: the sender writes bytes of TX_DATA, a processor ALIVE and RUNNING of a check-value unit; a write the master's
map does not grant changes no register and is counted as a violation. -/
def Claims.RegisterWritten : Prop :=
  ∀ (s : State) (t : Nat) (master : Fin 55) (addr n value : Nat), let d := s.dev.tick t
    d.alive = true →
    (d.protCheck master .write addr n = 0 →
      (∀ (m : Fin 32) (k : Fin 2) (off : Nat), addr = mbxAddr m k off → off + n ≤ 48 → master.val = (d.mb m).sender k →
        s.gives (.registerWrite t master addr (8 * n) value) fun e =>
          (e.mb m).dir k = { (d.mb m).dir k with
            tx := (fit 48 ((d.mb m).dir k).tx).take off ++ le n value ++ (fit 48 ((d.mb m).dir k).tx).drop (off + n) } ∧
          (e.mb m).dir (1 - k) = (d.mb m).dir (1 - k) ∧ (∀ o, o ≠ m.val → e.mb o = d.mb o) ∧ e = { d with mbx := e.mbx }) ∧
      (∀ u : Fin 8, master.val < 14 → addr = cvuAddr u 4 → s.gives (.registerWrite t master addr (8 * n) value) fun e =>
        e.cvu u = { d.cvu u with alive := value % 256 } ∧ (∀ o, o ≠ u.val → e.cvu o = d.cvu o) ∧ e = { d with cvus := e.cvus }) ∧
      (∀ u : Fin 8, master.val < 14 → addr = cvuAddr u 8 → s.gives (.registerWrite t master addr (8 * n) value) fun e =>
        e.cvu u = { d.cvu u with running := value % 2 ^ (if (d.cvu u).alg = 2 then 16 else 32) } ∧
        (∀ o, o ≠ u.val → e.cvu o = d.cvu o) ∧ e = { d with cvus := e.cvus })) ∧
    (d.protCheck master .write addr n ≠ 0 → s.gives (.registerWrite t master addr (8 * n) value) fun e =>
      e.rn O.protectViolations master = upTo O.protectViolations (d.rn O.protectViolations master) ∧ e.bare = d.bare ∧
      d.regsBut [O.protectViolations.key master, O.protectLastFault.key master] e)

/-- MASTER_ACCESS to DRAM: a write that the map grants changes exactly the bytes it covers; a read that it grants gives its master
what they hold; one it does not grant leaves memory alone, gives a reader zeros with an error response, and is counted. -/
def Claims.AccessChecked : Prop :=
  ∀ (s : State) (t : Nat) (master : Fin 55) (scanout : Bool) (addr len : Nat) (data : Bytes), let d := s.dev.tick t
    d.alive = true → addr + len ≤ regWindow →
    (s.ok = true → addr < regWindow → d.protCheck master .write addr len = 0 → data.length = len →
      ∃ u, exec (.masterAccess t master .write scanout addr len data .good) s = .next u ∧ u.pending = s.pending ∧
        (∀ i < len, Memory.peek u.dram (addr + i) = data.getD i 0) ∧
        (∀ a, a < addr ∨ addr + len ≤ a → Memory.peek u.dram a = Memory.peek s.dram a) ∧ u.dev.dict = d.dict ∧
        u.dev = { d with chans := u.dev.chans, mem := u.dev.mem }) ∧
    (∀ kind, kind ≠ .write → addr < regWindow → d.protCheck master kind addr len = 0 → (∀ i < len, d.poisoned (addr + i) = false) →
      s.gives (.masterAccess t master kind scanout addr len data .good) fun e =>
        d.emits e (.access master addr (Memory.read s.dram addr len) false) ∧
        e = { d with chans := e.chans, mem := e.mem, sent := e.sent }) ∧
    ∀ kind, d.protCheck master kind addr len ≠ 0 →
      s.gives (.masterAccess t master kind scanout addr len data .good) fun e =>
        (kind ≠ .write → e.sent.getLast? = some (.access master addr (zeros len) true)) ∧
        e.rn O.protectViolations master = upTo O.protectViolations (d.rn O.protectViolations master) ∧ e.bare = d.bare ∧
        d.regsBut [O.protectViolations.key master, O.protectLastFault.key master] e

/-- PROT_DRAIN_END: the commit of a map ends and is reported. -/
def Claims.MapCommitted : Prop :=
  ∀ (s : State) (t : Nat) (n : Fin 55), let d := s.dev.tick t
    d.alive = true → (d.prot n).cstate = 1 → (d.prot n).held = false → d.evFree 1 = true →
    s.gives (.protDrainEnd t n) fun e =>
      e.prot n = { d.prot n with cstate := 0 } ∧ (∀ o, o ≠ n.val → e.prot o = d.prot o) ∧
      d.logs e Code.protCommitDone n 0 ∧ e.bare = { d.bare with prots := e.prots } ∧ d.regsBut [] e

/-- All of `Claims.RegisterWritten`, `Claims.AccessChecked`, `Claims.MapCommitted`. -/
def Obligations.AccessesChecked : Prop :=
  Claims.RegisterWritten ∧ Claims.AccessChecked ∧ Claims.MapCommitted

/-- CVU_CTRL_WRITE, CVU_DATA_WRITE and CVU_FINISH of a processor: a chosen algorithm starts at its initial value; data of the
register's own width is absorbed least significant byte first; FINISH gives the result, folds the alive counter in when asked
to, and starts anew. Algorithm 3 and a data write of another width are refused with CVU_CONFIG_INVALID. -/
def Obligations.CheckValueComputed : Prop :=
  ∀ (s : State) (t : Nat) (u : Fin 8) (master : Fin 55) (value : Nat), let d := s.dev.tick t
    let ok (off n : Nat) : Prop := d.protCheck master .write (cvuAddr u off) n = 0
    let only (e : Dev) : Prop := (∀ o, o ≠ u.val → e.cvu o = d.cvu o) ∧ e.bare = { d.bare with cvus := e.cvus }
    d.alive = true → master.val < 14 →
    (ok 0 4 →
      (value % 4 ≠ 3 → s.gives (.cvuCtrlWrite t u master value) fun e =>
        e.cvu u = { d.cvu u with alg := value % 4, aliveEn := bit value 2, running := cvInit (value % 4) } ∧ only e ∧
        d.regsJust [] e) ∧
      (value % 4 = 3 → d.evFree 1 = true → s.gives (.cvuCtrlWrite t u master value) fun e =>
        e.cvu u = d.cvu u ∧ d.logs e Code.cvuConfigInvalid u 0 ∧ only e ∧ d.regsBut [] e)) ∧
    (∀ w n, (w, n) ∈ [(8, 1), (16, 2), (32, 4)] → ok (cvuDataOff w) n → s.gives (.cvuDataWrite t u master w (8 * n) value) fun e =>
      e.cvu u = { d.cvu u with running := (le n value).foldl (cvByte (d.cvu u).alg) (d.cvu u).running } ∧ only e ∧
      d.regsJust [] e) ∧
    (∀ w n, 8 * n ≠ w → ok (cvuDataOff w) n → d.evFree 1 = true → s.gives (.cvuDataWrite t u master w (8 * n) value) fun e =>
      e.cvu u = d.cvu u ∧ d.logs e Code.cvuConfigInvalid u 0 ∧ only e ∧ d.regsBut [] e) ∧
    (ok 0x1C 4 → s.gives (.cvuFinish t u master) fun e =>
      (e.cvu u).running = cvInit (d.cvu u).alg ∧
      ((d.cvu u).aliveEn = false → (e.cvu u).result = (d.cvu u).running ^^^ cvFinal (d.cvu u).alg ∧
        (e.cvu u).alive = (d.cvu u).alive) ∧
      ((d.cvu u).aliveEn = true →
        (e.cvu u).result = cvByte (d.cvu u).alg (d.cvu u).running (byteOf (d.cvu u).alive) ^^^ cvFinal (d.cvu u).alg ∧
        (e.cvu u).alive = ((d.cvu u).alive + 1) % 256) ∧
      d.counts e O.cvuFinishes u ∧ only e ∧ d.regsJust [O.cvuFinishes.key u] e)

/-- The state after a sequence of commands, when each answers a next one. -/
def Claims.runAll : List Instr → State → Option State
  | [], s => some s
  | c :: r, s => match exec c s with
    | .next u => Claims.runAll r u
    | _ => none

/-- R381: a check-value unit is switched between users by saving CTRL, RUNNING and ALIVE and restoring them in that order; CTRL
first resets RUNNING; whatever data follows, FINISH yields the RESULT of the computation left uninterrupted in `s0`. -/
def Obligations.ResumedCheckValue : Prop :=
  ∀ (s s0 : State) (t : Nat) (u : Fin 8) (master : Fin 55) (c : Cvu) (data : List (Nat × Nat × Nat)),
    let may (s : State) : Prop := (s.dev.tick t).alive = true ∧
      ∀ off < 0x20, ∀ n < 5, (s.dev.tick t).protCheck master .write (cvuAddr u off) n = 0
    let ctrl : Instr := .cvuCtrlWrite t u master (c.alg + if c.aliveEn then 4 else 0)
    let restore : List Instr :=
      [ctrl, .registerWrite t master (cvuAddr u 8) 32 c.running, .registerWrite t master (cvuAddr u 4) 32 c.alive]
    let goOn : List Instr := (data.map fun x => .cvuDataWrite t u master x.1 (8 * x.2.1) x.2.2) ++ [.cvuFinish t u master]
    may s → may s0 → master.val < 14 → c.alg < 3 → c.running < 2 ^ (if c.alg = 2 then 16 else 32) → c.alive < 256 →
    (∀ x ∈ data, (x.1, x.2.1) ∈ [(8, 1), (16, 2), (32, 4)]) →
    (s0.dev.cvu u).alg = c.alg → (s0.dev.cvu u).aliveEn = c.aliveEn → (s0.dev.cvu u).running = c.running →
    (s0.dev.cvu u).alive = c.alive →
    (∃ w, exec ctrl s = .next w ∧ (w.dev.cvu u).running = cvInit c.alg) ∧
    ∃ v x y, Claims.runAll restore s = some v ∧
      v.dev.cvu u = { s.dev.cvu u with alg := c.alg, aliveEn := c.aliveEn, running := c.running, alive := c.alive } ∧
      Claims.runAll goOn v = some x ∧ Claims.runAll goOn s0 = some y ∧ (x.dev.cvu u).result = (y.dev.cvu u).result

/-! ### QDP -/

/-- A datagram of an open session whose tag is wrong is counted and dropped: it is not answered, and no session takes its
sequence. -/
def Obligations.WrongTagDropped : Prop :=
  ∀ (s : State) (t : Nat) (p : Fin 4) (src : Bytes) (sport : Nat) (b : Bytes) (se : Session) (cmd : Instr) (typ : Nat),
    let d := s.dev.tick t
    (typ, cmd) ∈ [(0x05, Instr.qdpClose t p src sport b), (0x06, .qdpKeepalive t p src sport b), (0x10, .qdpRead t p src sport b),
      (0x12, .qdpWrite t p src sport b), (0x18, .qdpSegmentAck t p src sport b), (0x20, .qdpSubscribe t p src sport b),
      (0x31, .qdpAck t p src sport b)] →
    d.running = true → d.qdpWell p b typ = true → d.dgramSession (parseDgram b) = some se → tagOk (parseDgram b) se.key = false →
    s.gives cmd fun e =>
      e.rn O.qdpRejected = upTo O.qdpRejected (d.rn O.qdpRejected) ∧ e.dict.sessions.length = d.dict.sessions.length ∧
      (∀ x ∈ e.dict.sessions, ∃ y ∈ d.dict.sessions, x = { y with sendSeq := x.sendSeq }) ∧
      e.bare = d.bare ∧ d.regsBut [O.qdpRejected.key 0] e

/-- QDP_HELLO and QDP_PROVE: a HELLO of a role the device has a key for starts a session and is answered by CHALLENGE; a PROVE
that holds opens it under the key of R333. -/
def Claims.SessionOpens : Prop :=
  ∀ (s : State) (t : Nat) (p : Fin 4) (src : Bytes) (sport : Nat) (b : Bytes), let d := s.dev.tick t
    let g := parseDgram b
    d.running = true → (d.port p).linkUp = true → d.openSessions < 16 →
    (d.qdpWell p b 1 = true → g.session = 0 → g.seq = 0 → tagOk g [] = true →
      (∀ l ∈ d.dict.locked, l.1 = src → l.2 + 60 * sec ≤ d.now) → (d.vendorOnly = false ∨ beAt g.body 0 1 = 0x56) →
      (d.roleKey (beAt g.body 0 1)).isSome = true →
      s.gives (.qdpHello t p src sport b) fun e =>
        (∃ x, e.dict.sessions.getLast? = some x ∧ x.role = beAt g.body 0 1 ∧ x.phase = 0 ∧ x.peer = false ∧ x.port = p ∧
          x.addr = src ∧ x.udp = sport ∧ x.nh = slice g.body 4 16 ∧
          e.sends (16 * p + 9) src (qdpDatagram [] 2 0 0 false (be 4 x.id ++ x.nd ++ x.nh))) ∧
        e.bare = d.bare ∧ d.regsJust [] e) ∧
    ∀ se, d.qdpWell p b 3 = true → d.dgramSession g = some se → g.seq = 0 →
      (let k := (d.roleKey se.role).getD []
       g.body = hsProof k se.role se.id se.nh se.nd ∧ tagOk g (hsKey k se.role se.id se.nh se.nd) = true) →
      d.evFree 1 = true →
      s.gives (.qdpProve t p src sport b) fun e =>
        (∃ x ∈ e.dict.sessions, x.id = se.id ∧ x.phase = 1 ∧ x.role = se.role ∧
          x.key = hsKey ((d.roleKey se.role).getD []) se.role se.id se.nh se.nd) ∧
        d.logs e Code.qdpSessionOpen 0 0 ∧ e.bare = d.bare ∧ d.regsBut [] e

/-- QDP_CHALLENGE and QDP_ACCEPT in a session that the device opens with a peer: it answers with PROVE under the identifier
given, and the session is open. QDP_PEER_RETRY begins the handshake, the next try after 1, 2, 4 and then 8 s. -/
def Claims.PeerSessionOpens : Prop :=
  ∀ (s : State) (t : Nat) (p : Fin 4) (src : Bytes) (sport : Nat) (b : Bytes) (se : Session), let d := s.dev.tick t
    let g := parseDgram b
    let k := d.rb O.qdpPeerKey 0 (peerNo se.role)
    d.running = true →
    (d.qdpWell p b 2 = true → d.dgramSession g = some se → tagOk g [] = true → g.seq = 0 → beAt g.body 0 4 ≠ 0 →
      d.sessionOf (beAt g.body 0 4) = none → (d.port se.port).linkUp = true →
      s.gives (.qdpChallenge t p src sport b) fun e =>
        let id := beAt g.body 0 4
        let nd := slice g.body 4 16
        (∃ x, e.dict.sessions.getLast? = some x ∧ x = { se with id := id, nd := nd, key := hsKey k se.role id se.nh nd, phase := 3 }) ∧
        e.sends (16 * se.port + 9) se.addr
          (qdpDatagram (hsKey k se.role id se.nh nd) 3 id 0 false (hsProof k se.role id se.nh nd)) ∧
        e.bare = d.bare ∧ d.regsJust [] e) ∧
    (d.qdpWell p b 4 = true → d.dgramSession g = some se → tagOk g se.key = true → g.seq = 0 → d.openSessions < 16 →
      s.gives (.qdpAccept t p src sport b) fun e =>
        (∃ x ∈ e.dict.sessions, x = { se with phase := 1, last := d.now }) ∧
        e.peerOf (peerNo se.role) = ⟨0, none, false⟩ ∧ e.bare = d.bare ∧ d.regsJust [] e) ∧
    ∀ (peer : Fin 2) (a : Bytes × Nat) (r : Nat), (d.peerOf peer).retryAt = some r → r ≤ d.now → d.peerAddr peer = some a →
      (d.port d.peerPort).linkUp = true →
      s.gives (.qdpPeerRetry t peer) fun e =>
        (∃ x, e.dict.sessions.getLast? = some x ∧ x.role = peerRole peer ∧ x.phase = 2 ∧ x.peer = true ∧ x.addr = a.1 ∧
          x.udp = a.2) ∧
        (e.peerOf peer).retryAt = some (d.now + sec * [1, 2, 4].getD (d.peerOf peer).step 8) ∧
        (e.peerOf peer).step = (d.peerOf peer).step + 1 ∧ e.bare = d.bare ∧ d.regsBut [] e

/-- All of `Claims.SessionOpens`, `Claims.PeerSessionOpens`. -/
def Obligations.SessionsOpened : Prop :=
  Claims.SessionOpens ∧ Claims.PeerSessionOpens

/-- QDP_KEEPALIVE, QDP_CLOSE, QDP_SUBSCRIBE and QDP_ACK of an open session: a keepalive is answered, the session closes, the mask
of its events changes, an acknowledgement of the gateway ends the forwarding of its record or is discarded and counted. -/
def Claims.SessionServed : Prop :=
  ∀ (s : State) (t : Nat) (p : Fin 4) (src : Bytes) (sport : Nat) (b : Bytes) (se : Session), let d := s.dev.tick t
    let g := parseDgram b
    let took := se.took g.seq d.now
    d.running = true →
    (d.qdpTaken p b 6 se = true → (d.port se.port).linkUp = true →
      s.gives (.qdpKeepalive t p src sport b) fun e =>
        { took with sendSeq := se.sendSeq + 1 } ∈ e.dict.sessions ∧
        e.sends (16 * se.port + 9) se.addr (qdpDatagram se.key 6 se.id se.sendSeq false []) ∧ e.bare = d.bare ∧
        d.regsJust [] e) ∧
    (d.qdpTaken p b 5 se = true → d.evFree 40 = true → s.gives (.qdpClose t p src sport b) fun e =>
      (∀ x ∈ e.dict.sessions, x.id ≠ se.id) ∧ d.logs e Code.qdpSessionClosed 0 0 ∧
      e.bare = { d.bare with mbx := e.mbx, rope := e.rope }) ∧
    (d.qdpTaken p b 0x20 se = true → s.gives (.qdpSubscribe t p src sport b) fun e =>
      { took with mask := beAt g.body 0 2 } ∈ e.dict.sessions ∧ e.bare = d.bare ∧ d.regsJust [] e) ∧
    (d.qdpTaken p b 0x31 se = true → se.role = 0x47 → s.gives (.qdpAck t p src sport b) fun e =>
      let hit := g.body.length = 12 ∧ beAt g.body 0 8 = d.serial ∧ ∃ f ∈ d.witness.forwards, f.seq % 2 ^ 32 = beAt g.body 8 4
      (hit → e.witness = { d.witness with
        forwards := d.witness.forwards.filter fun f => f.seq % 2 ^ 32 != beAt g.body 8 4 }) ∧
      (¬ hit → e.witness = { d.witness with discardedAcks := d.witness.discardedAcks + 1 }) ∧
      took ∈ e.dict.sessions ∧ e.bare = { d.bare with witness := e.witness } ∧ d.regsJust [] e)

/-- QDP_READ and QDP_WRITE of an open session: a read is answered by what its entries hold; a write that is refused, or that
changes nothing that is kept, is answered at once with its result, and one that is kept waits for the journal. -/
def Claims.RequestsAnswered : Prop :=
  ∀ (s : State) (t : Nat) (p : Fin 4) (src : Bytes) (sport : Nat) (b : Bytes) (se : Session), let d := s.dev.tick t
    let g := parseDgram b
    let d' := d.setSession (se.took g.seq d.now)
    let n := beAt g.body 0 1
    let a : Asker := { role := roleOf se.role, session := some se.id }
    let answered (e : Dev) (typ : Nat) (body : Bytes) : Prop := ∃ x ∈ e.dict.sessions, x.id = se.id ∧
      ∃ y, x.answers.getLast? = some y ∧ y.seq = g.seq ∧ y.tag = g.tag ∧ y.typ = typ ∧ y.body = body
    d.running = true → 0 < n → n ≤ 32 →
    (∀ es, d.qdpTaken p b 0x10 se = true → parseRead n (g.body.drop 4) = some es →
      s.gives (.qdpRead t p src sport b) fun e =>
        answered e 0x11 (be 4 g.seq ++ [byteOf n] ++ zeros 3 ++ (d'.readAll a es).1)) ∧
    ∀ es, d.qdpTaken p b 0x12 se = true → parseWrite n (g.body.drop 4) = some es → closedBy es = [] → followsOf es = none →
      s.gives (.qdpWrite t p src sport b) fun e =>
        ((d'.writeAll a es).2.1 = none → (d'.writeAll a es).2.2 ≠ [] →
          ∃ x, e.dict.jpend.getLast? = some x ∧ x.session = some (se.id, g.seq, g.tag) ∧ x.body = writeResp g.seq es none) ∧
        ((d'.writeAll a es).2.1.isSome = true ∨ (d'.writeAll a es).2.2 = [] →
          answered e 0x13 (writeResp g.seq es (d'.writeAll a es).2.1))

/-- All of `Claims.SessionServed`, `Claims.RequestsAnswered`. -/
def Obligations.SessionsServed : Prop :=
  Claims.SessionServed ∧ Claims.RequestsAnswered

/-- QDP_SEGMENT, QDP_SEGMENT_ACK and QDP_SEGMENT_TIMEOUT: the first segment of a transfer is kept and acknowledged; a transfer
whose last byte is acknowledged is over; one without progress for 5 s is abandoned and reported. -/
def Claims.SegmentsServed : Prop :=
  ∀ (s : State) (t : Nat) (p : Fin 4) (src : Bytes) (sport : Nat) (b : Bytes) (se : Session), let d := s.dev.tick t
    let g := parseDgram b
    d.running = true →
    (bit (d.rn O.qdpPorts) p = true → 44 ≤ b.length → beAt b 0 2 = 0x5144 → beAt b 2 1 = 1 → g.typ = 0x10 ∨ g.typ = 0x12 →
      g.length = 0xFFFF → d.dgramSession g = some se → tagOk g se.key = true → se.accepts g.seq = true → d.roomy = true →
      g.seq < 2 ^ 31 → se.inT = none → beAt g.body 8 4 = 0 → (g.body.drop 12).length < beAt g.body 4 4 → beAt g.body 4 4 ≤ 16777344 →
      (d.port se.port).linkUp = true →
      s.gives (.qdpSegment t p src sport b) fun e =>
        let data := g.body.drop 12
        (∃ x ∈ e.dict.sessions, x.id = se.id ∧ ∃ tr, x.inT = some tr ∧ tr.num = beAt g.body 0 2 ∧ tr.typ = g.typ ∧
          tr.total = beAt g.body 4 4 ∧ tr.parts = [(0, data)] ∧ tr.acked = data.length) ∧
        e.sends (16 * se.port + 9) se.addr
          (qdpDatagram se.key 0x18 se.id se.sendSeq false (be 2 (beAt g.body 0 2) ++ [0, 0] ++ be 4 data.length)) ∧
        e.bare = d.bare ∧ d.regsJust [] e) ∧
    (∀ tr, d.qdpTaken p b 0x18 se = true → se.outT = some tr → tr.num = beAt g.body 0 2 → tr.acked < tr.total →
      beAt g.body 4 4 = tr.total →
      s.gives (.qdpSegmentAck t p src sport b) fun e =>
        { se.took g.seq d.now with outT := none } ∈ e.dict.sessions ∧ e.bare = d.bare ∧ d.regsJust [] e) ∧
    ∀ id tr, d.sessionOf id = some se → se.outT = some tr → tr.progress + 5 * sec ≤ d.now → d.evFree 1 = true →
      s.gives (.qdpSegmentTimeout t id) fun e =>
        (∀ x ∈ e.dict.sessions, x.id = id → x.outT = none) ∧ d.logs e Code.qdpSegment 0 0 ∧ e.bare = d.bare ∧ d.regsBut [] e

/-- QDP_IDLE_TIMEOUT closes an open session that no valid datagram has reached in time; QDP_LOCKOUT_EXPIRY frees an address 60 s
after its lockout. -/
def Claims.SessionTimers : Prop :=
  ∀ (s : State) (t : Nat), let d := s.dev.tick t
    d.running = true →
    (∀ id se, d.sessionOf id = some se → se.phase = 1 → se.last + d.rn O.qdpIdleTimeout * sec ≤ d.now → d.evFree 40 = true →
      s.gives (.qdpIdleTimeout t id) fun e =>
        (∀ x ∈ e.dict.sessions, x.id ≠ id) ∧ d.logs e Code.qdpSessionClosed 0 0 ∧
        e.bare = { d.bare with mbx := e.mbx, rope := e.rope }) ∧
    ∀ addr, s.gives (.qdpLockoutExpiry t addr) fun e =>
      (∀ l, l ∈ e.dict.locked ↔ l ∈ d.dict.locked ∧ ¬ (l.1 = addr ∧ l.2 + 60 * sec ≤ d.now)) ∧
      e = { d with dict := { d.dict with locked := e.dict.locked } }

/-- All of `Claims.SegmentsServed`, `Claims.SessionTimers`. -/
def Obligations.TransfersAndTimers : Prop :=
  Claims.SegmentsServed ∧ Claims.SessionTimers

/-! ### CANopen FD -/

/-- CAN_NMT_COMMAND: start, enter pre-operational and reset set the port's state; entering pre-operational sends the boot-up
message. The command specifiers are those of CiA 301 (log 37, PRESUMED). -/
def Claims.NmtStateSet : Prop :=
  ∀ (s : State) (t : Nat) (p : Fin 2) (node : Nat), let d := s.dev.tick t
    let rest (e : Dev) : Prop := (∀ o, o ≠ p.val → (e.can o).nmt = (d.can o).nmt ∧ (e.can o).usdo = (d.can o).usdo) ∧
      (∀ o, (e.can o).bus = (d.can o).bus) ∧ e.bare = d.bare ∧ d.regsBut [] e
    d.running = true → d.rf O.canEnable p = true → node = 0 ∨ node = d.rn O.canNodeId p → d.evFree 2 = true →
    ((d.can p).nmt ≠ 2 → s.gives (.canNmtCommand t p 1 node) fun e =>
      (e.can p).nmt = 2 ∧ d.logs e Code.canopenNmtState p 2 ∧ rest e) ∧
    ((d.can p).nmt ≠ 3 → s.gives (.canNmtCommand t p 2 node) fun e =>
      (e.can p).nmt = 3 ∧ d.logs e Code.canopenNmtState p 3 ∧ rest e) ∧
    ((d.can p).nmt ≠ 1 → s.gives (.canNmtCommand t p 128 node) fun e =>
      (e.can p).nmt = 1 ∧ d.logs e Code.canopenNmtState p 1 ∧
      ((d.can p).bus ≠ 2 → d.emits e (.can ⟨p, 0x700 + d.rn O.canNodeId p, [0]⟩)) ∧ rest e) ∧
    ∀ c ∈ [129, 130], s.gives (.canNmtCommand t p c node) fun e =>
      (e.can p).nmt = 1 ∧ (e.can p).usdo = none ∧ d.logs e Code.canopenNmtState p 1 ∧ rest e

/-- CAN_USDO_REQUEST: a read of an entry is answered by its value, or by the abort of its code; a write that is refused by its
abort, one that nothing keeps by the confirmation; segmented transfers go on by segments. CAN_USDO_TIMEOUT aborts one without a
segment for 1 s. -/
def Claims.UsdoServed : Prop :=
  ∀ (s : State) (t : Nat) (p : Fin 2) (node : Nat), let d := s.dev.tick t
    let a : Asker := { role := d.rn O.canRole p }
    d.running = true →
    (d.canUp p = true → (d.can p).nmt = 1 ∨ (d.can p).nmt = 2 → d.vendorOnly = false →
      (∀ i j, (∀ v, (d.readOne a (i * 256 + j) 0 0).1 = .ok v → v.length ≤ usdoChunk →
          s.gives (.canUsdoRequest t p node (.read i j)) fun e => e.sent.getLast? = some (.usdo p node (.value v))) ∧
        (∀ c, (d.readOne a (i * 256 + j) 0 0).1 = .error c → d.evFree 1 = true →
          s.gives (.canUsdoRequest t p node (.read i j)) fun e =>
            d.emits e (.usdo p node (.abort (abortCondition c))) ∧ d.logs e Code.canopenUsdoAbort p 0 ∧
            e.bare = d.bare ∧ d.regsBut [] e)) ∧
      (∀ i j x, let es := [(i * 256 + j, x)]
        let r := (d.modCan p fun c => { c with usdo := none }).writeAll a es
        (∀ f, r.2.1 = some f → s.gives (.canUsdoRequest t p node (.write i j x)) fun e =>
          Out.usdo p node (.abort (abortCondition f.2)) ∈ e.sent) ∧
        (r.2.1 = none → r.2.2 = [] → closedBy es = [] → followsOf es = none →
          s.gives (.canUsdoRequest t p node (.write i j x)) fun e =>
            e.sent.getLast? = some (.usdo p node .done) ∧ e = { r.1 with sent := e.sent })) ∧
      (∀ i j total, total ≤ 65536 → s.gives (.canUsdoRequest t p node (.writeStart i j total)) fun e =>
        (e.can p).usdo = some ⟨node, i * 256 + j, false, [], total, d.now⟩ ∧ e.sent = d.sent ++ [.usdo p node .next] ∧
        (∀ o, o ≠ p.val → e.can o = d.can o) ∧ e = { d with canPorts := e.canPorts, sent := e.sent }) ∧
      ∀ u, (d.can p).usdo = some u → u.node = node →
        (u.up = true → s.gives (.canUsdoRequest t p node .readSegment) fun e =>
          e.sent = d.sent ++ [.usdo p node (.segment (u.data.take usdoChunk) (decide (usdoChunk < u.data.length)))] ∧
          (∀ o, o ≠ p.val → e.can o = d.can o) ∧ e = { d with canPorts := e.canPorts, sent := e.sent }) ∧
        ∀ x, u.up = false → u.data.length + x.length < u.total →
          s.gives (.canUsdoRequest t p node (.writeSegment x)) fun e =>
            (e.can p).usdo = some { u with data := u.data ++ x, last := d.now } ∧ e.sent = d.sent ++ [.usdo p node .next] ∧
            (∀ o, o ≠ p.val → e.can o = d.can o) ∧ e = { d with canPorts := e.canPorts, sent := e.sent }) ∧
    ∀ u, (d.can p).usdo = some u → u.last + sec ≤ d.now → d.evFree 1 = true →
      s.gives (.canUsdoTimeout t p) fun e =>
        (e.can p).usdo = none ∧ d.emits e (.usdo p u.node (.abort 8)) ∧ d.logs e Code.canopenUsdoAbort p 0 ∧
        e.bare = d.bare ∧ d.regsBut [] e

/-- All of `Claims.NmtStateSet`, `Claims.UsdoServed`. -/
def Obligations.CanServed : Prop :=
  Claims.NmtStateSet ∧ Claims.UsdoServed

/-- CAN_RPDO and CAN_TPDO_TIMER: an RPDO of another length is reported and nothing is written; one that fits is one write of its
mapped entries. A TPDO leaves at the multiples of its period with the values of its entries. -/
def Claims.PdosExchanged : Prop :=
  ∀ (s : State) (t : Nat) (p : Fin 2) (n : Fin 8) (data : Bytes), let d := s.dev.tick t
    let k := 8 * p.val + n.val
    let es := d.pdoNow true k
    let ws := pdoEntries es data
    let r := d.writeAll { role := d.rn O.canRole p } ws
    d.running = true → d.vendorOnly = false →
    (d.pdoRuns true p k = true →
      (data.length ≠ sumL (es.map fun e => e % 256 / 8) → d.evFree 1 = true → s.gives (.canRpdo t p n data) fun e =>
        d.logs e Code.canopenPdoLength p n ∧ e.bare = d.bare ∧ d.regsBut [] e) ∧
      (data.length = sumL (es.map fun e => e % 256 / 8) → r.2.1 = none → r.2.2 = [] → followsOf ws = none →
        s.gives (.canRpdo t p n data) fun e => e = r.1)) ∧
    (d.pdoRuns false p k = true → d.now % (d.rn O.tpdoPeriod k * 1000000) = 0 → s.gives (.canTpdoTimer t p n) fun e =>
      e = { d with sent := d.sent ++ [.can ⟨p, d.rn O.tpdoCob k % 2048, (d.pdoNow false k).flatMap d.pdoValue⟩] })

/-- CAN_HEARTBEAT_TIMER, CAN_HEARTBEAT_MISSED and CAN_CLASSICAL_FRAME: each port that has started sends its heartbeat; a consumer
that misses one is reported; a classical frame is counted and ignored. -/
def Claims.CanSupervised : Prop :=
  ∀ (s : State) (t : Nat), let d := s.dev.tick t
    d.running = true →
    (d.rn O.canHeartbeatPeriod ≠ 0 → s.gives (.canHeartbeatTimer t) fun e =>
      (∀ p < 2, d.canUp p = true → (d.can p).nmt ≠ 0 →
        d.emits e (.can ⟨p, 0x700 + d.rn O.canNodeId p, [beatState (d.can p).nmt]⟩)) ∧ e = { d with sent := e.sent }) ∧
    ∀ p : Fin 2, d.rf O.canEnable p = true →
      (∀ c : Fin 4, let v := d.rn O.canHeartbeatConsumer 0 c
        v / 65536 % 256 ≠ 0 → v % 65536 ≠ 0 → d.evFree 1 = true → s.gives (.canHeartbeatMissed t p c) fun e =>
          d.logs e Code.canopenHeartbeatLost p (v / 65536 % 256) ∧ e.bare = d.bare ∧ d.regsBut [] e) ∧
      (s.gives (.canClassicalFrame t p) fun e =>
        e.rn O.canRxIgnored p = upTo O.canRxIgnored (d.rn O.canRxIgnored p) ∧ e.bare = d.bare ∧
        d.regsJust [O.canRxIgnored.key p] e)

/-- All of `Claims.PdosExchanged`, `Claims.CanSupervised`. -/
def Obligations.CanExchanged : Prop :=
  Claims.PdosExchanged ∧ Claims.CanSupervised

/-- R349: a port that reaches error-passive raises CAN_ERROR_PASSIVE; one that goes bus-off raises CAN_BUS_OFF and after the
recovery raises CAN_BUS_RECOVERED; the other port is not affected. -/
def Obligations.CanErrorStates : Prop :=
  ∀ (s : State) (t : Nat) (p : Fin 2), let d := s.dev.tick t
    let other (e : Dev) : Prop := (∀ o, o ≠ p.val → e.can o = { d.can o with emcyUntil := (e.can o).emcyUntil }) ∧
      e.bare = d.bare ∧ d.regsBut [] e
    d.running = true → d.evFree 1 = true →
    (d.rf O.canEnable p = true → (d.can p).bus < 2 → s.gives (.canErrorState t p false) fun e =>
      (e.can p).bus = 1 ∧ d.logs e Code.canErrorPassive p 0 ∧ other e) ∧
    (d.rf O.canEnable p = true → (d.can p).bus < 2 → s.gives (.canErrorState t p true) fun e =>
      (e.can p).bus = 2 ∧ d.logs e Code.canBusOff p 0 ∧ other e) ∧
    ((d.can p).bus = 2 → s.gives (.canBusOffRecovery t p) fun e =>
      (e.can p).bus = 0 ∧ d.logs e Code.canBusRecovered p 0 ∧ other e)

/-! ### Witness records -/

/-- WITNESS_SIGNED: the record of the request at the head of the queue is appended under the next sequence, chained to the last
one and signed, and a unit with lead forwards it; a first failed signature is retried. -/
def Claims.RecordSigned : Prop :=
  ∀ (s : State) (t : Nat) (r : Request) (rest : List Request) (c : Bytes), let d := s.dev.tick t
    let w := d.witness
    let full := withChain c w.nextSeq w.chainHead
    d.running = true → d.gated = false → w.requests = r :: rest → r.content = some c → r.tries = 0 → d.evFree 6 = true →
    (s.gives (.witnessSigned t true) fun e =>
      (∃ x, e.witness.ring.getLast? = some x ∧ x.seq = w.nextSeq ∧ x.record = full ++ d.signRecord full ∧
        x.hash = chainHash w.chainHead x.record ∧ e.witness.chainHead = x.hash) ∧
      e.witness.nextSeq = w.nextSeq + 1 ∧ e.witness.requests = rest ∧
      (r.kind = 1 → d.logs e Code.witnessIssued r.panel r.region ∧
        (d.holdsLead = true → ∃ f ∈ e.witness.forwards, f.seq = w.nextSeq ∧ f.resends = 0) ∧
        (d.holdsLead = false → d.logs e Code.witnessNotForwarded 0 0 ∧ e.witness.forwards = w.forwards)) ∧
      (r.kind ≠ 1 → e.witness.forwards = w.forwards) ∧
      e.bare = { d.bare with witness := e.witness, touch := e.touch }) ∧
    (s.gives (.witnessSigned t false) fun e =>
      e.witness = { w with requests := { r with tries := 1 } :: rest } ∧ e = { d with witness := e.witness })

/-- WITNESS_ACK_TIMEOUT: a record not acknowledged is sent again up to witness.resends times; then it is given up, counted and
reported. -/
def Claims.RecordResent : Prop :=
  ∀ (s : State) (t : Nat) (f : Forward), let d := s.dev.tick t
    d.running = true → d.holdsLead = true →
    d.witness.forwards.find? (fun x => x.seq == f.seq && x.time + 1000000 * d.rn O.witnessAckTimeout ≤ d.now) = some f →
    (f.resends < d.rn O.witnessResends → s.gives (.witnessAckTimeout t f.seq) fun e =>
      (∃ x ∈ e.witness.forwards, x.seq = f.seq ∧ x.record = f.record ∧ x.resends = f.resends + 1 ∧ x.time = d.now) ∧
      e.witness.forwards.length = d.witness.forwards.length ∧ e.bare = { d.bare with witness := e.witness } ∧
      d.regsBut [] e) ∧
    (d.rn O.witnessResends ≤ f.resends → d.evFree 1 = true → s.gives (.witnessAckTimeout t f.seq) fun e =>
      e.witness = { d.witness with forwards := d.witness.forwards.filter fun x => x.seq != f.seq } ∧
      e.rn O.witnessUnacked = upTo O.witnessUnacked (d.rn O.witnessUnacked) ∧ d.logs e Code.witnessUnacked 0 0 ∧
      e.bare = { d.bare with witness := e.witness } ∧ d.regsBut [O.witnessUnacked.key 0] e)

/-- All of `Claims.RecordSigned`, `Claims.RecordResent`. -/
def Obligations.WitnessRecords : Prop :=
  Claims.RecordSigned ∧ Claims.RecordResent

/-! ### The pitch -/

/-- R17, R18: of several writes accepted to one object before the effecting event the last takes effect at it; one of the
event's own CLK_CTRL cycle waits, and takes effect at the following event of that kind. -/
def Obligations.PendingTakesEffect : Prop :=
  ∀ (d : Dev) (cls c : Nat) (own : Nat → Bool) (w : PendW) (before after : List PendW),
    d.pendOf cls = before ++ w :: after → own w.key = true →
    (w.cycle < c → (∀ x ∈ after, x.key = w.key → c ≤ x.cycle) →
      tfind (d.effect cls c own).dict.eff w.key = some w.val ∧
      ∀ x ∈ (d.effect cls c own).pendOf cls, x.key = w.key → c ≤ x.cycle) ∧
    (w.cycle = c →
      w ∈ (d.effect cls c own).pendOf cls ∧
      ((∀ x ∈ before ++ after, x.key = w.key → c ≤ x.cycle) →
        tfind (d.effect cls c own).dict.eff w.key = tfind d.dict.eff w.key) ∧
      ∀ c', c < c' → (∀ x ∈ after, x.key = w.key → c' ≤ x.cycle) →
        tfind ((d.effect cls c own).effect cls c' own).dict.eff w.key = some w.val)

/-- PITCH_START on a unit without a twin: the pitch is the next one and starts now; the writes of class PIT accepted in earlier
cycles take effect, those of the same cycle wait. -/
def Obligations.PitchStarts : Prop :=
  ∀ (s : State) (t : Nat) (fence : Bool), let d := s.dev.tick t
    d.alive = true → d.gridAt 0 (d.gridK 0 d.now) = (d.now : Int) → d.twin.role = .alone → d.twin.record = none →
    (∀ i < 128, d.rn O.streamPort i < 4) → (∀ x ∈ d.pendOf 2, O.streamPort.has x.key = true → x.val.int.toNat < 4) →
    s.gives (.pitchStart t fence) fun e =>
      e.pitch = aliveNext d.pitch ∧ e.pitchAt = d.now ∧ e.pitchStarted = true ∧
      (∀ w ∈ d.pendOf 2, pitKey w.key = true → O.streamRestart.has w.key = false → w.cycle < cycleOf d.now →
        (∀ x ∈ d.pendOf 2, x.cycle < cycleOf d.now → x.key = w.key → x = w) →
        tfind e.dict.eff w.key = some w.val ∧ w ∉ e.pendOf 2) ∧
      (∀ w ∈ d.pendOf 2, cycleOf d.now ≤ w.cycle → w ∈ e.pendOf 2) ∧
      (e.rb O.healthReport).take 4 = le 4 e.pitch

/-! ### Twin operation -/

/-- ANCHOR_BEAT, ANCHOR_REQUEST, ANCHOR_RELEASE and ANCHOR_HEALTH at the Anchor: a member that beats is present with its role; a
first start-up request opens the window; a release of the Lead grants lead to its partner under the next epoch, kept in the
journal first; the health summary is kept. -/
def Claims.AnchorHearsMembers : Prop :=
  ∀ (s : State) (t : Nat) (m : AnchorMsg) (u : Nat) (body : Bytes), let d := s.dev.tick t
    let rest (e : Dev) : Prop := e.bare = { d.bare with anchor := e.anchor, twin := e.twin } ∧
      e.twin = { d.twin with bootSeen := e.twin.bootSeen } ∧ d.regsJust [O.twinLeadSerial.key 0] e
    (d.anchorHears m 0x40 u body → s.gives (.anchorBeat t m) fun e =>
      (e.member u).present = true ∧ (e.member u).lastBeat = d.now ∧ (e.member u).role = beAt body 20 1 ∧
      (e.member u).ropeOk = bit (beAt body 21 1) 0 ∧ (e.member (1 - u)).present = (d.member (1 - u)).present ∧ rest e) ∧
    (d.anchorHears m 0x42 u body → beAt body 20 1 = 1 → d.anchor.lead = 0 → d.anchor.window = none →
      s.gives (.anchorRequest t m) fun e =>
        e.anchor.window = some d.now ∧ (e.member u).requested = (d.member u).requested.or (some d.now) ∧
        e.anchor.e = d.anchor.e ∧ e.anchor.lead = 0 ∧ rest e) ∧
    (d.anchorHears m 0x44 u body → d.anchor.lead = d.pairSerial u → (d.member (1 - u)).present = true →
      d.anchor.e < 0xFFFFFFFE → (∀ x ∈ d.anchor.lastGrant, x.1 + 100000000 ≤ d.now) → s.gives (.anchorRelease t m) fun e =>
        e.anchor.e = d.anchor.e + 1 ∧ e.anchor.lead = d.pairSerial (1 - u) ∧ e.anchor.lastGrant = some (d.now, 1 - u) ∧
        (∃ x, e.dict.jpend.getLast? = some x ∧ x.entries = [⟨anchorKey, .num (d.anchor.e + 1 : Nat), []⟩]) ∧ rest e) ∧
    (d.anchorHears m 0x45 u body → s.gives (.anchorHealth t m) fun e =>
      e.twin = { d.twin with bootSeen := e.twin.bootSeen, partnerHealth := slice body 20 28 } ∧
      e.bare = { d.bare with twin := e.twin } ∧ d.regsJust [] e)

/-- STATE_TIMER, MEMBER_ABSENT_TIMEOUT and REQUEST_WINDOW_EXPIRY at the Anchor: STATE goes to every member present; a Lead
silent for 30 ms is absent, and lead goes to its partner; when the window of the first request closes a member present that asked
is granted lead. -/
def Claims.AnchorTimers : Prop :=
  ∀ (s : State) (t : Nat), let d := s.dev.tick t
    let granted (e : Dev) (u : Nat) : Prop := e.anchor.e = d.anchor.e + 1 ∧ e.anchor.lead = d.pairSerial u ∧
      e.anchor.lastGrant = some (d.now, u) ∧ e.bare = { d.bare with anchor := e.anchor } ∧
      d.regsJust [O.twinLeadSerial.key 0] e
    d.running = true → d.twin.role = .anchor →
    (d.grantee = none → d.anchor.granting = none → s.gives (.stateTimer t) fun e =>
      (∀ u < 2, (d.member u).present = true → ∀ p ∈ d.anchorCans, ∃ data, d.emits e (.can ⟨p, anchorCanId u 0x41 true, data⟩)) ∧
      e.anchor = d.anchor ∧ e.bare = { d.bare with twin := e.twin }) ∧
    (∀ m : Fin 2, (d.member m).present = true → (d.member m).lastBeat + 30000000 ≤ d.now → d.anchor.e < 0xFFFFFFFE →
      d.anchor.lead ≠ 0 → d.unitOfSerial d.anchor.lead = some m.val → d.anchor.released = none →
      (d.member (1 - m)).present = true → (∀ x ∈ d.anchor.lastGrant, x.1 + 100000000 ≤ d.now) →
      s.gives (.memberAbsentTimeout t m) fun e => (e.member m).present = false ∧ granted e (1 - m)) ∧
    ∀ u w, d.anchor.lead = 0 → d.anchor.window = some w → w + 100000000 ≤ d.now → d.anchor.e < 0xFFFFFFFE →
      (∀ x ∈ d.anchor.lastGrant, x.1 + 100000000 ≤ d.now) →
      [0, 1].find? (fun u => (d.member u).present && (d.member u).requested.isSome) = some u →
      s.gives (.requestWindowExpiry t) fun e => (e.member u).requested = none ∧ granted e u

/-- All of `Claims.AnchorHearsMembers`, `Claims.AnchorTimers`. -/
def Obligations.AnchorGrants : Prop :=
  Claims.AnchorHearsMembers ∧ Claims.AnchorTimers

/-- R389: a member has Anchor contact while valid STATE messages arrive; 30 ms after the last one it raises TWIN_ANCHOR_LOST,
and at the next TWIN_ANCHOR_RESTORED. -/
def Obligations.AnchorContact : Prop :=
  ∀ (s : State) (t : Nat), let d := s.dev.tick t
    d.evFree 1 = true →
    (∀ m body, d.memberHears m 0x41 body → s.gives (.anchorState t m) fun e =>
      e.twin.anchorContact = true ∧ e.twin.anchorLast = some d.now ∧
      (d.twin.anchorContact = false → d.twin.anchorLast.isSome = true → d.logs e Code.twinAnchorRestored 0 0)) ∧
    ∀ a, d.running = true → d.isMember = true → d.twin.anchorContact = true → d.twin.anchorLast = some a →
      (a + 30000000 ≤ d.now → s.gives (.anchorContactTimeout t) fun e =>
        e.twin = { d.twin with anchorContact := false } ∧ d.logs e Code.twinAnchorLost 0 0 ∧
        e.bare = { d.bare with twin := e.twin } ∧ d.regsBut [] e) ∧
      (d.now < a + 30000000 → s.gives (.anchorContactTimeout t) fun e => e = d)

/-- ANCHOR_GRANT and BEAT_TIMER at a member: a grant to it of a higher epoch is kept, with the instant it came; its BEAT goes out
on every CAN port of the path, with its serial number first. -/
def Claims.MemberAndAnchor : Prop :=
  ∀ (s : State) (t : Nat), let d := s.dev.tick t
    (∀ m body, d.memberHears m 0x43 body → beAt body 24 8 = d.serial → d.twin.known < beAt body 16 4 → d.inService = false →
      s.gives (.anchorGrant t m) fun e =>
        e.twin = { d.twin with bootSeen := e.twin.bootSeen, known := beAt body 16 4,
                               grant := some (beAt body 16 4, d.now, beAt body 20 1 == 1) } ∧
        e.bare = { d.bare with twin := e.twin } ∧ d.regsJust [] e) ∧
    (d.running = true → d.isMember = true → s.gives (.beatTimer t) fun e =>
      (∀ p ∈ d.anchorCans, ∃ data, data.take 8 = be 8 d.serial ∧
        d.emits e (.can ⟨p, anchorCanId (d.rn O.twinUnitId) 0x40 false, data⟩)) ∧
      e.twin = { d.twin with bootId := e.twin.bootId, msgSeq := e.twin.msgSeq } ∧
      e.bare = { d.bare with twin := e.twin })

/-- LEAD_PRE_PITCH and TWIN_FENCE_RISE: a Lead whose lease has lapsed for two pitches, or that has seen TWIN_FENCE high from its
partner over a pitch, is withdrawn by the hardware: the gate closes and TWIN_LEAD falls. -/
def Claims.FenceWithdraws : Prop :=
  ∀ (s : State) (t : Nat), let d := s.dev.tick t
    let out (e : Dev) (reason : Nat) : Prop := e.twin.gate = true ∧ e.twin.leadPin = false ∧
      e.twin.withdraw = some (reason, d.now - 200000) ∧ e.twin.role = .lead ∧
      e.rn O.twinFenceEvents = upTo O.twinFenceEvents (d.rn O.twinFenceEvents) ∧
      e.bare = { d.bare with twin := e.twin } ∧ d.regsBut [O.twinFenceEvents.key 0] e
    d.alive = true → d.twin.role = .lead →
    (d.twin.gate = false → d.twin.grant = none →
      (2 ≤ d.twin.renewals → ∀ fence, s.gives (.leadPrePitch t fence) fun e => out e 5) ∧
      (d.twin.renewals < 2 → ∀ n, d.twin.fenceRise = some n → 1 ≤ n → d.evFree 1 = true →
        s.gives (.leadPrePitch t true) fun e => d.logs e Code.twinFenced 0 0 ∧ out e 4) ∧
      (d.twin.renewals < 2 → d.twin.withdraw = none → d.isolated = false → ∀ fence, d.twin.fenceRise = none →
        s.gives (.leadPrePitch t fence) fun e =>
          e.twin = { d.twin with fencePin := fence } ∧ e = { d with twin := e.twin })) ∧
    s.gives (.twinFenceRise t) fun e =>
      e.twin = { d.twin with fencePin := true, fenceRise := if d.twin.fencePin then d.twin.fenceRise else some 0 } ∧
      e = { d with twin := e.twin }

/-- All of `Claims.MemberAndAnchor`, `Claims.FenceWithdraws`. -/
def Obligations.MembersHoldLead : Prop :=
  Claims.MemberAndAnchor ∧ Claims.FenceWithdraws

/-- RECORD_CLOSE and RECORD_RECEIVED: a Lead closes the record of its next pitch, and what is armed travels with it; a Second
keeps a verified record for its pitch, and discards, counts and reports another. -/
def Claims.RecordsTravel : Prop :=
  ∀ (s : State) (t : Nat) (b : Bytes), let d := s.dev.tick t
    d.running = true →
    (d.twin.role = .lead → s.gives (.recordClose t) fun e =>
      (∃ c, e.twin.closes.getLast? = some c ∧ c.pitch = aliveNext d.pitch ∧ c.time = d.now) ∧
      (∀ g < 8, ∀ tb, (d.grp g).armed = some tb → tb.carried = none →
        (e.grp g).armed = some { tb with carried := some d.nextPitch }) ∧
      e.bare = { d.bare with twin := e.twin, groups := e.groups, rope := e.rope }) ∧
    (d.twin.role = .second →
      (∀ ep r, parseRecord b = some (1, ep, r) → d.twin.known ≤ ep → d.recordFault b = .ok r → beAt b 2 1 = 1 →
        s.gives (.recordReceived t b) fun e =>
          e.twin = { d.twin with known := ep, record := some r } ∧ e = { d with twin := e.twin }) ∧
      ∀ n, parseRecord b = none → d.recordFault b = .error n → d.evFree 1 = true → s.gives (.recordReceived t b) fun e =>
        e.twin = { d.twin with discarded := true } ∧
        e.rn O.twinRecordsDiscarded = upTo O.twinRecordsDiscarded (d.rn O.twinRecordsDiscarded) ∧
        d.logs e Code.twinRecordDiscarded 0 n ∧ e.bare = { d.bare with twin := e.twin } ∧ d.regsBut [O.twinRecordsDiscarded.key 0] e)

/-- HEARTBEAT_SEND and HEARTBEAT_RECEIVED: each member sends its heartbeat over the rope, and keeps what its partner's says of
it. -/
def Claims.HeartbeatsTravel : Prop :=
  ∀ (s : State) (t : Nat) (b : Bytes), let d := s.dev.tick t
    d.running = true → d.isMember = true →
    (d.ropeIsUp = true → tget 0 d.health.dmaFault (unitKey 16 0) = 0 → s.gives (.heartbeatSend t) fun e =>
      (∃ f ∈ e.rope.replayQ ++ e.rope.sendQ, f.typ = 1 ∧ f.chan = 0x20 ∧ f.last = true) ∧
      e = { d with rope := e.rope, sent := e.sent, freeCtr := e.freeCtr }) ∧
    (b.length = 2112 → beAt b 0 2 = 1 → d.pitchStarted = true → s.gives (.heartbeatReceived t b) fun e =>
      e.twin.hbGot = true ∧ e.twin.partnerRole = beAt b 3 1 ∧ e.twin.partnerFlags = beAt b 24 1 ∧
      e.twin.partnerHealth = slice b 36 28 ∧ e.twin.role = d.twin.role ∧ d.twin.known ≤ e.twin.known ∧
      e.bare = { d.bare with twin := e.twin, health := e.health, panels := e.panels })

/-- TWIN_IDENTITY_RECEIVED and SNAPSHOT_RECEIVED: a partner of the same identity is known as such, one that differs makes the
unit COLD unless it leads; a complete snapshot makes a unit join. -/
def Claims.RejoinProceeds : Prop :=
  ∀ (s : State) (t : Nat) (b : Bytes) (parts : List Bytes), let d := s.dev.tick t
    let same := b.length = 48 ∧ b.take 8 = d.identityBody.take 8 ∧ b.drop 16 = d.identityBody.drop 16 ∧
      leAt b 8 1 ≠ leAt d.identityBody 8 1
    d.running = true → d.isMember = true →
    (s.gives (.twinIdentityReceived t b) fun e =>
      (same → e.twin = { d.twin with identity := true }) ∧
      (¬ same → d.twin.role ≠ .lead → e.twin.role = .cold ∧ e.twin.identity = false ∧ e.told Code.twinCold 3) ∧
      ((d.mb 16).d1.outstanding = true → (e.mb 16).d1.outstanding = false) ∧
      e.bare = { d.bare with twin := e.twin, mbx := e.mbx, rope := e.rope }) ∧
    ∀ r, d.twin.role ≠ .lead → d.twin.role ≠ .second → d.twin.identity = true → d.snapshotOf parts = some r →
      s.gives (.snapshotReceived t parts) fun e =>
        e.twin.joined = true ∧ e.twin.applied = r.pitch ∧ e.twin.appliedAt = d.now ∧ e.twin.role = d.twin.role ∧
        e.told Code.twinSnapshotDone 0

/-- All of `Claims.RecordsTravel`, `Claims.HeartbeatsTravel`, `Claims.RejoinProceeds`. -/
def Obligations.TwinMirrors : Prop :=
  Claims.RecordsTravel ∧ Claims.HeartbeatsTravel ∧ Claims.RejoinProceeds

/-! ### Health and the journal -/

/-- BIST_COMPLETE: a first run that fails is repeated, a pass ends the test; a repeat that passes is a transient, one that fails
is counted. BIST_ROTATION_TIMER: each kind with a spare has its next spare under test. -/
def Claims.SelfTestsRun : Prop :=
  ∀ (s : State) (t : Nat), let d := s.dev.tick t
    d.alive = true →
    (∀ b, d.health.tests.find? (fun x => x.kind == b.kind && x.inst == b.inst) = some b → b.why ≠ 3 →
      (b.again = false →
        (s.gives (.bistComplete t b.kind b.inst true) fun e =>
          (∀ x ∈ e.health.tests, ¬ (x.kind = b.kind ∧ x.inst = b.inst)) ∧ d.counts e O.healthBistRuns ∧
          e.bare = { d.bare with health := e.health } ∧ d.regsJust [O.healthBistRuns.key 0] e) ∧
        s.gives (.bistComplete t b.kind b.inst false) fun e =>
          { b with again := true } ∈ e.health.tests ∧ d.counts e O.healthBistRuns ∧
          e.bare = { d.bare with health := e.health } ∧ d.regsJust [O.healthBistRuns.key 0] e) ∧
      (b.again = true → d.evFree 3 = true → s.gives (.bistComplete t b.kind b.inst true) fun e =>
        (∀ x ∈ e.health.tests, ¬ (x.kind = b.kind ∧ x.inst = b.inst)) ∧ d.logs e Code.bistTransient b.kind b.inst ∧
        e.health.lasting = d.health.lasting ∧ e.bare = { d.bare with health := e.health } ∧
        d.regsBut [O.healthBistRuns.key 0, O.healthFaultLast.key 0] e) ∧
      (b.again = true → s.gives (.bistComplete t b.kind b.inst false) fun e =>
        e.health.bistFails = d.health.bistFails + 1)) ∧
    s.gives (.bistRotationTimer t) fun e =>
      (∀ k ∈ rotationKinds, (∃ i < kindBuilt k, d.unitState k i = .spare) →
        ∃ i, d.unitState k i = .spare ∧ tfind e.health.rotation k = some i ∧ ∃ x ∈ e.health.tests, x.kind = k ∧ x.inst = i) ∧
      (∀ x ∈ d.health.tests, x ∈ e.health.tests) ∧ e = { d with health := e.health }

/-- DMA_ENGINE_FAULT and HEAD_OUTPUT_STAGE_FAULT: an operation whose repeat succeeds is a transient; one whose repeat fails takes
the engine out of use, or sheds the head, as a lasting fault. -/
def Claims.EnginesFail : Prop :=
  ∀ (s : State) (t : Nat), let d := s.dev.tick t
    let transient (e : Dev) (k i : Nat) : Prop := (k, i, d.now) ∈ e.health.transients ∧ e.health.lasting = d.health.lasting ∧
      e.health.dmaFault = d.health.dmaFault ∧ e.bare = { d.bare with health := e.health } ∧ d.regsBut [O.healthFaultLast.key 0] e
    d.alive = true →
    (∀ k i, 14 ≤ k → k ≤ 18 → unitExists k i = true → d.unitState k i = .active →
      (d.transientOver k i = false → s.gives (.dmaEngineFault t k i true) fun e => transient e k i) ∧
      s.gives (.dmaEngineFault t k i false) fun e =>
        tget 0 e.health.dmaFault (unitKey k i) = 1 ∧ e.health.lasting = d.health.lasting + 1 ∧
        (k = 14 → (e.port i).linkUp = false) ∧
        e.bare = { d.bare with health := e.health, ports := e.ports, panels := e.panels, touch := e.touch }) ∧
    ∀ h : Fin 32, d.headOn h = true → d.unitState 20 h = .active →
      (d.transientOver 20 h = false → s.gives (.headOutputStageFault t h true) fun e => transient e 20 h) ∧
      s.gives (.headOutputStageFault t h false) fun e =>
        (20, h.val) ∈ e.health.retired ∧ (e.hd h).shed = true ∧ e.health.lasting = d.health.lasting + 1 ∧
        (∀ o, o ≠ h.val → e.hd o = d.hd o) ∧ e.told Code.healthHeadShed h ∧
        e.bare = { d.bare with health := e.health, heads := e.heads } ∧ d.regsBut [O.healthFaultLast.key 0] e

/-- JOURNAL_APPEND_DONE: the entries of the append are in the journal, and what waited for it is answered. -/
def Claims.JournalAppended : Prop :=
  ∀ (s : State) (t : Nat) (x : JPend), let d := s.dev.tick t
    d.alive = true → d.dict.jpend.find? (fun y => y.ticket == x.ticket) = some x → x.close = [] → x.after = none →
    s.gives (.journalAppendDone t x.ticket) fun e =>
      e.dict.journal = x.entries.foldl journalAdd d.dict.journal ∧ (∀ y ∈ e.dict.jpend, y.ticket ≠ x.ticket) ∧
      (∀ id seq tag se, x.session = some (id, seq, tag) → d.sessionOf id = some se →
        ∃ z ∈ e.dict.sessions, z.id = id ∧ ∃ y, z.answers.getLast? = some y ∧ y.seq = seq ∧ y.tag = tag ∧ y.body = x.body) ∧
      (∀ p, x.can = some p → Out.usdo p (leAt x.body 0 1) .done ∈ e.sent) ∧
      e.bare = { d.bare with anchor := e.anchor, twin := e.twin }

/-- All of `Claims.SelfTestsRun`, `Claims.EnginesFail`, `Claims.JournalAppended`. -/
def Obligations.HealthAndJournal : Prop :=
  Claims.SelfTestsRun ∧ Claims.EnginesFail ∧ Claims.JournalAppended

/-! ### Power, resets, start-up -/

/-- A command that resets the device, on its own conditions, with whether the reset is cold and its cause of Table 16-2. -/
def Claims.resets (d : Dev) (t : Nat) (c : Instr) (cold : Bool) (cause : Nat) : Prop :=
  (c = .powerOn t ∧ cold = true ∧ cause = 1) ∨
  (c = .nresetAssert t ∧ d.powered = true ∧ cold = true ∧ cause = 2) ∨
  ((∃ rail, c = .railFault t rail) ∧ d.powered = true ∧ d.power.pwrReq = true ∧ d.power.phase ≠ .stopped ∧ cold = true ∧ cause = 3) ∨
  (c = .clockFault t ∧ d.powered = true ∧ d.power.phase ≠ .stopped ∧ cold = true ∧ cause = 4) ∨
  (c = .thermalShutdownTrip t ∧ d.powered = true ∧ cold = true ∧ cause = 5) ∨
  ((∃ mesh : Fin 2, c = .tamperMeshCheck t mesh false ∧ tget 0 d.power.meshFails mesh = 1) ∧ d.powered = true ∧
    d.power.phase ≠ .stopped ∧ d.power.life ≠ 4 ∧ cold = true ∧ cause = 6) ∨
  (d.power.phase = .standby ∧ cold = true ∧ cause = 7 ∧
    ((c = .wakePin t ∧ d.power.wakeLatched = none) ∨
      (c = .nresetRelease t ∧ d.power.nreset = true ∧ d.power.wakeLatched = none) ∨
      (c = .wakeAlarm t ∧ d.power.wakeLatched = none ∧ ∃ a, d.power.wakeAt = some a ∧ a ≤ d.now) ∨
      (c = .latchedWakeHoldExpiry t ∧ d.power.wakeLatched.isSome = true ∧ ∃ a, d.power.wakeAt = some a ∧ a ≤ d.now))) ∨
  (c = .deviceWatchdogExpiry t ∧ d.alive = true ∧ cold = false ∧ cause = 10)

/-- The commands that reset the device: it counts the reset and holds its cause, the volatile state is cleared, time, the flash
and the journal are kept, the summit register and the fault log over a warm reset alone, and start-up begins unless something
holds the device in reset. -/
def Claims.ResetBegins : Prop :=
  ∀ (s : State) (t : Nat) (c : Instr) (cold : Bool) (cause : Nat), let d := s.dev.tick t
    Claims.resets d t c cold cause →
    s.gives c fun e =>
      (e.power.phase = .reset ∨ e.power.phase = .sequencing) ∧
      (e.power.phase = .sequencing ↔ e.power.nreset = false ∧ e.power.holdRail = false ∧ e.power.holdHeat = false) ∧
      e.power.porOut = true ∧ e.power.faultN = true ∧
      (d.startingUp = false → e.power.cold = cold ∧ e.power.cause = cause) ∧
      e.rn O.lifecycleBootCount = upTo O.lifecycleBootCount (d.rn O.lifecycleBootCount) ∧
      e.clock = d.clock ∧ e.sent = d.sent ∧ e.flash = d.flash ∧ e.dict.journal = d.dict.journal ∧
      e.dict.sessions = [] ∧ e.dict.events = [] ∧ e.heads = [] ∧ e.layers = [] ∧ e.ctxs = [] ∧ e.ingest = [] ∧ e.groups = [] ∧
      e.pitchStarted = false ∧
      (e.power.cold = true → e.witness.ring = [] ∧ e.health.log = []) ∧
      (e.power.cold = false → e.witness.ring = d.witness.ring ∧ e.health.log = d.health.log)

/-- What may hold or stop a reset or a wake without one: a release of NRESET, rails back in range and a device cooled down start
the device when nothing else holds it; a wake on the way to standby is latched; a mesh that fails once is noted; an NRESET in
standby is noted. -/
def Claims.HoldsReleased : Prop :=
  ∀ (s : State) (t : Nat), let d := s.dev.tick t
    let started (e : Dev) : Prop := e.power.phase = .sequencing ∧ e.power.releasedAt = d.now ∧ e = { d with power := e.power }
    (d.power.phase = .reset →
      (d.power.nreset = true → d.power.holdRail = false → d.power.holdHeat = false →
        s.gives (.nresetRelease t) fun e => e.power.nreset = false ∧ started e) ∧
      (d.power.holdRail = true → d.power.nreset = false → d.power.holdHeat = false →
        s.gives (.railsInRange t) fun e => e.power.holdRail = false ∧ started e) ∧
      (d.power.holdHeat = true → d.power.nreset = false → d.power.holdRail = false →
        s.gives (.thermalShutdownRelease t) fun e => e.power.holdHeat = false ∧ e.power.pwrReq = true ∧ started e)) ∧
    (d.power.phase = .stoppingHeads ∨ d.power.phase = .powerDown → d.power.wakeLatched = none →
      s.gives (.wakePin t) fun e => e = { d with power := { d.power with wakeLatched := some 1 } }) ∧
    (d.powered = true → ∀ mesh : Fin 2, tget 0 d.power.meshFails mesh = 0 → s.gives (.tamperMeshCheck t mesh false) fun e =>
      tget 0 e.power.meshFails mesh = 1 ∧ e = { d with power := { d.power with meshFails := e.power.meshFails } }) ∧
    (d.power.phase = .standby → s.gives (.nresetAssert t) fun e => e = { d with power := { d.power with nreset := true } })

/-- All of `Claims.ResetBegins`, `Claims.HoldsReleased`. -/
def Obligations.ResetsAndHolds : Prop :=
  Claims.ResetBegins ∧ Claims.HoldsReleased

/-- ROOT_PLL_LOCK with the pairing right: the clocks run, every channel is in training. MEMORY_TRAINING_DONE: with every channel
within its margins the memory is up; on a first failure training is repeated; a memory that is no configuration of the table
stops start-up. -/
def Claims.StartupTrains : Prop :=
  ∀ (s : State) (t : Nat) (chans : List ChanTrain) (ppr : List Nat), let d := s.dev.tick t
    (d.power.phase = .sequencing → ∀ flashOk, s.gives (.rootPllLock t true flashOk) fun e =>
      e.power.phase = .pllLocked ∧ e.rn O.clockRootLock = 1 ∧ (∀ ch < 16, e.rn O.chanState ch = 1) ∧
      e.clock = d.clock ∧ e.sent = d.sent ∧ e.heads = d.heads ∧ e.power.cause = d.power.cause) ∧
    (d.power.phase = .pllLocked →
      (configOk chans = true → d.power.trainFailed = [] →
        (chans.all marginsOk = true → s.gives (.memoryTrainingDone t chans ppr) fun e =>
          e.power.phase = .trained ∧ (∀ c ∈ chans, e.mem.density = c.density ∧ e.mem.ranks = c.ranks)) ∧
        (chans.all marginsOk = false → s.gives (.memoryTrainingDone t chans ppr) fun e =>
          e.power.phase = .pllLocked ∧ e.power.trainFailed ≠ [] ∧ e.bare = { d.bare with power := e.power })) ∧
      (configOk chans = false → s.gives (.memoryTrainingDone t chans ppr) fun e =>
        e.power.phase = .stopped ∧ e.power.stopCode = Code.memConfigInvalid ∧ e.rn O.resetLastStop = Code.memConfigInvalid ∧
        e.bare = { d.bare with power := e.power } ∧ d.regsJust [O.resetLastStop.key 0] e))

/-- STARTUP_WIPE_DONE: DRAM reads zero afterwards, but for the retained region over a warm reset; a first failure is tried again,
a second stops start-up. STANDBY_WIPE_DONE clears the same and takes the power request away; STANDBY_REACHED leaves no content. -/
def Obligations.MemoryWiped : Prop :=
  ∀ (s : State) (t us : Nat) (failed : List (Nat × Nat)), let d := s.dev.tick t
    let wiped (m : List Host.Cell) : Prop := (∀ a, a < 0x20000000 ∨ 0x24000000 ≤ a ∧ a < d.mem.presented → Memory.peek m a = 0) ∧
      ∀ a, 0x20000000 ≤ a → a < 0x24000000 → Memory.peek m a = Memory.peek s.dram a
    (d.power.phase = .trained →
      (∃ u, exec (.startupWipeDone t true us failed) s = .next u ∧ u.pending = s.pending ∧ u.dev.power.phase = .wiped ∧
        u.dev.power.wipeUs = us ∧ u.dev.power.lifePending = false ∧ (d.keepsRetained = true → wiped u.dram) ∧
        (d.keepsRetained = false → ∀ a, Memory.peek u.dram a = 0)) ∧
      (d.power.wipeTries = 0 → s.gives (.startupWipeDone t false us failed) fun e =>
        e = { d with power := { d.power with wipeTries := 1 } }) ∧
      (d.power.wipeTries ≠ 0 → s.gives (.startupWipeDone t false us failed) fun e =>
        e.power.phase = .stopped ∧ e.power.stopCode ≠ 0)) ∧
    (d.power.phase = .stoppingHeads → d.allHeads.all (fun h => !(d.hd h).started) = true →
      ∃ u, exec (.standbyWipeDone t) s = .next u ∧ u.pending = s.pending ∧ u.dev.power.phase = .powerDown ∧
        u.dev.power.pwrReq = false ∧ wiped u.dram ∧ u.dev = { d with power := u.dev.power }) ∧
    (d.power.phase = .powerDown →
      ∃ u, exec (.standbyReached t) s = .next u ∧ u.pending = s.pending ∧ u.dev.power.phase = .standby ∧
        (∀ a, Memory.peek u.dram a = 0) ∧ (d.power.wakeLatched.isSome = true → u.dev.power.wakeAt = some (d.now + 10000000)) ∧
        u.dev = { d with power := u.dev.power })

/-- IMAGES_VERIFIED: with a firmware image that verifies the masters are released in the role that twin.mode gives; without one
start-up stops. FIRMWARE_INIT_DONE: the dictionary is reachable and the device reports its wipe. -/
def Claims.StartupEnds : Prop :=
  ∀ (s : State) (t : Nat), let d := s.dev.tick t
    (d.power.phase = .wiped →
      (∀ p, d.pickImage 1 = some p → s.gives (.imagesVerified t true) fun e =>
        e.power.phase = .released ∧ e.power.porOut = false ∧ e.flash.fwInEffect = some (p.1, (imageOf p.2).version) ∧
        e.twin.role = (if e.rn O.twinMode = 0 then .alone else if e.rn O.twinMode = 2 then .anchor else .starting) ∧
        e.heads = d.heads ∧ e.chans = d.chans) ∧
      (d.pickImage 1 = none → s.gives (.imagesVerified t true) fun e =>
        e.power.phase = .stopped ∧ e.rn O.resetLastStop = Code.bootFwInvalid ∧ e.bare = { d.bare with power := e.power }) ∧
      s.gives (.imagesVerified t false) fun e =>
        e.power.phase = .stopped ∧ e.rn O.resetLastStop = Code.bootFwInvalid ∧ e.bare = { d.bare with power := e.power }) ∧
    (d.power.phase = .released → s.gives (.firmwareInitDone t) fun e =>
      e.power = { d.power with phase := .running, faultN := false, startCodes := [], stopCode := 0 } ∧
      e.rn O.resetLastStop = d.power.stopCode ∧ e.told Code.wipeDone 0 ∧ e.witness.kept = false ∧
      e.bare = { d.bare with power := e.power, witness := e.witness })

/-- All of `Claims.StartupTrains`, `Claims.StartupEnds`. -/
def Obligations.StartupRuns : Prop :=
  Claims.StartupTrains ∧ Claims.StartupEnds

/-- THERMAL_CROSSING and THROTTLE_STEP_TIMER: the hottest reading is published; at the warning limit the device warns once, at
the throttle limit it throttles, and after 1 s at it throttles further. -/
def Claims.ThermalActs : Prop :=
  ∀ (s : State) (t : Nat) (temp : Int) (c : Instr), let d := s.dev.tick t
    c = .thermalCrossing t temp ∨ c = .throttleStepTimer t temp → d.alive = true → d.evFree 2 = true →
    s.gives c fun e =>
      e.ri O.thermalTemp = temp ∧
      ((8 * d.rn O.thermalWarn : Int) ≤ temp → e.power.warned = true ∧ (d.power.warned = false → d.logs e Code.thermalWarn 0 0)) ∧
      (temp + 40 ≤ (8 * d.rn O.thermalWarn : Int) → e.power.warned = false) ∧
      ((8 * d.rn O.thermalThrottle : Int) ≤ temp → d.power.throttle = 0 → d.power.thSince = none →
        e.power.throttle = 1 ∧ d.logs e Code.thermalThrottle 0 0) ∧
      (∀ x, (8 * d.rn O.thermalThrottle : Int) ≤ temp → d.power.throttle = 1 → d.power.thSince = some x → x + sec ≤ d.now →
        e.power.throttle = 2) ∧
      e.power.phase = d.power.phase ∧ e.bare = { d.bare with power := e.power } ∧
      d.regsBut [O.thermalTemp.key 0, O.thermalSensors.key 0, O.thermalThrottledS.key 0] e

/-- ENERGY_PUBLISH with every sensor sound: the energy of the second is added to each subsystem's counter. DEBUG_UNLOCK_ATTEMPT:
a locked device reports it and does nothing else. -/
def Claims.EnergyAndDebug : Prop :=
  ∀ (s : State) (t : Nat) (energyNj work : List Nat), let d := s.dev.tick t
    d.alive = true →
    (s.gives (.energyPublish t energyNj work []) fun e =>
      (∀ k r, energyRows[k]? = some r → bit (d.rn O.energyValid) k = true → energyNj.getD k 0 % 1000 = 0 →
        d.rn r.1 + energyNj.getD k 0 / 1000 < 2 ^ 64 → e.rn r.1 = d.rn r.1 + energyNj.getD k 0 / 1000) ∧
      (∀ k r, energyRows[k]? = some r → bit (d.rn O.energyValid) k = false → e.rn r.1 = d.rn r.1) ∧
      e.bare = d.bare ∧ d.regsOf (O.energyTotalMw :: energyRows.flatMap fun r => r.1 :: r.2.toList) e) ∧
    (d.power.life ≠ 0 → d.mayRaise (Code.secDebugLocked * 65536) sec = true → d.evFree 1 = true →
      s.gives (.debugUnlockAttempt t) fun e => d.logs e Code.secDebugLocked 0 0 ∧ e.bare = d.bare ∧ d.regsBut [] e)

/-- All of `Claims.ThermalActs`, `Claims.EnergyAndDebug`. -/
def Obligations.HeatAndEnergy : Prop :=
  Claims.ThermalActs ∧ Claims.EnergyAndDebug
end

