-- ==== Sys2Proof/Laws/Memory.lean ====
section
/-! SUPPORT. Laws of DRAM: every memory operation keeps the canonical form; a read after a write gives the byte written, and a
write leaves every other byte alone. -/

namespace Sys2Proof.Machine

/-- A list above a bound is above every lower one. -/
theorem Memory.above_mono {lo lo' : Nat} {m : List Host.Cell} (h : lo' ≤ lo) (w : Memory.above lo m = true) :
    Memory.above lo' m = true := by
  cases m with
  | nil => rfl
  | cons c r =>
    simp only [Memory.above, Bool.and_eq_true, decide_eq_true_eq] at w ⊢
    exact ⟨⟨by omega, w.1.2⟩, w.2⟩

/-- A byte below the bound is blank. -/
theorem Memory.peek_below {lo a : Nat} {m : List Host.Cell} (h : a < lo) (w : Memory.above lo m = true) :
    Memory.peek m a = Memory.blank := by
  induction m generalizing lo with
  | nil => rfl
  | cons c r ih =>
    simp only [Memory.above, Bool.and_eq_true, decide_eq_true_eq] at w
    simp only [Memory.peek]
    rw [if_neg (by omega)]
    exact ih (by omega) w.2

/-- A write at or above the bound keeps the form. -/
theorem Memory.above_poke {lo a : Nat} {m : List Host.Cell} (b : Byte) (h : lo ≤ a) (w : Memory.above lo m = true) :
    Memory.above lo (Memory.poke m a b) = true := by
  induction m generalizing lo with
  | nil =>
    simp only [Memory.poke]
    split
    · rfl
    · simp [Memory.above, *]
  | cons c r ih =>
    have w' := w
    simp only [Memory.above, Bool.and_eq_true, decide_eq_true_eq] at w
    simp only [Memory.poke]
    split
    · split
      · exact w'
      · simp only [Memory.above, Bool.and_eq_true, decide_eq_true_eq, bne_iff_ne]
        exact ⟨⟨h, ‹_›⟩, ⟨by omega, by simpa using w.1.2⟩, w.2⟩
    · split
      · split
        · exact Memory.above_mono (by omega) w.2
        · simp only [Memory.above, Bool.and_eq_true, decide_eq_true_eq, bne_iff_ne]
          exact ⟨⟨h, ‹_›⟩, by subst a; exact w.2⟩
      · simp only [Memory.above, Bool.and_eq_true, decide_eq_true_eq]
        exact ⟨w.1, ih (by omega) w.2⟩

/-- Writing one byte keeps the canonical form. -/
theorem Memory.wf_poke {m : List Host.Cell} (a : Nat) (b : Byte) (w : Memory.wf m = true) : Memory.wf (Memory.poke m a b) = true :=
  Memory.above_poke b (Nat.zero_le a) w

/-- Writing bytes keeps the canonical form. -/
theorem Memory.wf_write {m : List Host.Cell} (a : Nat) (bs : Bytes) (w : Memory.wf m = true) :
    Memory.wf (Memory.write m a bs) = true := by
  induction bs generalizing m a with
  | nil => exact w
  | cons b r ih => exact ih (a + 1) (Memory.wf_poke a b w)

/-- Taking entries out keeps the form above a bound. -/
theorem Memory.above_filter (p : Host.Cell → Bool) {lo : Nat} {m : List Host.Cell} (w : Memory.above lo m = true) :
    Memory.above lo (m.filter p) = true := by
  induction m generalizing lo with
  | nil => rfl
  | cons c r ih =>
    simp only [Memory.above, Bool.and_eq_true, decide_eq_true_eq] at w
    simp only [List.filter]
    split
    · simp only [Memory.above, Bool.and_eq_true, decide_eq_true_eq]
      exact ⟨w.1, ih w.2⟩
    · exact Memory.above_mono (by omega) (ih w.2)

/-- Clearing a region keeps the canonical form. -/
theorem Memory.wf_clear {m : List Host.Cell} (lo hi : Nat) (w : Memory.wf m = true) : Memory.wf (Memory.clear m lo hi) = true :=
  Memory.above_filter _ w

/-- Memory with nothing listed is in its canonical form. -/
@[simp] theorem Memory.wf_nil : Memory.wf [] = true := rfl

/-- The memory of the state after reset is in its canonical form. -/
theorem Memory.wf_reset : Memory.wf State.reset.dram = true := rfl

/-- A read after a write to the same address gives the byte written. -/
theorem Memory.peek_poke_self {m : List Host.Cell} (a : Nat) (b : Byte) (w : Memory.wf m = true) :
    Memory.peek (Memory.poke m a b) a = b := by
  have gen : ∀ lo, Memory.above lo m = true → Memory.peek (Memory.poke m a b) a = b := by
    intro lo w
    induction m generalizing lo with
    | nil =>
      simp only [Memory.poke]
      split
      · simp [Memory.peek, *]
      · simp [Memory.peek]
    | cons c r ih =>
      have w' := w
      simp only [Memory.above, Bool.and_eq_true, decide_eq_true_eq] at w
      simp only [Memory.poke]
      split
      · split
        · rename_i h hb
          rw [hb]
          simp only [Memory.peek]
          rw [if_neg (by omega)]
          exact Memory.peek_below (lo := c.1 + 1) (by omega) w.2
        · simp [Memory.peek]
      · split
        · split
          · rename_i h hb
            rw [hb]
            exact Memory.peek_below (lo := c.1 + 1) (by omega) w.2
          · simp [Memory.peek]
        · simp only [Memory.peek]
          rw [if_neg (by omega)]
          exact ih (Memory.above_mono (Nat.zero_le _) w.2) _ w.2
  exact gen 0 w

/-- A write leaves every other byte alone. -/
theorem Memory.peek_poke_ne (m : List Host.Cell) {a x : Nat} (b : Byte) (h : x ≠ a) :
    Memory.peek (Memory.poke m a b) x = Memory.peek m x := by
  induction m with
  | nil =>
    simp only [Memory.poke]
    split
    · rfl
    · simp [Memory.peek, h.symm]
  | cons c r ih =>
    simp only [Memory.poke]
    split
    · split
      · rfl
      · simp [Memory.peek, h.symm]
    · split
      · rename_i h2
        split
        · simp only [Memory.peek]
          rw [if_neg (by omega)]
        · subst h2
          simp [Memory.peek, h.symm]
      · simp only [Memory.peek, ih]

/-- A write of bytes leaves every byte outside them alone. -/
theorem Memory.peek_write_outside (m : List Host.Cell) (bs : Bytes) {a x : Nat} (h : x < a ∨ a + bs.length ≤ x) :
    Memory.peek (Memory.write m a bs) x = Memory.peek m x := by
  induction bs generalizing m a with
  | nil => rfl
  | cons b r ih =>
    simp only [List.length_cons] at h
    simp only [Memory.write]
    rw [ih (Memory.poke m a b) (by omega), Memory.peek_poke_ne m b (by omega)]

/-- A byte of a write reads as written. -/
theorem Memory.peek_write_inside {m : List Host.Cell} (bs : Bytes) {a i : Nat} (w : Memory.wf m = true) (h : i < bs.length) :
    Memory.peek (Memory.write m a bs) (a + i) = bs.getD i 0 := by
  induction bs generalizing m a i with
  | nil => simp at h
  | cons b r ih =>
    simp only [Memory.write]
    cases i with
    | zero =>
      rw [Memory.peek_write_outside _ r (Or.inl (by omega))]
      exact Memory.peek_poke_self a b w
    | succ j =>
      have e : a + (j + 1) = a + 1 + j := by omega
      rw [e, ih (Memory.wf_poke a b w) (by simpa using h)]
      rfl

/-- A byte of a cleared region reads as blank; the others as before. -/
theorem Memory.peek_clear (m : List Host.Cell) (lo hi a : Nat) :
    Memory.peek (Memory.clear m lo hi) a = if lo ≤ a ∧ a < hi then Memory.blank else Memory.peek m a := by
  induction m with
  | nil => simp [Memory.clear, Memory.peek]
  | cons c r ih =>
    simp only [Memory.clear] at ih
    simp only [Memory.clear, List.filter]
    split
    · rename_i hc
      simp only [Bool.not_eq_true', Bool.and_eq_false_iff, decide_eq_false_iff_not] at hc
      simp only [Memory.peek, ih]
      by_cases hk : c.1 = a
      · rw [if_pos hk, if_neg (by omega)]; simp [hk]
      · simp [hk]
    · rename_i hc
      simp only [Bool.not_eq_false', Bool.and_eq_true, decide_eq_true_eq] at hc
      simp only [Memory.peek, ih]
      by_cases hk : c.1 = a
      · rw [if_pos (by omega), if_pos (by omega)]
      · simp [hk]

end Sys2Proof.Machine
end

