-- ==== Sys2Proof/Laws/Table.lean ====
section
/-! SUPPORT. Laws of sparse tables: what a lookup finds after an update. -/

namespace Sys2Proof.Machine

variable {α : Type}

/-- A lookup of the number just set. -/
@[simp] theorem tfind_tset_self (t : List (Nat × α)) (k : Nat) (v : α) : tfind (tset t k v) k = some v := by
  induction t with
  | nil => simp [tset, tfind]
  | cons p r ih =>
    obtain ⟨k', v'⟩ := p
    simp only [tset]
    split
    · simp [tfind]
    · split
      · simp [tfind]
      · rename_i h1 h2
        simp only [tfind]
        rw [if_neg (fun h => h2 h.symm), ih]

/-- A lookup of another number. -/
theorem tfind_tset_ne (t : List (Nat × α)) {k j : Nat} (v : α) (h : j ≠ k) : tfind (tset t k v) j = tfind t j := by
  induction t with
  | nil => simp [tset, tfind, h.symm]
  | cons p r ih =>
    obtain ⟨k', v'⟩ := p
    simp only [tset]
    split
    · simp [tfind, h.symm]
    · split
      · rename_i h1 h2
        subst h2
        simp [tfind, h.symm]
      · simp only [tfind, ih]

/-- The record just set. -/
@[simp] theorem tget_tset_self (d : α) (t : List (Nat × α)) (k : Nat) (v : α) : tget d (tset t k v) k = v := by
  simp [tget]

/-- The record of another number. -/
theorem tget_tset_ne (d : α) (t : List (Nat × α)) {k j : Nat} (v : α) (h : j ≠ k) :
    tget d (tset t k v) j = tget d t j := by
  simp [tget, tfind_tset_ne t v h]

/-- A number that is taken out is not found. -/
@[simp] theorem tfind_tdel_self (t : List (Nat × α)) (k : Nat) : tfind (tdel t k) k = none := by
  induction t with
  | nil => rfl
  | cons p r ih =>
    obtain ⟨k', v'⟩ := p
    simp only [tdel]
    split
    · exact ih
    · rename_i h
      simp [tfind, h, ih]

end Sys2Proof.Machine
end

