-- ==== Sys2Proof/Laws/State.lean ====
section
/-! SUPPORT. Laws of State: what each update of the device leaves as it was, field by field, and what a unit reads after its own
update. All hold by definition. -/

namespace Sys2Proof.Machine

/-! ### Dev.modHd -/

@[simp] theorem Dev.modHd_clock (d : Dev) (h : Nat) (f : Head → Head) : (d.modHd h f).clock = d.clock := rfl
@[simp] theorem Dev.modHd_freeCtr (d : Dev) (h : Nat) (f : Head → Head) : (d.modHd h f).freeCtr = d.freeCtr := rfl
@[simp] theorem Dev.modHd_sent (d : Dev) (h : Nat) (f : Head → Head) : (d.modHd h f).sent = d.sent := rfl
@[simp] theorem Dev.modHd_dict (d : Dev) (h : Nat) (f : Head → Head) : (d.modHd h f).dict = d.dict := rfl
@[simp] theorem Dev.modHd_ports (d : Dev) (h : Nat) (f : Head → Head) : (d.modHd h f).ports = d.ports := rfl
@[simp] theorem Dev.modHd_rings (d : Dev) (h : Nat) (f : Head → Head) : (d.modHd h f).rings = d.rings := rfl
@[simp] theorem Dev.modHd_ingest (d : Dev) (h : Nat) (f : Head → Head) : (d.modHd h f).ingest = d.ingest := rfl
@[simp] theorem Dev.modHd_rtsp (d : Dev) (h : Nat) (f : Head → Head) : (d.modHd h f).rtsp = d.rtsp := rfl
@[simp] theorem Dev.modHd_time (d : Dev) (h : Nat) (f : Head → Head) : (d.modHd h f).time = d.time := rfl
@[simp] theorem Dev.modHd_triggers (d : Dev) (h : Nat) (f : Head → Head) : (d.modHd h f).triggers = d.triggers := rfl
@[simp] theorem Dev.modHd_ctxs (d : Dev) (h : Nat) (f : Head → Head) : (d.modHd h f).ctxs = d.ctxs := rfl
@[simp] theorem Dev.modHd_engines (d : Dev) (h : Nat) (f : Head → Head) : (d.modHd h f).engines = d.engines := rfl
@[simp] theorem Dev.modHd_groups (d : Dev) (h : Nat) (f : Head → Head) : (d.modHd h f).groups = d.groups := rfl
@[simp] theorem Dev.modHd_shadow (d : Dev) (h : Nat) (f : Head → Head) : (d.modHd h f).shadow = d.shadow := rfl
@[simp] theorem Dev.modHd_activeT (d : Dev) (h : Nat) (f : Head → Head) : (d.modHd h f).activeT = d.activeT := rfl
@[simp] theorem Dev.modHd_layers (d : Dev) (h : Nat) (f : Head → Head) : (d.modHd h f).layers = d.layers := rfl
@[simp] theorem Dev.modHd_slots (d : Dev) (h : Nat) (f : Head → Head) : (d.modHd h f).slots = d.slots := rfl
@[simp] theorem Dev.modHd_pipes (d : Dev) (h : Nat) (f : Head → Head) : (d.modHd h f).pipes = d.pipes := rfl
@[simp] theorem Dev.modHd_bivouac (d : Dev) (h : Nat) (f : Head → Head) : (d.modHd h f).bivouac = d.bivouac := rfl
@[simp] theorem Dev.modHd_pitch (d : Dev) (h : Nat) (f : Head → Head) : (d.modHd h f).pitch = d.pitch := rfl
@[simp] theorem Dev.modHd_pitchStarted (d : Dev) (h : Nat) (f : Head → Head) : (d.modHd h f).pitchStarted = d.pitchStarted := rfl
@[simp] theorem Dev.modHd_pitchAt (d : Dev) (h : Nat) (f : Head → Head) : (d.modHd h f).pitchAt = d.pitchAt := rfl
@[simp] theorem Dev.modHd_links (d : Dev) (h : Nat) (f : Head → Head) : (d.modHd h f).links = d.links := rfl
@[simp] theorem Dev.modHd_lanes (d : Dev) (h : Nat) (f : Head → Head) : (d.modHd h f).lanes = d.lanes := rfl
@[simp] theorem Dev.modHd_rope (d : Dev) (h : Nat) (f : Head → Head) : (d.modHd h f).rope = d.rope := rfl
@[simp] theorem Dev.modHd_enc (d : Dev) (h : Nat) (f : Head → Head) : (d.modHd h f).enc = d.enc := rfl
@[simp] theorem Dev.modHd_encEngines (d : Dev) (h : Nat) (f : Head → Head) : (d.modHd h f).encEngines = d.encEngines := rfl
@[simp] theorem Dev.modHd_panels (d : Dev) (h : Nat) (f : Head → Head) : (d.modHd h f).panels = d.panels := rfl
@[simp] theorem Dev.modHd_touch (d : Dev) (h : Nat) (f : Head → Head) : (d.modHd h f).touch = d.touch := rfl
@[simp] theorem Dev.modHd_mem (d : Dev) (h : Nat) (f : Head → Head) : (d.modHd h f).mem = d.mem := rfl
@[simp] theorem Dev.modHd_chans (d : Dev) (h : Nat) (f : Head → Head) : (d.modHd h f).chans = d.chans := rfl
@[simp] theorem Dev.modHd_canPorts (d : Dev) (h : Nat) (f : Head → Head) : (d.modHd h f).canPorts = d.canPorts := rfl
@[simp] theorem Dev.modHd_procs (d : Dev) (h : Nat) (f : Head → Head) : (d.modHd h f).procs = d.procs := rfl
@[simp] theorem Dev.modHd_mbx (d : Dev) (h : Nat) (f : Head → Head) : (d.modHd h f).mbx = d.mbx := rfl
@[simp] theorem Dev.modHd_prots (d : Dev) (h : Nat) (f : Head → Head) : (d.modHd h f).prots = d.prots := rfl
@[simp] theorem Dev.modHd_cvus (d : Dev) (h : Nat) (f : Head → Head) : (d.modHd h f).cvus = d.cvus := rfl
@[simp] theorem Dev.modHd_witness (d : Dev) (h : Nat) (f : Head → Head) : (d.modHd h f).witness = d.witness := rfl
@[simp] theorem Dev.modHd_twin (d : Dev) (h : Nat) (f : Head → Head) : (d.modHd h f).twin = d.twin := rfl
@[simp] theorem Dev.modHd_anchor (d : Dev) (h : Nat) (f : Head → Head) : (d.modHd h f).anchor = d.anchor := rfl
@[simp] theorem Dev.modHd_health (d : Dev) (h : Nat) (f : Head → Head) : (d.modHd h f).health = d.health := rfl
@[simp] theorem Dev.modHd_flash (d : Dev) (h : Nat) (f : Head → Head) : (d.modHd h f).flash = d.flash := rfl
@[simp] theorem Dev.modHd_config (d : Dev) (h : Nat) (f : Head → Head) : (d.modHd h f).config = d.config := rfl
@[simp] theorem Dev.modHd_power (d : Dev) (h : Nat) (f : Head → Head) : (d.modHd h f).power = d.power := rfl
@[simp] theorem Dev.hd_modHd (d : Dev) (h : Nat) (f : Head → Head) : (d.modHd h f).hd h = f (d.hd h) := by simp [Dev.modHd, Dev.hd]
theorem Dev.hd_modHd_ne (d : Dev) {h j : Nat} (f : Head → Head) (hj : j ≠ h) : (d.modHd h f).hd j = d.hd j := by
  simp [Dev.modHd, Dev.hd, tget_tset_ne _ _ _ hj]

/-! ### Dev.modLy -/

@[simp] theorem Dev.modLy_clock (d : Dev) (h : Nat) (f : Layer → Layer) : (d.modLy h f).clock = d.clock := rfl
@[simp] theorem Dev.modLy_freeCtr (d : Dev) (h : Nat) (f : Layer → Layer) : (d.modLy h f).freeCtr = d.freeCtr := rfl
@[simp] theorem Dev.modLy_sent (d : Dev) (h : Nat) (f : Layer → Layer) : (d.modLy h f).sent = d.sent := rfl
@[simp] theorem Dev.modLy_dict (d : Dev) (h : Nat) (f : Layer → Layer) : (d.modLy h f).dict = d.dict := rfl
@[simp] theorem Dev.modLy_ports (d : Dev) (h : Nat) (f : Layer → Layer) : (d.modLy h f).ports = d.ports := rfl
@[simp] theorem Dev.modLy_rings (d : Dev) (h : Nat) (f : Layer → Layer) : (d.modLy h f).rings = d.rings := rfl
@[simp] theorem Dev.modLy_ingest (d : Dev) (h : Nat) (f : Layer → Layer) : (d.modLy h f).ingest = d.ingest := rfl
@[simp] theorem Dev.modLy_rtsp (d : Dev) (h : Nat) (f : Layer → Layer) : (d.modLy h f).rtsp = d.rtsp := rfl
@[simp] theorem Dev.modLy_time (d : Dev) (h : Nat) (f : Layer → Layer) : (d.modLy h f).time = d.time := rfl
@[simp] theorem Dev.modLy_triggers (d : Dev) (h : Nat) (f : Layer → Layer) : (d.modLy h f).triggers = d.triggers := rfl
@[simp] theorem Dev.modLy_ctxs (d : Dev) (h : Nat) (f : Layer → Layer) : (d.modLy h f).ctxs = d.ctxs := rfl
@[simp] theorem Dev.modLy_engines (d : Dev) (h : Nat) (f : Layer → Layer) : (d.modLy h f).engines = d.engines := rfl
@[simp] theorem Dev.modLy_groups (d : Dev) (h : Nat) (f : Layer → Layer) : (d.modLy h f).groups = d.groups := rfl
@[simp] theorem Dev.modLy_shadow (d : Dev) (h : Nat) (f : Layer → Layer) : (d.modLy h f).shadow = d.shadow := rfl
@[simp] theorem Dev.modLy_activeT (d : Dev) (h : Nat) (f : Layer → Layer) : (d.modLy h f).activeT = d.activeT := rfl
@[simp] theorem Dev.modLy_slots (d : Dev) (h : Nat) (f : Layer → Layer) : (d.modLy h f).slots = d.slots := rfl
@[simp] theorem Dev.modLy_heads (d : Dev) (h : Nat) (f : Layer → Layer) : (d.modLy h f).heads = d.heads := rfl
@[simp] theorem Dev.modLy_pipes (d : Dev) (h : Nat) (f : Layer → Layer) : (d.modLy h f).pipes = d.pipes := rfl
@[simp] theorem Dev.modLy_bivouac (d : Dev) (h : Nat) (f : Layer → Layer) : (d.modLy h f).bivouac = d.bivouac := rfl
@[simp] theorem Dev.modLy_pitch (d : Dev) (h : Nat) (f : Layer → Layer) : (d.modLy h f).pitch = d.pitch := rfl
@[simp] theorem Dev.modLy_pitchStarted (d : Dev) (h : Nat) (f : Layer → Layer) : (d.modLy h f).pitchStarted = d.pitchStarted := rfl
@[simp] theorem Dev.modLy_pitchAt (d : Dev) (h : Nat) (f : Layer → Layer) : (d.modLy h f).pitchAt = d.pitchAt := rfl
@[simp] theorem Dev.modLy_links (d : Dev) (h : Nat) (f : Layer → Layer) : (d.modLy h f).links = d.links := rfl
@[simp] theorem Dev.modLy_lanes (d : Dev) (h : Nat) (f : Layer → Layer) : (d.modLy h f).lanes = d.lanes := rfl
@[simp] theorem Dev.modLy_rope (d : Dev) (h : Nat) (f : Layer → Layer) : (d.modLy h f).rope = d.rope := rfl
@[simp] theorem Dev.modLy_enc (d : Dev) (h : Nat) (f : Layer → Layer) : (d.modLy h f).enc = d.enc := rfl
@[simp] theorem Dev.modLy_encEngines (d : Dev) (h : Nat) (f : Layer → Layer) : (d.modLy h f).encEngines = d.encEngines := rfl
@[simp] theorem Dev.modLy_panels (d : Dev) (h : Nat) (f : Layer → Layer) : (d.modLy h f).panels = d.panels := rfl
@[simp] theorem Dev.modLy_touch (d : Dev) (h : Nat) (f : Layer → Layer) : (d.modLy h f).touch = d.touch := rfl
@[simp] theorem Dev.modLy_mem (d : Dev) (h : Nat) (f : Layer → Layer) : (d.modLy h f).mem = d.mem := rfl
@[simp] theorem Dev.modLy_chans (d : Dev) (h : Nat) (f : Layer → Layer) : (d.modLy h f).chans = d.chans := rfl
@[simp] theorem Dev.modLy_canPorts (d : Dev) (h : Nat) (f : Layer → Layer) : (d.modLy h f).canPorts = d.canPorts := rfl
@[simp] theorem Dev.modLy_procs (d : Dev) (h : Nat) (f : Layer → Layer) : (d.modLy h f).procs = d.procs := rfl
@[simp] theorem Dev.modLy_mbx (d : Dev) (h : Nat) (f : Layer → Layer) : (d.modLy h f).mbx = d.mbx := rfl
@[simp] theorem Dev.modLy_prots (d : Dev) (h : Nat) (f : Layer → Layer) : (d.modLy h f).prots = d.prots := rfl
@[simp] theorem Dev.modLy_cvus (d : Dev) (h : Nat) (f : Layer → Layer) : (d.modLy h f).cvus = d.cvus := rfl
@[simp] theorem Dev.modLy_witness (d : Dev) (h : Nat) (f : Layer → Layer) : (d.modLy h f).witness = d.witness := rfl
@[simp] theorem Dev.modLy_twin (d : Dev) (h : Nat) (f : Layer → Layer) : (d.modLy h f).twin = d.twin := rfl
@[simp] theorem Dev.modLy_anchor (d : Dev) (h : Nat) (f : Layer → Layer) : (d.modLy h f).anchor = d.anchor := rfl
@[simp] theorem Dev.modLy_health (d : Dev) (h : Nat) (f : Layer → Layer) : (d.modLy h f).health = d.health := rfl
@[simp] theorem Dev.modLy_flash (d : Dev) (h : Nat) (f : Layer → Layer) : (d.modLy h f).flash = d.flash := rfl
@[simp] theorem Dev.modLy_config (d : Dev) (h : Nat) (f : Layer → Layer) : (d.modLy h f).config = d.config := rfl
@[simp] theorem Dev.modLy_power (d : Dev) (h : Nat) (f : Layer → Layer) : (d.modLy h f).power = d.power := rfl
@[simp] theorem Dev.ly_modLy (d : Dev) (h : Nat) (f : Layer → Layer) : (d.modLy h f).ly h = f (d.ly h) := by simp [Dev.modLy, Dev.ly]
theorem Dev.ly_modLy_ne (d : Dev) {h j : Nat} (f : Layer → Layer) (hj : j ≠ h) : (d.modLy h f).ly j = d.ly j := by
  simp [Dev.modLy, Dev.ly, tget_tset_ne _ _ _ hj]

/-! ### Dev.modPp -/

@[simp] theorem Dev.modPp_clock (d : Dev) (h : Nat) (f : Pipe → Pipe) : (d.modPp h f).clock = d.clock := rfl
@[simp] theorem Dev.modPp_freeCtr (d : Dev) (h : Nat) (f : Pipe → Pipe) : (d.modPp h f).freeCtr = d.freeCtr := rfl
@[simp] theorem Dev.modPp_sent (d : Dev) (h : Nat) (f : Pipe → Pipe) : (d.modPp h f).sent = d.sent := rfl
@[simp] theorem Dev.modPp_dict (d : Dev) (h : Nat) (f : Pipe → Pipe) : (d.modPp h f).dict = d.dict := rfl
@[simp] theorem Dev.modPp_ports (d : Dev) (h : Nat) (f : Pipe → Pipe) : (d.modPp h f).ports = d.ports := rfl
@[simp] theorem Dev.modPp_rings (d : Dev) (h : Nat) (f : Pipe → Pipe) : (d.modPp h f).rings = d.rings := rfl
@[simp] theorem Dev.modPp_ingest (d : Dev) (h : Nat) (f : Pipe → Pipe) : (d.modPp h f).ingest = d.ingest := rfl
@[simp] theorem Dev.modPp_rtsp (d : Dev) (h : Nat) (f : Pipe → Pipe) : (d.modPp h f).rtsp = d.rtsp := rfl
@[simp] theorem Dev.modPp_time (d : Dev) (h : Nat) (f : Pipe → Pipe) : (d.modPp h f).time = d.time := rfl
@[simp] theorem Dev.modPp_triggers (d : Dev) (h : Nat) (f : Pipe → Pipe) : (d.modPp h f).triggers = d.triggers := rfl
@[simp] theorem Dev.modPp_ctxs (d : Dev) (h : Nat) (f : Pipe → Pipe) : (d.modPp h f).ctxs = d.ctxs := rfl
@[simp] theorem Dev.modPp_engines (d : Dev) (h : Nat) (f : Pipe → Pipe) : (d.modPp h f).engines = d.engines := rfl
@[simp] theorem Dev.modPp_groups (d : Dev) (h : Nat) (f : Pipe → Pipe) : (d.modPp h f).groups = d.groups := rfl
@[simp] theorem Dev.modPp_shadow (d : Dev) (h : Nat) (f : Pipe → Pipe) : (d.modPp h f).shadow = d.shadow := rfl
@[simp] theorem Dev.modPp_activeT (d : Dev) (h : Nat) (f : Pipe → Pipe) : (d.modPp h f).activeT = d.activeT := rfl
@[simp] theorem Dev.modPp_layers (d : Dev) (h : Nat) (f : Pipe → Pipe) : (d.modPp h f).layers = d.layers := rfl
@[simp] theorem Dev.modPp_slots (d : Dev) (h : Nat) (f : Pipe → Pipe) : (d.modPp h f).slots = d.slots := rfl
@[simp] theorem Dev.modPp_heads (d : Dev) (h : Nat) (f : Pipe → Pipe) : (d.modPp h f).heads = d.heads := rfl
@[simp] theorem Dev.modPp_bivouac (d : Dev) (h : Nat) (f : Pipe → Pipe) : (d.modPp h f).bivouac = d.bivouac := rfl
@[simp] theorem Dev.modPp_pitch (d : Dev) (h : Nat) (f : Pipe → Pipe) : (d.modPp h f).pitch = d.pitch := rfl
@[simp] theorem Dev.modPp_pitchStarted (d : Dev) (h : Nat) (f : Pipe → Pipe) : (d.modPp h f).pitchStarted = d.pitchStarted := rfl
@[simp] theorem Dev.modPp_pitchAt (d : Dev) (h : Nat) (f : Pipe → Pipe) : (d.modPp h f).pitchAt = d.pitchAt := rfl
@[simp] theorem Dev.modPp_links (d : Dev) (h : Nat) (f : Pipe → Pipe) : (d.modPp h f).links = d.links := rfl
@[simp] theorem Dev.modPp_lanes (d : Dev) (h : Nat) (f : Pipe → Pipe) : (d.modPp h f).lanes = d.lanes := rfl
@[simp] theorem Dev.modPp_rope (d : Dev) (h : Nat) (f : Pipe → Pipe) : (d.modPp h f).rope = d.rope := rfl
@[simp] theorem Dev.modPp_enc (d : Dev) (h : Nat) (f : Pipe → Pipe) : (d.modPp h f).enc = d.enc := rfl
@[simp] theorem Dev.modPp_encEngines (d : Dev) (h : Nat) (f : Pipe → Pipe) : (d.modPp h f).encEngines = d.encEngines := rfl
@[simp] theorem Dev.modPp_panels (d : Dev) (h : Nat) (f : Pipe → Pipe) : (d.modPp h f).panels = d.panels := rfl
@[simp] theorem Dev.modPp_touch (d : Dev) (h : Nat) (f : Pipe → Pipe) : (d.modPp h f).touch = d.touch := rfl
@[simp] theorem Dev.modPp_mem (d : Dev) (h : Nat) (f : Pipe → Pipe) : (d.modPp h f).mem = d.mem := rfl
@[simp] theorem Dev.modPp_chans (d : Dev) (h : Nat) (f : Pipe → Pipe) : (d.modPp h f).chans = d.chans := rfl
@[simp] theorem Dev.modPp_canPorts (d : Dev) (h : Nat) (f : Pipe → Pipe) : (d.modPp h f).canPorts = d.canPorts := rfl
@[simp] theorem Dev.modPp_procs (d : Dev) (h : Nat) (f : Pipe → Pipe) : (d.modPp h f).procs = d.procs := rfl
@[simp] theorem Dev.modPp_mbx (d : Dev) (h : Nat) (f : Pipe → Pipe) : (d.modPp h f).mbx = d.mbx := rfl
@[simp] theorem Dev.modPp_prots (d : Dev) (h : Nat) (f : Pipe → Pipe) : (d.modPp h f).prots = d.prots := rfl
@[simp] theorem Dev.modPp_cvus (d : Dev) (h : Nat) (f : Pipe → Pipe) : (d.modPp h f).cvus = d.cvus := rfl
@[simp] theorem Dev.modPp_witness (d : Dev) (h : Nat) (f : Pipe → Pipe) : (d.modPp h f).witness = d.witness := rfl
@[simp] theorem Dev.modPp_twin (d : Dev) (h : Nat) (f : Pipe → Pipe) : (d.modPp h f).twin = d.twin := rfl
@[simp] theorem Dev.modPp_anchor (d : Dev) (h : Nat) (f : Pipe → Pipe) : (d.modPp h f).anchor = d.anchor := rfl
@[simp] theorem Dev.modPp_health (d : Dev) (h : Nat) (f : Pipe → Pipe) : (d.modPp h f).health = d.health := rfl
@[simp] theorem Dev.modPp_flash (d : Dev) (h : Nat) (f : Pipe → Pipe) : (d.modPp h f).flash = d.flash := rfl
@[simp] theorem Dev.modPp_config (d : Dev) (h : Nat) (f : Pipe → Pipe) : (d.modPp h f).config = d.config := rfl
@[simp] theorem Dev.modPp_power (d : Dev) (h : Nat) (f : Pipe → Pipe) : (d.modPp h f).power = d.power := rfl
@[simp] theorem Dev.pp_modPp (d : Dev) (h : Nat) (f : Pipe → Pipe) : (d.modPp h f).pp h = f (d.pp h) := by simp [Dev.modPp, Dev.pp]
theorem Dev.pp_modPp_ne (d : Dev) {h j : Nat} (f : Pipe → Pipe) (hj : j ≠ h) : (d.modPp h f).pp j = d.pp j := by
  simp [Dev.modPp, Dev.pp, tget_tset_ne _ _ _ hj]

/-! ### Dev.modIng -/

@[simp] theorem Dev.modIng_clock (d : Dev) (h : Nat) (f : Ingest → Ingest) : (d.modIng h f).clock = d.clock := rfl
@[simp] theorem Dev.modIng_freeCtr (d : Dev) (h : Nat) (f : Ingest → Ingest) : (d.modIng h f).freeCtr = d.freeCtr := rfl
@[simp] theorem Dev.modIng_sent (d : Dev) (h : Nat) (f : Ingest → Ingest) : (d.modIng h f).sent = d.sent := rfl
@[simp] theorem Dev.modIng_dict (d : Dev) (h : Nat) (f : Ingest → Ingest) : (d.modIng h f).dict = d.dict := rfl
@[simp] theorem Dev.modIng_ports (d : Dev) (h : Nat) (f : Ingest → Ingest) : (d.modIng h f).ports = d.ports := rfl
@[simp] theorem Dev.modIng_rings (d : Dev) (h : Nat) (f : Ingest → Ingest) : (d.modIng h f).rings = d.rings := rfl
@[simp] theorem Dev.modIng_rtsp (d : Dev) (h : Nat) (f : Ingest → Ingest) : (d.modIng h f).rtsp = d.rtsp := rfl
@[simp] theorem Dev.modIng_time (d : Dev) (h : Nat) (f : Ingest → Ingest) : (d.modIng h f).time = d.time := rfl
@[simp] theorem Dev.modIng_triggers (d : Dev) (h : Nat) (f : Ingest → Ingest) : (d.modIng h f).triggers = d.triggers := rfl
@[simp] theorem Dev.modIng_ctxs (d : Dev) (h : Nat) (f : Ingest → Ingest) : (d.modIng h f).ctxs = d.ctxs := rfl
@[simp] theorem Dev.modIng_engines (d : Dev) (h : Nat) (f : Ingest → Ingest) : (d.modIng h f).engines = d.engines := rfl
@[simp] theorem Dev.modIng_groups (d : Dev) (h : Nat) (f : Ingest → Ingest) : (d.modIng h f).groups = d.groups := rfl
@[simp] theorem Dev.modIng_shadow (d : Dev) (h : Nat) (f : Ingest → Ingest) : (d.modIng h f).shadow = d.shadow := rfl
@[simp] theorem Dev.modIng_activeT (d : Dev) (h : Nat) (f : Ingest → Ingest) : (d.modIng h f).activeT = d.activeT := rfl
@[simp] theorem Dev.modIng_layers (d : Dev) (h : Nat) (f : Ingest → Ingest) : (d.modIng h f).layers = d.layers := rfl
@[simp] theorem Dev.modIng_slots (d : Dev) (h : Nat) (f : Ingest → Ingest) : (d.modIng h f).slots = d.slots := rfl
@[simp] theorem Dev.modIng_heads (d : Dev) (h : Nat) (f : Ingest → Ingest) : (d.modIng h f).heads = d.heads := rfl
@[simp] theorem Dev.modIng_pipes (d : Dev) (h : Nat) (f : Ingest → Ingest) : (d.modIng h f).pipes = d.pipes := rfl
@[simp] theorem Dev.modIng_bivouac (d : Dev) (h : Nat) (f : Ingest → Ingest) : (d.modIng h f).bivouac = d.bivouac := rfl
@[simp] theorem Dev.modIng_pitch (d : Dev) (h : Nat) (f : Ingest → Ingest) : (d.modIng h f).pitch = d.pitch := rfl
@[simp] theorem Dev.modIng_pitchStarted (d : Dev) (h : Nat) (f : Ingest → Ingest) : (d.modIng h f).pitchStarted = d.pitchStarted := rfl
@[simp] theorem Dev.modIng_pitchAt (d : Dev) (h : Nat) (f : Ingest → Ingest) : (d.modIng h f).pitchAt = d.pitchAt := rfl
@[simp] theorem Dev.modIng_links (d : Dev) (h : Nat) (f : Ingest → Ingest) : (d.modIng h f).links = d.links := rfl
@[simp] theorem Dev.modIng_lanes (d : Dev) (h : Nat) (f : Ingest → Ingest) : (d.modIng h f).lanes = d.lanes := rfl
@[simp] theorem Dev.modIng_rope (d : Dev) (h : Nat) (f : Ingest → Ingest) : (d.modIng h f).rope = d.rope := rfl
@[simp] theorem Dev.modIng_enc (d : Dev) (h : Nat) (f : Ingest → Ingest) : (d.modIng h f).enc = d.enc := rfl
@[simp] theorem Dev.modIng_encEngines (d : Dev) (h : Nat) (f : Ingest → Ingest) : (d.modIng h f).encEngines = d.encEngines := rfl
@[simp] theorem Dev.modIng_panels (d : Dev) (h : Nat) (f : Ingest → Ingest) : (d.modIng h f).panels = d.panels := rfl
@[simp] theorem Dev.modIng_touch (d : Dev) (h : Nat) (f : Ingest → Ingest) : (d.modIng h f).touch = d.touch := rfl
@[simp] theorem Dev.modIng_mem (d : Dev) (h : Nat) (f : Ingest → Ingest) : (d.modIng h f).mem = d.mem := rfl
@[simp] theorem Dev.modIng_chans (d : Dev) (h : Nat) (f : Ingest → Ingest) : (d.modIng h f).chans = d.chans := rfl
@[simp] theorem Dev.modIng_canPorts (d : Dev) (h : Nat) (f : Ingest → Ingest) : (d.modIng h f).canPorts = d.canPorts := rfl
@[simp] theorem Dev.modIng_procs (d : Dev) (h : Nat) (f : Ingest → Ingest) : (d.modIng h f).procs = d.procs := rfl
@[simp] theorem Dev.modIng_mbx (d : Dev) (h : Nat) (f : Ingest → Ingest) : (d.modIng h f).mbx = d.mbx := rfl
@[simp] theorem Dev.modIng_prots (d : Dev) (h : Nat) (f : Ingest → Ingest) : (d.modIng h f).prots = d.prots := rfl
@[simp] theorem Dev.modIng_cvus (d : Dev) (h : Nat) (f : Ingest → Ingest) : (d.modIng h f).cvus = d.cvus := rfl
@[simp] theorem Dev.modIng_witness (d : Dev) (h : Nat) (f : Ingest → Ingest) : (d.modIng h f).witness = d.witness := rfl
@[simp] theorem Dev.modIng_twin (d : Dev) (h : Nat) (f : Ingest → Ingest) : (d.modIng h f).twin = d.twin := rfl
@[simp] theorem Dev.modIng_anchor (d : Dev) (h : Nat) (f : Ingest → Ingest) : (d.modIng h f).anchor = d.anchor := rfl
@[simp] theorem Dev.modIng_health (d : Dev) (h : Nat) (f : Ingest → Ingest) : (d.modIng h f).health = d.health := rfl
@[simp] theorem Dev.modIng_flash (d : Dev) (h : Nat) (f : Ingest → Ingest) : (d.modIng h f).flash = d.flash := rfl
@[simp] theorem Dev.modIng_config (d : Dev) (h : Nat) (f : Ingest → Ingest) : (d.modIng h f).config = d.config := rfl
@[simp] theorem Dev.modIng_power (d : Dev) (h : Nat) (f : Ingest → Ingest) : (d.modIng h f).power = d.power := rfl
@[simp] theorem Dev.ing_modIng (d : Dev) (h : Nat) (f : Ingest → Ingest) : (d.modIng h f).ing h = f (d.ing h) := by simp [Dev.modIng, Dev.ing]
theorem Dev.ing_modIng_ne (d : Dev) {h j : Nat} (f : Ingest → Ingest) (hj : j ≠ h) : (d.modIng h f).ing j = d.ing j := by
  simp [Dev.modIng, Dev.ing, tget_tset_ne _ _ _ hj]

/-! ### Dev.modCx -/

@[simp] theorem Dev.modCx_clock (d : Dev) (h : Nat) (f : Ctx → Ctx) : (d.modCx h f).clock = d.clock := rfl
@[simp] theorem Dev.modCx_freeCtr (d : Dev) (h : Nat) (f : Ctx → Ctx) : (d.modCx h f).freeCtr = d.freeCtr := rfl
@[simp] theorem Dev.modCx_sent (d : Dev) (h : Nat) (f : Ctx → Ctx) : (d.modCx h f).sent = d.sent := rfl
@[simp] theorem Dev.modCx_dict (d : Dev) (h : Nat) (f : Ctx → Ctx) : (d.modCx h f).dict = d.dict := rfl
@[simp] theorem Dev.modCx_ports (d : Dev) (h : Nat) (f : Ctx → Ctx) : (d.modCx h f).ports = d.ports := rfl
@[simp] theorem Dev.modCx_rings (d : Dev) (h : Nat) (f : Ctx → Ctx) : (d.modCx h f).rings = d.rings := rfl
@[simp] theorem Dev.modCx_ingest (d : Dev) (h : Nat) (f : Ctx → Ctx) : (d.modCx h f).ingest = d.ingest := rfl
@[simp] theorem Dev.modCx_rtsp (d : Dev) (h : Nat) (f : Ctx → Ctx) : (d.modCx h f).rtsp = d.rtsp := rfl
@[simp] theorem Dev.modCx_time (d : Dev) (h : Nat) (f : Ctx → Ctx) : (d.modCx h f).time = d.time := rfl
@[simp] theorem Dev.modCx_triggers (d : Dev) (h : Nat) (f : Ctx → Ctx) : (d.modCx h f).triggers = d.triggers := rfl
@[simp] theorem Dev.modCx_engines (d : Dev) (h : Nat) (f : Ctx → Ctx) : (d.modCx h f).engines = d.engines := rfl
@[simp] theorem Dev.modCx_groups (d : Dev) (h : Nat) (f : Ctx → Ctx) : (d.modCx h f).groups = d.groups := rfl
@[simp] theorem Dev.modCx_shadow (d : Dev) (h : Nat) (f : Ctx → Ctx) : (d.modCx h f).shadow = d.shadow := rfl
@[simp] theorem Dev.modCx_activeT (d : Dev) (h : Nat) (f : Ctx → Ctx) : (d.modCx h f).activeT = d.activeT := rfl
@[simp] theorem Dev.modCx_layers (d : Dev) (h : Nat) (f : Ctx → Ctx) : (d.modCx h f).layers = d.layers := rfl
@[simp] theorem Dev.modCx_slots (d : Dev) (h : Nat) (f : Ctx → Ctx) : (d.modCx h f).slots = d.slots := rfl
@[simp] theorem Dev.modCx_heads (d : Dev) (h : Nat) (f : Ctx → Ctx) : (d.modCx h f).heads = d.heads := rfl
@[simp] theorem Dev.modCx_pipes (d : Dev) (h : Nat) (f : Ctx → Ctx) : (d.modCx h f).pipes = d.pipes := rfl
@[simp] theorem Dev.modCx_bivouac (d : Dev) (h : Nat) (f : Ctx → Ctx) : (d.modCx h f).bivouac = d.bivouac := rfl
@[simp] theorem Dev.modCx_pitch (d : Dev) (h : Nat) (f : Ctx → Ctx) : (d.modCx h f).pitch = d.pitch := rfl
@[simp] theorem Dev.modCx_pitchStarted (d : Dev) (h : Nat) (f : Ctx → Ctx) : (d.modCx h f).pitchStarted = d.pitchStarted := rfl
@[simp] theorem Dev.modCx_pitchAt (d : Dev) (h : Nat) (f : Ctx → Ctx) : (d.modCx h f).pitchAt = d.pitchAt := rfl
@[simp] theorem Dev.modCx_links (d : Dev) (h : Nat) (f : Ctx → Ctx) : (d.modCx h f).links = d.links := rfl
@[simp] theorem Dev.modCx_lanes (d : Dev) (h : Nat) (f : Ctx → Ctx) : (d.modCx h f).lanes = d.lanes := rfl
@[simp] theorem Dev.modCx_rope (d : Dev) (h : Nat) (f : Ctx → Ctx) : (d.modCx h f).rope = d.rope := rfl
@[simp] theorem Dev.modCx_enc (d : Dev) (h : Nat) (f : Ctx → Ctx) : (d.modCx h f).enc = d.enc := rfl
@[simp] theorem Dev.modCx_encEngines (d : Dev) (h : Nat) (f : Ctx → Ctx) : (d.modCx h f).encEngines = d.encEngines := rfl
@[simp] theorem Dev.modCx_panels (d : Dev) (h : Nat) (f : Ctx → Ctx) : (d.modCx h f).panels = d.panels := rfl
@[simp] theorem Dev.modCx_touch (d : Dev) (h : Nat) (f : Ctx → Ctx) : (d.modCx h f).touch = d.touch := rfl
@[simp] theorem Dev.modCx_mem (d : Dev) (h : Nat) (f : Ctx → Ctx) : (d.modCx h f).mem = d.mem := rfl
@[simp] theorem Dev.modCx_chans (d : Dev) (h : Nat) (f : Ctx → Ctx) : (d.modCx h f).chans = d.chans := rfl
@[simp] theorem Dev.modCx_canPorts (d : Dev) (h : Nat) (f : Ctx → Ctx) : (d.modCx h f).canPorts = d.canPorts := rfl
@[simp] theorem Dev.modCx_procs (d : Dev) (h : Nat) (f : Ctx → Ctx) : (d.modCx h f).procs = d.procs := rfl
@[simp] theorem Dev.modCx_mbx (d : Dev) (h : Nat) (f : Ctx → Ctx) : (d.modCx h f).mbx = d.mbx := rfl
@[simp] theorem Dev.modCx_prots (d : Dev) (h : Nat) (f : Ctx → Ctx) : (d.modCx h f).prots = d.prots := rfl
@[simp] theorem Dev.modCx_cvus (d : Dev) (h : Nat) (f : Ctx → Ctx) : (d.modCx h f).cvus = d.cvus := rfl
@[simp] theorem Dev.modCx_witness (d : Dev) (h : Nat) (f : Ctx → Ctx) : (d.modCx h f).witness = d.witness := rfl
@[simp] theorem Dev.modCx_twin (d : Dev) (h : Nat) (f : Ctx → Ctx) : (d.modCx h f).twin = d.twin := rfl
@[simp] theorem Dev.modCx_anchor (d : Dev) (h : Nat) (f : Ctx → Ctx) : (d.modCx h f).anchor = d.anchor := rfl
@[simp] theorem Dev.modCx_health (d : Dev) (h : Nat) (f : Ctx → Ctx) : (d.modCx h f).health = d.health := rfl
@[simp] theorem Dev.modCx_flash (d : Dev) (h : Nat) (f : Ctx → Ctx) : (d.modCx h f).flash = d.flash := rfl
@[simp] theorem Dev.modCx_config (d : Dev) (h : Nat) (f : Ctx → Ctx) : (d.modCx h f).config = d.config := rfl
@[simp] theorem Dev.modCx_power (d : Dev) (h : Nat) (f : Ctx → Ctx) : (d.modCx h f).power = d.power := rfl
@[simp] theorem Dev.cx_modCx (d : Dev) (h : Nat) (f : Ctx → Ctx) : (d.modCx h f).cx h = f (d.cx h) := by simp [Dev.modCx, Dev.cx]
theorem Dev.cx_modCx_ne (d : Dev) {h j : Nat} (f : Ctx → Ctx) (hj : j ≠ h) : (d.modCx h f).cx j = d.cx j := by
  simp [Dev.modCx, Dev.cx, tget_tset_ne _ _ _ hj]

/-! ### Dev.modEng -/

@[simp] theorem Dev.modEng_clock (d : Dev) (h : Nat) (f : Engine → Engine) : (d.modEng h f).clock = d.clock := rfl
@[simp] theorem Dev.modEng_freeCtr (d : Dev) (h : Nat) (f : Engine → Engine) : (d.modEng h f).freeCtr = d.freeCtr := rfl
@[simp] theorem Dev.modEng_sent (d : Dev) (h : Nat) (f : Engine → Engine) : (d.modEng h f).sent = d.sent := rfl
@[simp] theorem Dev.modEng_dict (d : Dev) (h : Nat) (f : Engine → Engine) : (d.modEng h f).dict = d.dict := rfl
@[simp] theorem Dev.modEng_ports (d : Dev) (h : Nat) (f : Engine → Engine) : (d.modEng h f).ports = d.ports := rfl
@[simp] theorem Dev.modEng_rings (d : Dev) (h : Nat) (f : Engine → Engine) : (d.modEng h f).rings = d.rings := rfl
@[simp] theorem Dev.modEng_ingest (d : Dev) (h : Nat) (f : Engine → Engine) : (d.modEng h f).ingest = d.ingest := rfl
@[simp] theorem Dev.modEng_rtsp (d : Dev) (h : Nat) (f : Engine → Engine) : (d.modEng h f).rtsp = d.rtsp := rfl
@[simp] theorem Dev.modEng_time (d : Dev) (h : Nat) (f : Engine → Engine) : (d.modEng h f).time = d.time := rfl
@[simp] theorem Dev.modEng_triggers (d : Dev) (h : Nat) (f : Engine → Engine) : (d.modEng h f).triggers = d.triggers := rfl
@[simp] theorem Dev.modEng_ctxs (d : Dev) (h : Nat) (f : Engine → Engine) : (d.modEng h f).ctxs = d.ctxs := rfl
@[simp] theorem Dev.modEng_groups (d : Dev) (h : Nat) (f : Engine → Engine) : (d.modEng h f).groups = d.groups := rfl
@[simp] theorem Dev.modEng_shadow (d : Dev) (h : Nat) (f : Engine → Engine) : (d.modEng h f).shadow = d.shadow := rfl
@[simp] theorem Dev.modEng_activeT (d : Dev) (h : Nat) (f : Engine → Engine) : (d.modEng h f).activeT = d.activeT := rfl
@[simp] theorem Dev.modEng_layers (d : Dev) (h : Nat) (f : Engine → Engine) : (d.modEng h f).layers = d.layers := rfl
@[simp] theorem Dev.modEng_slots (d : Dev) (h : Nat) (f : Engine → Engine) : (d.modEng h f).slots = d.slots := rfl
@[simp] theorem Dev.modEng_heads (d : Dev) (h : Nat) (f : Engine → Engine) : (d.modEng h f).heads = d.heads := rfl
@[simp] theorem Dev.modEng_pipes (d : Dev) (h : Nat) (f : Engine → Engine) : (d.modEng h f).pipes = d.pipes := rfl
@[simp] theorem Dev.modEng_bivouac (d : Dev) (h : Nat) (f : Engine → Engine) : (d.modEng h f).bivouac = d.bivouac := rfl
@[simp] theorem Dev.modEng_pitch (d : Dev) (h : Nat) (f : Engine → Engine) : (d.modEng h f).pitch = d.pitch := rfl
@[simp] theorem Dev.modEng_pitchStarted (d : Dev) (h : Nat) (f : Engine → Engine) : (d.modEng h f).pitchStarted = d.pitchStarted := rfl
@[simp] theorem Dev.modEng_pitchAt (d : Dev) (h : Nat) (f : Engine → Engine) : (d.modEng h f).pitchAt = d.pitchAt := rfl
@[simp] theorem Dev.modEng_links (d : Dev) (h : Nat) (f : Engine → Engine) : (d.modEng h f).links = d.links := rfl
@[simp] theorem Dev.modEng_lanes (d : Dev) (h : Nat) (f : Engine → Engine) : (d.modEng h f).lanes = d.lanes := rfl
@[simp] theorem Dev.modEng_rope (d : Dev) (h : Nat) (f : Engine → Engine) : (d.modEng h f).rope = d.rope := rfl
@[simp] theorem Dev.modEng_enc (d : Dev) (h : Nat) (f : Engine → Engine) : (d.modEng h f).enc = d.enc := rfl
@[simp] theorem Dev.modEng_encEngines (d : Dev) (h : Nat) (f : Engine → Engine) : (d.modEng h f).encEngines = d.encEngines := rfl
@[simp] theorem Dev.modEng_panels (d : Dev) (h : Nat) (f : Engine → Engine) : (d.modEng h f).panels = d.panels := rfl
@[simp] theorem Dev.modEng_touch (d : Dev) (h : Nat) (f : Engine → Engine) : (d.modEng h f).touch = d.touch := rfl
@[simp] theorem Dev.modEng_mem (d : Dev) (h : Nat) (f : Engine → Engine) : (d.modEng h f).mem = d.mem := rfl
@[simp] theorem Dev.modEng_chans (d : Dev) (h : Nat) (f : Engine → Engine) : (d.modEng h f).chans = d.chans := rfl
@[simp] theorem Dev.modEng_canPorts (d : Dev) (h : Nat) (f : Engine → Engine) : (d.modEng h f).canPorts = d.canPorts := rfl
@[simp] theorem Dev.modEng_procs (d : Dev) (h : Nat) (f : Engine → Engine) : (d.modEng h f).procs = d.procs := rfl
@[simp] theorem Dev.modEng_mbx (d : Dev) (h : Nat) (f : Engine → Engine) : (d.modEng h f).mbx = d.mbx := rfl
@[simp] theorem Dev.modEng_prots (d : Dev) (h : Nat) (f : Engine → Engine) : (d.modEng h f).prots = d.prots := rfl
@[simp] theorem Dev.modEng_cvus (d : Dev) (h : Nat) (f : Engine → Engine) : (d.modEng h f).cvus = d.cvus := rfl
@[simp] theorem Dev.modEng_witness (d : Dev) (h : Nat) (f : Engine → Engine) : (d.modEng h f).witness = d.witness := rfl
@[simp] theorem Dev.modEng_twin (d : Dev) (h : Nat) (f : Engine → Engine) : (d.modEng h f).twin = d.twin := rfl
@[simp] theorem Dev.modEng_anchor (d : Dev) (h : Nat) (f : Engine → Engine) : (d.modEng h f).anchor = d.anchor := rfl
@[simp] theorem Dev.modEng_health (d : Dev) (h : Nat) (f : Engine → Engine) : (d.modEng h f).health = d.health := rfl
@[simp] theorem Dev.modEng_flash (d : Dev) (h : Nat) (f : Engine → Engine) : (d.modEng h f).flash = d.flash := rfl
@[simp] theorem Dev.modEng_config (d : Dev) (h : Nat) (f : Engine → Engine) : (d.modEng h f).config = d.config := rfl
@[simp] theorem Dev.modEng_power (d : Dev) (h : Nat) (f : Engine → Engine) : (d.modEng h f).power = d.power := rfl
@[simp] theorem Dev.eng_modEng (d : Dev) (h : Nat) (f : Engine → Engine) : (d.modEng h f).eng h = f (d.eng h) := by simp [Dev.modEng, Dev.eng]
theorem Dev.eng_modEng_ne (d : Dev) {h j : Nat} (f : Engine → Engine) (hj : j ≠ h) : (d.modEng h f).eng j = d.eng j := by
  simp [Dev.modEng, Dev.eng, tget_tset_ne _ _ _ hj]

/-! ### Dev.modGrp -/

@[simp] theorem Dev.modGrp_clock (d : Dev) (h : Nat) (f : Group → Group) : (d.modGrp h f).clock = d.clock := rfl
@[simp] theorem Dev.modGrp_freeCtr (d : Dev) (h : Nat) (f : Group → Group) : (d.modGrp h f).freeCtr = d.freeCtr := rfl
@[simp] theorem Dev.modGrp_sent (d : Dev) (h : Nat) (f : Group → Group) : (d.modGrp h f).sent = d.sent := rfl
@[simp] theorem Dev.modGrp_dict (d : Dev) (h : Nat) (f : Group → Group) : (d.modGrp h f).dict = d.dict := rfl
@[simp] theorem Dev.modGrp_ports (d : Dev) (h : Nat) (f : Group → Group) : (d.modGrp h f).ports = d.ports := rfl
@[simp] theorem Dev.modGrp_rings (d : Dev) (h : Nat) (f : Group → Group) : (d.modGrp h f).rings = d.rings := rfl
@[simp] theorem Dev.modGrp_ingest (d : Dev) (h : Nat) (f : Group → Group) : (d.modGrp h f).ingest = d.ingest := rfl
@[simp] theorem Dev.modGrp_rtsp (d : Dev) (h : Nat) (f : Group → Group) : (d.modGrp h f).rtsp = d.rtsp := rfl
@[simp] theorem Dev.modGrp_time (d : Dev) (h : Nat) (f : Group → Group) : (d.modGrp h f).time = d.time := rfl
@[simp] theorem Dev.modGrp_triggers (d : Dev) (h : Nat) (f : Group → Group) : (d.modGrp h f).triggers = d.triggers := rfl
@[simp] theorem Dev.modGrp_ctxs (d : Dev) (h : Nat) (f : Group → Group) : (d.modGrp h f).ctxs = d.ctxs := rfl
@[simp] theorem Dev.modGrp_engines (d : Dev) (h : Nat) (f : Group → Group) : (d.modGrp h f).engines = d.engines := rfl
@[simp] theorem Dev.modGrp_shadow (d : Dev) (h : Nat) (f : Group → Group) : (d.modGrp h f).shadow = d.shadow := rfl
@[simp] theorem Dev.modGrp_activeT (d : Dev) (h : Nat) (f : Group → Group) : (d.modGrp h f).activeT = d.activeT := rfl
@[simp] theorem Dev.modGrp_layers (d : Dev) (h : Nat) (f : Group → Group) : (d.modGrp h f).layers = d.layers := rfl
@[simp] theorem Dev.modGrp_slots (d : Dev) (h : Nat) (f : Group → Group) : (d.modGrp h f).slots = d.slots := rfl
@[simp] theorem Dev.modGrp_heads (d : Dev) (h : Nat) (f : Group → Group) : (d.modGrp h f).heads = d.heads := rfl
@[simp] theorem Dev.modGrp_pipes (d : Dev) (h : Nat) (f : Group → Group) : (d.modGrp h f).pipes = d.pipes := rfl
@[simp] theorem Dev.modGrp_bivouac (d : Dev) (h : Nat) (f : Group → Group) : (d.modGrp h f).bivouac = d.bivouac := rfl
@[simp] theorem Dev.modGrp_pitch (d : Dev) (h : Nat) (f : Group → Group) : (d.modGrp h f).pitch = d.pitch := rfl
@[simp] theorem Dev.modGrp_pitchStarted (d : Dev) (h : Nat) (f : Group → Group) : (d.modGrp h f).pitchStarted = d.pitchStarted := rfl
@[simp] theorem Dev.modGrp_pitchAt (d : Dev) (h : Nat) (f : Group → Group) : (d.modGrp h f).pitchAt = d.pitchAt := rfl
@[simp] theorem Dev.modGrp_links (d : Dev) (h : Nat) (f : Group → Group) : (d.modGrp h f).links = d.links := rfl
@[simp] theorem Dev.modGrp_lanes (d : Dev) (h : Nat) (f : Group → Group) : (d.modGrp h f).lanes = d.lanes := rfl
@[simp] theorem Dev.modGrp_rope (d : Dev) (h : Nat) (f : Group → Group) : (d.modGrp h f).rope = d.rope := rfl
@[simp] theorem Dev.modGrp_enc (d : Dev) (h : Nat) (f : Group → Group) : (d.modGrp h f).enc = d.enc := rfl
@[simp] theorem Dev.modGrp_encEngines (d : Dev) (h : Nat) (f : Group → Group) : (d.modGrp h f).encEngines = d.encEngines := rfl
@[simp] theorem Dev.modGrp_panels (d : Dev) (h : Nat) (f : Group → Group) : (d.modGrp h f).panels = d.panels := rfl
@[simp] theorem Dev.modGrp_touch (d : Dev) (h : Nat) (f : Group → Group) : (d.modGrp h f).touch = d.touch := rfl
@[simp] theorem Dev.modGrp_mem (d : Dev) (h : Nat) (f : Group → Group) : (d.modGrp h f).mem = d.mem := rfl
@[simp] theorem Dev.modGrp_chans (d : Dev) (h : Nat) (f : Group → Group) : (d.modGrp h f).chans = d.chans := rfl
@[simp] theorem Dev.modGrp_canPorts (d : Dev) (h : Nat) (f : Group → Group) : (d.modGrp h f).canPorts = d.canPorts := rfl
@[simp] theorem Dev.modGrp_procs (d : Dev) (h : Nat) (f : Group → Group) : (d.modGrp h f).procs = d.procs := rfl
@[simp] theorem Dev.modGrp_mbx (d : Dev) (h : Nat) (f : Group → Group) : (d.modGrp h f).mbx = d.mbx := rfl
@[simp] theorem Dev.modGrp_prots (d : Dev) (h : Nat) (f : Group → Group) : (d.modGrp h f).prots = d.prots := rfl
@[simp] theorem Dev.modGrp_cvus (d : Dev) (h : Nat) (f : Group → Group) : (d.modGrp h f).cvus = d.cvus := rfl
@[simp] theorem Dev.modGrp_witness (d : Dev) (h : Nat) (f : Group → Group) : (d.modGrp h f).witness = d.witness := rfl
@[simp] theorem Dev.modGrp_twin (d : Dev) (h : Nat) (f : Group → Group) : (d.modGrp h f).twin = d.twin := rfl
@[simp] theorem Dev.modGrp_anchor (d : Dev) (h : Nat) (f : Group → Group) : (d.modGrp h f).anchor = d.anchor := rfl
@[simp] theorem Dev.modGrp_health (d : Dev) (h : Nat) (f : Group → Group) : (d.modGrp h f).health = d.health := rfl
@[simp] theorem Dev.modGrp_flash (d : Dev) (h : Nat) (f : Group → Group) : (d.modGrp h f).flash = d.flash := rfl
@[simp] theorem Dev.modGrp_config (d : Dev) (h : Nat) (f : Group → Group) : (d.modGrp h f).config = d.config := rfl
@[simp] theorem Dev.modGrp_power (d : Dev) (h : Nat) (f : Group → Group) : (d.modGrp h f).power = d.power := rfl
@[simp] theorem Dev.grp_modGrp (d : Dev) (h : Nat) (f : Group → Group) : (d.modGrp h f).grp h = f (d.grp h) := by simp [Dev.modGrp, Dev.grp]
theorem Dev.grp_modGrp_ne (d : Dev) {h j : Nat} (f : Group → Group) (hj : j ≠ h) : (d.modGrp h f).grp j = d.grp j := by
  simp [Dev.modGrp, Dev.grp, tget_tset_ne _ _ _ hj]

/-! ### Dev.modLk -/

@[simp] theorem Dev.modLk_clock (d : Dev) (h : Nat) (f : Link → Link) : (d.modLk h f).clock = d.clock := rfl
@[simp] theorem Dev.modLk_freeCtr (d : Dev) (h : Nat) (f : Link → Link) : (d.modLk h f).freeCtr = d.freeCtr := rfl
@[simp] theorem Dev.modLk_sent (d : Dev) (h : Nat) (f : Link → Link) : (d.modLk h f).sent = d.sent := rfl
@[simp] theorem Dev.modLk_dict (d : Dev) (h : Nat) (f : Link → Link) : (d.modLk h f).dict = d.dict := rfl
@[simp] theorem Dev.modLk_ports (d : Dev) (h : Nat) (f : Link → Link) : (d.modLk h f).ports = d.ports := rfl
@[simp] theorem Dev.modLk_rings (d : Dev) (h : Nat) (f : Link → Link) : (d.modLk h f).rings = d.rings := rfl
@[simp] theorem Dev.modLk_ingest (d : Dev) (h : Nat) (f : Link → Link) : (d.modLk h f).ingest = d.ingest := rfl
@[simp] theorem Dev.modLk_rtsp (d : Dev) (h : Nat) (f : Link → Link) : (d.modLk h f).rtsp = d.rtsp := rfl
@[simp] theorem Dev.modLk_time (d : Dev) (h : Nat) (f : Link → Link) : (d.modLk h f).time = d.time := rfl
@[simp] theorem Dev.modLk_triggers (d : Dev) (h : Nat) (f : Link → Link) : (d.modLk h f).triggers = d.triggers := rfl
@[simp] theorem Dev.modLk_ctxs (d : Dev) (h : Nat) (f : Link → Link) : (d.modLk h f).ctxs = d.ctxs := rfl
@[simp] theorem Dev.modLk_engines (d : Dev) (h : Nat) (f : Link → Link) : (d.modLk h f).engines = d.engines := rfl
@[simp] theorem Dev.modLk_groups (d : Dev) (h : Nat) (f : Link → Link) : (d.modLk h f).groups = d.groups := rfl
@[simp] theorem Dev.modLk_shadow (d : Dev) (h : Nat) (f : Link → Link) : (d.modLk h f).shadow = d.shadow := rfl
@[simp] theorem Dev.modLk_activeT (d : Dev) (h : Nat) (f : Link → Link) : (d.modLk h f).activeT = d.activeT := rfl
@[simp] theorem Dev.modLk_layers (d : Dev) (h : Nat) (f : Link → Link) : (d.modLk h f).layers = d.layers := rfl
@[simp] theorem Dev.modLk_slots (d : Dev) (h : Nat) (f : Link → Link) : (d.modLk h f).slots = d.slots := rfl
@[simp] theorem Dev.modLk_heads (d : Dev) (h : Nat) (f : Link → Link) : (d.modLk h f).heads = d.heads := rfl
@[simp] theorem Dev.modLk_pipes (d : Dev) (h : Nat) (f : Link → Link) : (d.modLk h f).pipes = d.pipes := rfl
@[simp] theorem Dev.modLk_bivouac (d : Dev) (h : Nat) (f : Link → Link) : (d.modLk h f).bivouac = d.bivouac := rfl
@[simp] theorem Dev.modLk_pitch (d : Dev) (h : Nat) (f : Link → Link) : (d.modLk h f).pitch = d.pitch := rfl
@[simp] theorem Dev.modLk_pitchStarted (d : Dev) (h : Nat) (f : Link → Link) : (d.modLk h f).pitchStarted = d.pitchStarted := rfl
@[simp] theorem Dev.modLk_pitchAt (d : Dev) (h : Nat) (f : Link → Link) : (d.modLk h f).pitchAt = d.pitchAt := rfl
@[simp] theorem Dev.modLk_lanes (d : Dev) (h : Nat) (f : Link → Link) : (d.modLk h f).lanes = d.lanes := rfl
@[simp] theorem Dev.modLk_rope (d : Dev) (h : Nat) (f : Link → Link) : (d.modLk h f).rope = d.rope := rfl
@[simp] theorem Dev.modLk_enc (d : Dev) (h : Nat) (f : Link → Link) : (d.modLk h f).enc = d.enc := rfl
@[simp] theorem Dev.modLk_encEngines (d : Dev) (h : Nat) (f : Link → Link) : (d.modLk h f).encEngines = d.encEngines := rfl
@[simp] theorem Dev.modLk_panels (d : Dev) (h : Nat) (f : Link → Link) : (d.modLk h f).panels = d.panels := rfl
@[simp] theorem Dev.modLk_touch (d : Dev) (h : Nat) (f : Link → Link) : (d.modLk h f).touch = d.touch := rfl
@[simp] theorem Dev.modLk_mem (d : Dev) (h : Nat) (f : Link → Link) : (d.modLk h f).mem = d.mem := rfl
@[simp] theorem Dev.modLk_chans (d : Dev) (h : Nat) (f : Link → Link) : (d.modLk h f).chans = d.chans := rfl
@[simp] theorem Dev.modLk_canPorts (d : Dev) (h : Nat) (f : Link → Link) : (d.modLk h f).canPorts = d.canPorts := rfl
@[simp] theorem Dev.modLk_procs (d : Dev) (h : Nat) (f : Link → Link) : (d.modLk h f).procs = d.procs := rfl
@[simp] theorem Dev.modLk_mbx (d : Dev) (h : Nat) (f : Link → Link) : (d.modLk h f).mbx = d.mbx := rfl
@[simp] theorem Dev.modLk_prots (d : Dev) (h : Nat) (f : Link → Link) : (d.modLk h f).prots = d.prots := rfl
@[simp] theorem Dev.modLk_cvus (d : Dev) (h : Nat) (f : Link → Link) : (d.modLk h f).cvus = d.cvus := rfl
@[simp] theorem Dev.modLk_witness (d : Dev) (h : Nat) (f : Link → Link) : (d.modLk h f).witness = d.witness := rfl
@[simp] theorem Dev.modLk_twin (d : Dev) (h : Nat) (f : Link → Link) : (d.modLk h f).twin = d.twin := rfl
@[simp] theorem Dev.modLk_anchor (d : Dev) (h : Nat) (f : Link → Link) : (d.modLk h f).anchor = d.anchor := rfl
@[simp] theorem Dev.modLk_health (d : Dev) (h : Nat) (f : Link → Link) : (d.modLk h f).health = d.health := rfl
@[simp] theorem Dev.modLk_flash (d : Dev) (h : Nat) (f : Link → Link) : (d.modLk h f).flash = d.flash := rfl
@[simp] theorem Dev.modLk_config (d : Dev) (h : Nat) (f : Link → Link) : (d.modLk h f).config = d.config := rfl
@[simp] theorem Dev.modLk_power (d : Dev) (h : Nat) (f : Link → Link) : (d.modLk h f).power = d.power := rfl
@[simp] theorem Dev.lk_modLk (d : Dev) (h : Nat) (f : Link → Link) : (d.modLk h f).lk h = f (d.lk h) := by simp [Dev.modLk, Dev.lk]
theorem Dev.lk_modLk_ne (d : Dev) {h j : Nat} (f : Link → Link) (hj : j ≠ h) : (d.modLk h f).lk j = d.lk j := by
  simp [Dev.modLk, Dev.lk, tget_tset_ne _ _ _ hj]

/-! ### Dev.modLn -/

@[simp] theorem Dev.modLn_clock (d : Dev) (h : Nat) (f : Lane → Lane) : (d.modLn h f).clock = d.clock := rfl
@[simp] theorem Dev.modLn_freeCtr (d : Dev) (h : Nat) (f : Lane → Lane) : (d.modLn h f).freeCtr = d.freeCtr := rfl
@[simp] theorem Dev.modLn_sent (d : Dev) (h : Nat) (f : Lane → Lane) : (d.modLn h f).sent = d.sent := rfl
@[simp] theorem Dev.modLn_dict (d : Dev) (h : Nat) (f : Lane → Lane) : (d.modLn h f).dict = d.dict := rfl
@[simp] theorem Dev.modLn_ports (d : Dev) (h : Nat) (f : Lane → Lane) : (d.modLn h f).ports = d.ports := rfl
@[simp] theorem Dev.modLn_rings (d : Dev) (h : Nat) (f : Lane → Lane) : (d.modLn h f).rings = d.rings := rfl
@[simp] theorem Dev.modLn_ingest (d : Dev) (h : Nat) (f : Lane → Lane) : (d.modLn h f).ingest = d.ingest := rfl
@[simp] theorem Dev.modLn_rtsp (d : Dev) (h : Nat) (f : Lane → Lane) : (d.modLn h f).rtsp = d.rtsp := rfl
@[simp] theorem Dev.modLn_time (d : Dev) (h : Nat) (f : Lane → Lane) : (d.modLn h f).time = d.time := rfl
@[simp] theorem Dev.modLn_triggers (d : Dev) (h : Nat) (f : Lane → Lane) : (d.modLn h f).triggers = d.triggers := rfl
@[simp] theorem Dev.modLn_ctxs (d : Dev) (h : Nat) (f : Lane → Lane) : (d.modLn h f).ctxs = d.ctxs := rfl
@[simp] theorem Dev.modLn_engines (d : Dev) (h : Nat) (f : Lane → Lane) : (d.modLn h f).engines = d.engines := rfl
@[simp] theorem Dev.modLn_groups (d : Dev) (h : Nat) (f : Lane → Lane) : (d.modLn h f).groups = d.groups := rfl
@[simp] theorem Dev.modLn_shadow (d : Dev) (h : Nat) (f : Lane → Lane) : (d.modLn h f).shadow = d.shadow := rfl
@[simp] theorem Dev.modLn_activeT (d : Dev) (h : Nat) (f : Lane → Lane) : (d.modLn h f).activeT = d.activeT := rfl
@[simp] theorem Dev.modLn_layers (d : Dev) (h : Nat) (f : Lane → Lane) : (d.modLn h f).layers = d.layers := rfl
@[simp] theorem Dev.modLn_slots (d : Dev) (h : Nat) (f : Lane → Lane) : (d.modLn h f).slots = d.slots := rfl
@[simp] theorem Dev.modLn_heads (d : Dev) (h : Nat) (f : Lane → Lane) : (d.modLn h f).heads = d.heads := rfl
@[simp] theorem Dev.modLn_pipes (d : Dev) (h : Nat) (f : Lane → Lane) : (d.modLn h f).pipes = d.pipes := rfl
@[simp] theorem Dev.modLn_bivouac (d : Dev) (h : Nat) (f : Lane → Lane) : (d.modLn h f).bivouac = d.bivouac := rfl
@[simp] theorem Dev.modLn_pitch (d : Dev) (h : Nat) (f : Lane → Lane) : (d.modLn h f).pitch = d.pitch := rfl
@[simp] theorem Dev.modLn_pitchStarted (d : Dev) (h : Nat) (f : Lane → Lane) : (d.modLn h f).pitchStarted = d.pitchStarted := rfl
@[simp] theorem Dev.modLn_pitchAt (d : Dev) (h : Nat) (f : Lane → Lane) : (d.modLn h f).pitchAt = d.pitchAt := rfl
@[simp] theorem Dev.modLn_links (d : Dev) (h : Nat) (f : Lane → Lane) : (d.modLn h f).links = d.links := rfl
@[simp] theorem Dev.modLn_rope (d : Dev) (h : Nat) (f : Lane → Lane) : (d.modLn h f).rope = d.rope := rfl
@[simp] theorem Dev.modLn_enc (d : Dev) (h : Nat) (f : Lane → Lane) : (d.modLn h f).enc = d.enc := rfl
@[simp] theorem Dev.modLn_encEngines (d : Dev) (h : Nat) (f : Lane → Lane) : (d.modLn h f).encEngines = d.encEngines := rfl
@[simp] theorem Dev.modLn_panels (d : Dev) (h : Nat) (f : Lane → Lane) : (d.modLn h f).panels = d.panels := rfl
@[simp] theorem Dev.modLn_touch (d : Dev) (h : Nat) (f : Lane → Lane) : (d.modLn h f).touch = d.touch := rfl
@[simp] theorem Dev.modLn_mem (d : Dev) (h : Nat) (f : Lane → Lane) : (d.modLn h f).mem = d.mem := rfl
@[simp] theorem Dev.modLn_chans (d : Dev) (h : Nat) (f : Lane → Lane) : (d.modLn h f).chans = d.chans := rfl
@[simp] theorem Dev.modLn_canPorts (d : Dev) (h : Nat) (f : Lane → Lane) : (d.modLn h f).canPorts = d.canPorts := rfl
@[simp] theorem Dev.modLn_procs (d : Dev) (h : Nat) (f : Lane → Lane) : (d.modLn h f).procs = d.procs := rfl
@[simp] theorem Dev.modLn_mbx (d : Dev) (h : Nat) (f : Lane → Lane) : (d.modLn h f).mbx = d.mbx := rfl
@[simp] theorem Dev.modLn_prots (d : Dev) (h : Nat) (f : Lane → Lane) : (d.modLn h f).prots = d.prots := rfl
@[simp] theorem Dev.modLn_cvus (d : Dev) (h : Nat) (f : Lane → Lane) : (d.modLn h f).cvus = d.cvus := rfl
@[simp] theorem Dev.modLn_witness (d : Dev) (h : Nat) (f : Lane → Lane) : (d.modLn h f).witness = d.witness := rfl
@[simp] theorem Dev.modLn_twin (d : Dev) (h : Nat) (f : Lane → Lane) : (d.modLn h f).twin = d.twin := rfl
@[simp] theorem Dev.modLn_anchor (d : Dev) (h : Nat) (f : Lane → Lane) : (d.modLn h f).anchor = d.anchor := rfl
@[simp] theorem Dev.modLn_health (d : Dev) (h : Nat) (f : Lane → Lane) : (d.modLn h f).health = d.health := rfl
@[simp] theorem Dev.modLn_flash (d : Dev) (h : Nat) (f : Lane → Lane) : (d.modLn h f).flash = d.flash := rfl
@[simp] theorem Dev.modLn_config (d : Dev) (h : Nat) (f : Lane → Lane) : (d.modLn h f).config = d.config := rfl
@[simp] theorem Dev.modLn_power (d : Dev) (h : Nat) (f : Lane → Lane) : (d.modLn h f).power = d.power := rfl
@[simp] theorem Dev.ln72_modLn (d : Dev) (h : Nat) (f : Lane → Lane) : (d.modLn h f).ln72 h = f (d.ln72 h) := by simp [Dev.modLn, Dev.ln72]
theorem Dev.ln72_modLn_ne (d : Dev) {h j : Nat} (f : Lane → Lane) (hj : j ≠ h) : (d.modLn h f).ln72 j = d.ln72 j := by
  simp [Dev.modLn, Dev.ln72, tget_tset_ne _ _ _ hj]

/-! ### Dev.modRing -/

@[simp] theorem Dev.modRing_clock (d : Dev) (h : Nat) (f : Ring → Ring) : (d.modRing h f).clock = d.clock := rfl
@[simp] theorem Dev.modRing_freeCtr (d : Dev) (h : Nat) (f : Ring → Ring) : (d.modRing h f).freeCtr = d.freeCtr := rfl
@[simp] theorem Dev.modRing_sent (d : Dev) (h : Nat) (f : Ring → Ring) : (d.modRing h f).sent = d.sent := rfl
@[simp] theorem Dev.modRing_dict (d : Dev) (h : Nat) (f : Ring → Ring) : (d.modRing h f).dict = d.dict := rfl
@[simp] theorem Dev.modRing_ports (d : Dev) (h : Nat) (f : Ring → Ring) : (d.modRing h f).ports = d.ports := rfl
@[simp] theorem Dev.modRing_ingest (d : Dev) (h : Nat) (f : Ring → Ring) : (d.modRing h f).ingest = d.ingest := rfl
@[simp] theorem Dev.modRing_rtsp (d : Dev) (h : Nat) (f : Ring → Ring) : (d.modRing h f).rtsp = d.rtsp := rfl
@[simp] theorem Dev.modRing_time (d : Dev) (h : Nat) (f : Ring → Ring) : (d.modRing h f).time = d.time := rfl
@[simp] theorem Dev.modRing_triggers (d : Dev) (h : Nat) (f : Ring → Ring) : (d.modRing h f).triggers = d.triggers := rfl
@[simp] theorem Dev.modRing_ctxs (d : Dev) (h : Nat) (f : Ring → Ring) : (d.modRing h f).ctxs = d.ctxs := rfl
@[simp] theorem Dev.modRing_engines (d : Dev) (h : Nat) (f : Ring → Ring) : (d.modRing h f).engines = d.engines := rfl
@[simp] theorem Dev.modRing_groups (d : Dev) (h : Nat) (f : Ring → Ring) : (d.modRing h f).groups = d.groups := rfl
@[simp] theorem Dev.modRing_shadow (d : Dev) (h : Nat) (f : Ring → Ring) : (d.modRing h f).shadow = d.shadow := rfl
@[simp] theorem Dev.modRing_activeT (d : Dev) (h : Nat) (f : Ring → Ring) : (d.modRing h f).activeT = d.activeT := rfl
@[simp] theorem Dev.modRing_layers (d : Dev) (h : Nat) (f : Ring → Ring) : (d.modRing h f).layers = d.layers := rfl
@[simp] theorem Dev.modRing_slots (d : Dev) (h : Nat) (f : Ring → Ring) : (d.modRing h f).slots = d.slots := rfl
@[simp] theorem Dev.modRing_heads (d : Dev) (h : Nat) (f : Ring → Ring) : (d.modRing h f).heads = d.heads := rfl
@[simp] theorem Dev.modRing_pipes (d : Dev) (h : Nat) (f : Ring → Ring) : (d.modRing h f).pipes = d.pipes := rfl
@[simp] theorem Dev.modRing_bivouac (d : Dev) (h : Nat) (f : Ring → Ring) : (d.modRing h f).bivouac = d.bivouac := rfl
@[simp] theorem Dev.modRing_pitch (d : Dev) (h : Nat) (f : Ring → Ring) : (d.modRing h f).pitch = d.pitch := rfl
@[simp] theorem Dev.modRing_pitchStarted (d : Dev) (h : Nat) (f : Ring → Ring) : (d.modRing h f).pitchStarted = d.pitchStarted := rfl
@[simp] theorem Dev.modRing_pitchAt (d : Dev) (h : Nat) (f : Ring → Ring) : (d.modRing h f).pitchAt = d.pitchAt := rfl
@[simp] theorem Dev.modRing_links (d : Dev) (h : Nat) (f : Ring → Ring) : (d.modRing h f).links = d.links := rfl
@[simp] theorem Dev.modRing_lanes (d : Dev) (h : Nat) (f : Ring → Ring) : (d.modRing h f).lanes = d.lanes := rfl
@[simp] theorem Dev.modRing_rope (d : Dev) (h : Nat) (f : Ring → Ring) : (d.modRing h f).rope = d.rope := rfl
@[simp] theorem Dev.modRing_enc (d : Dev) (h : Nat) (f : Ring → Ring) : (d.modRing h f).enc = d.enc := rfl
@[simp] theorem Dev.modRing_encEngines (d : Dev) (h : Nat) (f : Ring → Ring) : (d.modRing h f).encEngines = d.encEngines := rfl
@[simp] theorem Dev.modRing_panels (d : Dev) (h : Nat) (f : Ring → Ring) : (d.modRing h f).panels = d.panels := rfl
@[simp] theorem Dev.modRing_touch (d : Dev) (h : Nat) (f : Ring → Ring) : (d.modRing h f).touch = d.touch := rfl
@[simp] theorem Dev.modRing_mem (d : Dev) (h : Nat) (f : Ring → Ring) : (d.modRing h f).mem = d.mem := rfl
@[simp] theorem Dev.modRing_chans (d : Dev) (h : Nat) (f : Ring → Ring) : (d.modRing h f).chans = d.chans := rfl
@[simp] theorem Dev.modRing_canPorts (d : Dev) (h : Nat) (f : Ring → Ring) : (d.modRing h f).canPorts = d.canPorts := rfl
@[simp] theorem Dev.modRing_procs (d : Dev) (h : Nat) (f : Ring → Ring) : (d.modRing h f).procs = d.procs := rfl
@[simp] theorem Dev.modRing_mbx (d : Dev) (h : Nat) (f : Ring → Ring) : (d.modRing h f).mbx = d.mbx := rfl
@[simp] theorem Dev.modRing_prots (d : Dev) (h : Nat) (f : Ring → Ring) : (d.modRing h f).prots = d.prots := rfl
@[simp] theorem Dev.modRing_cvus (d : Dev) (h : Nat) (f : Ring → Ring) : (d.modRing h f).cvus = d.cvus := rfl
@[simp] theorem Dev.modRing_witness (d : Dev) (h : Nat) (f : Ring → Ring) : (d.modRing h f).witness = d.witness := rfl
@[simp] theorem Dev.modRing_twin (d : Dev) (h : Nat) (f : Ring → Ring) : (d.modRing h f).twin = d.twin := rfl
@[simp] theorem Dev.modRing_anchor (d : Dev) (h : Nat) (f : Ring → Ring) : (d.modRing h f).anchor = d.anchor := rfl
@[simp] theorem Dev.modRing_health (d : Dev) (h : Nat) (f : Ring → Ring) : (d.modRing h f).health = d.health := rfl
@[simp] theorem Dev.modRing_flash (d : Dev) (h : Nat) (f : Ring → Ring) : (d.modRing h f).flash = d.flash := rfl
@[simp] theorem Dev.modRing_config (d : Dev) (h : Nat) (f : Ring → Ring) : (d.modRing h f).config = d.config := rfl
@[simp] theorem Dev.modRing_power (d : Dev) (h : Nat) (f : Ring → Ring) : (d.modRing h f).power = d.power := rfl
@[simp] theorem Dev.ring_modRing (d : Dev) (h : Nat) (f : Ring → Ring) : (d.modRing h f).ring h = f (d.ring h) := by simp [Dev.modRing, Dev.ring]
theorem Dev.ring_modRing_ne (d : Dev) {h j : Nat} (f : Ring → Ring) (hj : j ≠ h) : (d.modRing h f).ring j = d.ring j := by
  simp [Dev.modRing, Dev.ring, tget_tset_ne _ _ _ hj]

/-! ### Dev.modPort -/

@[simp] theorem Dev.modPort_clock (d : Dev) (h : Nat) (f : Port → Port) : (d.modPort h f).clock = d.clock := rfl
@[simp] theorem Dev.modPort_freeCtr (d : Dev) (h : Nat) (f : Port → Port) : (d.modPort h f).freeCtr = d.freeCtr := rfl
@[simp] theorem Dev.modPort_sent (d : Dev) (h : Nat) (f : Port → Port) : (d.modPort h f).sent = d.sent := rfl
@[simp] theorem Dev.modPort_dict (d : Dev) (h : Nat) (f : Port → Port) : (d.modPort h f).dict = d.dict := rfl
@[simp] theorem Dev.modPort_rings (d : Dev) (h : Nat) (f : Port → Port) : (d.modPort h f).rings = d.rings := rfl
@[simp] theorem Dev.modPort_ingest (d : Dev) (h : Nat) (f : Port → Port) : (d.modPort h f).ingest = d.ingest := rfl
@[simp] theorem Dev.modPort_rtsp (d : Dev) (h : Nat) (f : Port → Port) : (d.modPort h f).rtsp = d.rtsp := rfl
@[simp] theorem Dev.modPort_time (d : Dev) (h : Nat) (f : Port → Port) : (d.modPort h f).time = d.time := rfl
@[simp] theorem Dev.modPort_triggers (d : Dev) (h : Nat) (f : Port → Port) : (d.modPort h f).triggers = d.triggers := rfl
@[simp] theorem Dev.modPort_ctxs (d : Dev) (h : Nat) (f : Port → Port) : (d.modPort h f).ctxs = d.ctxs := rfl
@[simp] theorem Dev.modPort_engines (d : Dev) (h : Nat) (f : Port → Port) : (d.modPort h f).engines = d.engines := rfl
@[simp] theorem Dev.modPort_groups (d : Dev) (h : Nat) (f : Port → Port) : (d.modPort h f).groups = d.groups := rfl
@[simp] theorem Dev.modPort_shadow (d : Dev) (h : Nat) (f : Port → Port) : (d.modPort h f).shadow = d.shadow := rfl
@[simp] theorem Dev.modPort_activeT (d : Dev) (h : Nat) (f : Port → Port) : (d.modPort h f).activeT = d.activeT := rfl
@[simp] theorem Dev.modPort_layers (d : Dev) (h : Nat) (f : Port → Port) : (d.modPort h f).layers = d.layers := rfl
@[simp] theorem Dev.modPort_slots (d : Dev) (h : Nat) (f : Port → Port) : (d.modPort h f).slots = d.slots := rfl
@[simp] theorem Dev.modPort_heads (d : Dev) (h : Nat) (f : Port → Port) : (d.modPort h f).heads = d.heads := rfl
@[simp] theorem Dev.modPort_pipes (d : Dev) (h : Nat) (f : Port → Port) : (d.modPort h f).pipes = d.pipes := rfl
@[simp] theorem Dev.modPort_bivouac (d : Dev) (h : Nat) (f : Port → Port) : (d.modPort h f).bivouac = d.bivouac := rfl
@[simp] theorem Dev.modPort_pitch (d : Dev) (h : Nat) (f : Port → Port) : (d.modPort h f).pitch = d.pitch := rfl
@[simp] theorem Dev.modPort_pitchStarted (d : Dev) (h : Nat) (f : Port → Port) : (d.modPort h f).pitchStarted = d.pitchStarted := rfl
@[simp] theorem Dev.modPort_pitchAt (d : Dev) (h : Nat) (f : Port → Port) : (d.modPort h f).pitchAt = d.pitchAt := rfl
@[simp] theorem Dev.modPort_links (d : Dev) (h : Nat) (f : Port → Port) : (d.modPort h f).links = d.links := rfl
@[simp] theorem Dev.modPort_lanes (d : Dev) (h : Nat) (f : Port → Port) : (d.modPort h f).lanes = d.lanes := rfl
@[simp] theorem Dev.modPort_rope (d : Dev) (h : Nat) (f : Port → Port) : (d.modPort h f).rope = d.rope := rfl
@[simp] theorem Dev.modPort_enc (d : Dev) (h : Nat) (f : Port → Port) : (d.modPort h f).enc = d.enc := rfl
@[simp] theorem Dev.modPort_encEngines (d : Dev) (h : Nat) (f : Port → Port) : (d.modPort h f).encEngines = d.encEngines := rfl
@[simp] theorem Dev.modPort_panels (d : Dev) (h : Nat) (f : Port → Port) : (d.modPort h f).panels = d.panels := rfl
@[simp] theorem Dev.modPort_touch (d : Dev) (h : Nat) (f : Port → Port) : (d.modPort h f).touch = d.touch := rfl
@[simp] theorem Dev.modPort_mem (d : Dev) (h : Nat) (f : Port → Port) : (d.modPort h f).mem = d.mem := rfl
@[simp] theorem Dev.modPort_chans (d : Dev) (h : Nat) (f : Port → Port) : (d.modPort h f).chans = d.chans := rfl
@[simp] theorem Dev.modPort_canPorts (d : Dev) (h : Nat) (f : Port → Port) : (d.modPort h f).canPorts = d.canPorts := rfl
@[simp] theorem Dev.modPort_procs (d : Dev) (h : Nat) (f : Port → Port) : (d.modPort h f).procs = d.procs := rfl
@[simp] theorem Dev.modPort_mbx (d : Dev) (h : Nat) (f : Port → Port) : (d.modPort h f).mbx = d.mbx := rfl
@[simp] theorem Dev.modPort_prots (d : Dev) (h : Nat) (f : Port → Port) : (d.modPort h f).prots = d.prots := rfl
@[simp] theorem Dev.modPort_cvus (d : Dev) (h : Nat) (f : Port → Port) : (d.modPort h f).cvus = d.cvus := rfl
@[simp] theorem Dev.modPort_witness (d : Dev) (h : Nat) (f : Port → Port) : (d.modPort h f).witness = d.witness := rfl
@[simp] theorem Dev.modPort_twin (d : Dev) (h : Nat) (f : Port → Port) : (d.modPort h f).twin = d.twin := rfl
@[simp] theorem Dev.modPort_anchor (d : Dev) (h : Nat) (f : Port → Port) : (d.modPort h f).anchor = d.anchor := rfl
@[simp] theorem Dev.modPort_health (d : Dev) (h : Nat) (f : Port → Port) : (d.modPort h f).health = d.health := rfl
@[simp] theorem Dev.modPort_flash (d : Dev) (h : Nat) (f : Port → Port) : (d.modPort h f).flash = d.flash := rfl
@[simp] theorem Dev.modPort_config (d : Dev) (h : Nat) (f : Port → Port) : (d.modPort h f).config = d.config := rfl
@[simp] theorem Dev.modPort_power (d : Dev) (h : Nat) (f : Port → Port) : (d.modPort h f).power = d.power := rfl
@[simp] theorem Dev.port_modPort (d : Dev) (h : Nat) (f : Port → Port) : (d.modPort h f).port h = f (d.port h) := by simp [Dev.modPort, Dev.port]
theorem Dev.port_modPort_ne (d : Dev) {h j : Nat} (f : Port → Port) (hj : j ≠ h) : (d.modPort h f).port j = d.port j := by
  simp [Dev.modPort, Dev.port, tget_tset_ne _ _ _ hj]

/-! ### Dev.modEc -/

@[simp] theorem Dev.modEc_clock (d : Dev) (h : Nat) (f : EncCtx → EncCtx) : (d.modEc h f).clock = d.clock := rfl
@[simp] theorem Dev.modEc_freeCtr (d : Dev) (h : Nat) (f : EncCtx → EncCtx) : (d.modEc h f).freeCtr = d.freeCtr := rfl
@[simp] theorem Dev.modEc_sent (d : Dev) (h : Nat) (f : EncCtx → EncCtx) : (d.modEc h f).sent = d.sent := rfl
@[simp] theorem Dev.modEc_dict (d : Dev) (h : Nat) (f : EncCtx → EncCtx) : (d.modEc h f).dict = d.dict := rfl
@[simp] theorem Dev.modEc_ports (d : Dev) (h : Nat) (f : EncCtx → EncCtx) : (d.modEc h f).ports = d.ports := rfl
@[simp] theorem Dev.modEc_rings (d : Dev) (h : Nat) (f : EncCtx → EncCtx) : (d.modEc h f).rings = d.rings := rfl
@[simp] theorem Dev.modEc_ingest (d : Dev) (h : Nat) (f : EncCtx → EncCtx) : (d.modEc h f).ingest = d.ingest := rfl
@[simp] theorem Dev.modEc_rtsp (d : Dev) (h : Nat) (f : EncCtx → EncCtx) : (d.modEc h f).rtsp = d.rtsp := rfl
@[simp] theorem Dev.modEc_time (d : Dev) (h : Nat) (f : EncCtx → EncCtx) : (d.modEc h f).time = d.time := rfl
@[simp] theorem Dev.modEc_triggers (d : Dev) (h : Nat) (f : EncCtx → EncCtx) : (d.modEc h f).triggers = d.triggers := rfl
@[simp] theorem Dev.modEc_ctxs (d : Dev) (h : Nat) (f : EncCtx → EncCtx) : (d.modEc h f).ctxs = d.ctxs := rfl
@[simp] theorem Dev.modEc_engines (d : Dev) (h : Nat) (f : EncCtx → EncCtx) : (d.modEc h f).engines = d.engines := rfl
@[simp] theorem Dev.modEc_groups (d : Dev) (h : Nat) (f : EncCtx → EncCtx) : (d.modEc h f).groups = d.groups := rfl
@[simp] theorem Dev.modEc_shadow (d : Dev) (h : Nat) (f : EncCtx → EncCtx) : (d.modEc h f).shadow = d.shadow := rfl
@[simp] theorem Dev.modEc_activeT (d : Dev) (h : Nat) (f : EncCtx → EncCtx) : (d.modEc h f).activeT = d.activeT := rfl
@[simp] theorem Dev.modEc_layers (d : Dev) (h : Nat) (f : EncCtx → EncCtx) : (d.modEc h f).layers = d.layers := rfl
@[simp] theorem Dev.modEc_slots (d : Dev) (h : Nat) (f : EncCtx → EncCtx) : (d.modEc h f).slots = d.slots := rfl
@[simp] theorem Dev.modEc_heads (d : Dev) (h : Nat) (f : EncCtx → EncCtx) : (d.modEc h f).heads = d.heads := rfl
@[simp] theorem Dev.modEc_pipes (d : Dev) (h : Nat) (f : EncCtx → EncCtx) : (d.modEc h f).pipes = d.pipes := rfl
@[simp] theorem Dev.modEc_bivouac (d : Dev) (h : Nat) (f : EncCtx → EncCtx) : (d.modEc h f).bivouac = d.bivouac := rfl
@[simp] theorem Dev.modEc_pitch (d : Dev) (h : Nat) (f : EncCtx → EncCtx) : (d.modEc h f).pitch = d.pitch := rfl
@[simp] theorem Dev.modEc_pitchStarted (d : Dev) (h : Nat) (f : EncCtx → EncCtx) : (d.modEc h f).pitchStarted = d.pitchStarted := rfl
@[simp] theorem Dev.modEc_pitchAt (d : Dev) (h : Nat) (f : EncCtx → EncCtx) : (d.modEc h f).pitchAt = d.pitchAt := rfl
@[simp] theorem Dev.modEc_links (d : Dev) (h : Nat) (f : EncCtx → EncCtx) : (d.modEc h f).links = d.links := rfl
@[simp] theorem Dev.modEc_lanes (d : Dev) (h : Nat) (f : EncCtx → EncCtx) : (d.modEc h f).lanes = d.lanes := rfl
@[simp] theorem Dev.modEc_rope (d : Dev) (h : Nat) (f : EncCtx → EncCtx) : (d.modEc h f).rope = d.rope := rfl
@[simp] theorem Dev.modEc_encEngines (d : Dev) (h : Nat) (f : EncCtx → EncCtx) : (d.modEc h f).encEngines = d.encEngines := rfl
@[simp] theorem Dev.modEc_panels (d : Dev) (h : Nat) (f : EncCtx → EncCtx) : (d.modEc h f).panels = d.panels := rfl
@[simp] theorem Dev.modEc_touch (d : Dev) (h : Nat) (f : EncCtx → EncCtx) : (d.modEc h f).touch = d.touch := rfl
@[simp] theorem Dev.modEc_mem (d : Dev) (h : Nat) (f : EncCtx → EncCtx) : (d.modEc h f).mem = d.mem := rfl
@[simp] theorem Dev.modEc_chans (d : Dev) (h : Nat) (f : EncCtx → EncCtx) : (d.modEc h f).chans = d.chans := rfl
@[simp] theorem Dev.modEc_canPorts (d : Dev) (h : Nat) (f : EncCtx → EncCtx) : (d.modEc h f).canPorts = d.canPorts := rfl
@[simp] theorem Dev.modEc_procs (d : Dev) (h : Nat) (f : EncCtx → EncCtx) : (d.modEc h f).procs = d.procs := rfl
@[simp] theorem Dev.modEc_mbx (d : Dev) (h : Nat) (f : EncCtx → EncCtx) : (d.modEc h f).mbx = d.mbx := rfl
@[simp] theorem Dev.modEc_prots (d : Dev) (h : Nat) (f : EncCtx → EncCtx) : (d.modEc h f).prots = d.prots := rfl
@[simp] theorem Dev.modEc_cvus (d : Dev) (h : Nat) (f : EncCtx → EncCtx) : (d.modEc h f).cvus = d.cvus := rfl
@[simp] theorem Dev.modEc_witness (d : Dev) (h : Nat) (f : EncCtx → EncCtx) : (d.modEc h f).witness = d.witness := rfl
@[simp] theorem Dev.modEc_twin (d : Dev) (h : Nat) (f : EncCtx → EncCtx) : (d.modEc h f).twin = d.twin := rfl
@[simp] theorem Dev.modEc_anchor (d : Dev) (h : Nat) (f : EncCtx → EncCtx) : (d.modEc h f).anchor = d.anchor := rfl
@[simp] theorem Dev.modEc_health (d : Dev) (h : Nat) (f : EncCtx → EncCtx) : (d.modEc h f).health = d.health := rfl
@[simp] theorem Dev.modEc_flash (d : Dev) (h : Nat) (f : EncCtx → EncCtx) : (d.modEc h f).flash = d.flash := rfl
@[simp] theorem Dev.modEc_config (d : Dev) (h : Nat) (f : EncCtx → EncCtx) : (d.modEc h f).config = d.config := rfl
@[simp] theorem Dev.modEc_power (d : Dev) (h : Nat) (f : EncCtx → EncCtx) : (d.modEc h f).power = d.power := rfl
@[simp] theorem Dev.ec_modEc (d : Dev) (h : Nat) (f : EncCtx → EncCtx) : (d.modEc h f).ec h = f (d.ec h) := by simp [Dev.modEc, Dev.ec]
theorem Dev.ec_modEc_ne (d : Dev) {h j : Nat} (f : EncCtx → EncCtx) (hj : j ≠ h) : (d.modEc h f).ec j = d.ec j := by
  simp [Dev.modEc, Dev.ec, tget_tset_ne _ _ _ hj]

/-! ### Dev.modEe -/

@[simp] theorem Dev.modEe_clock (d : Dev) (h : Nat) (f : EncEngine → EncEngine) : (d.modEe h f).clock = d.clock := rfl
@[simp] theorem Dev.modEe_freeCtr (d : Dev) (h : Nat) (f : EncEngine → EncEngine) : (d.modEe h f).freeCtr = d.freeCtr := rfl
@[simp] theorem Dev.modEe_sent (d : Dev) (h : Nat) (f : EncEngine → EncEngine) : (d.modEe h f).sent = d.sent := rfl
@[simp] theorem Dev.modEe_dict (d : Dev) (h : Nat) (f : EncEngine → EncEngine) : (d.modEe h f).dict = d.dict := rfl
@[simp] theorem Dev.modEe_ports (d : Dev) (h : Nat) (f : EncEngine → EncEngine) : (d.modEe h f).ports = d.ports := rfl
@[simp] theorem Dev.modEe_rings (d : Dev) (h : Nat) (f : EncEngine → EncEngine) : (d.modEe h f).rings = d.rings := rfl
@[simp] theorem Dev.modEe_ingest (d : Dev) (h : Nat) (f : EncEngine → EncEngine) : (d.modEe h f).ingest = d.ingest := rfl
@[simp] theorem Dev.modEe_rtsp (d : Dev) (h : Nat) (f : EncEngine → EncEngine) : (d.modEe h f).rtsp = d.rtsp := rfl
@[simp] theorem Dev.modEe_time (d : Dev) (h : Nat) (f : EncEngine → EncEngine) : (d.modEe h f).time = d.time := rfl
@[simp] theorem Dev.modEe_triggers (d : Dev) (h : Nat) (f : EncEngine → EncEngine) : (d.modEe h f).triggers = d.triggers := rfl
@[simp] theorem Dev.modEe_ctxs (d : Dev) (h : Nat) (f : EncEngine → EncEngine) : (d.modEe h f).ctxs = d.ctxs := rfl
@[simp] theorem Dev.modEe_engines (d : Dev) (h : Nat) (f : EncEngine → EncEngine) : (d.modEe h f).engines = d.engines := rfl
@[simp] theorem Dev.modEe_groups (d : Dev) (h : Nat) (f : EncEngine → EncEngine) : (d.modEe h f).groups = d.groups := rfl
@[simp] theorem Dev.modEe_shadow (d : Dev) (h : Nat) (f : EncEngine → EncEngine) : (d.modEe h f).shadow = d.shadow := rfl
@[simp] theorem Dev.modEe_activeT (d : Dev) (h : Nat) (f : EncEngine → EncEngine) : (d.modEe h f).activeT = d.activeT := rfl
@[simp] theorem Dev.modEe_layers (d : Dev) (h : Nat) (f : EncEngine → EncEngine) : (d.modEe h f).layers = d.layers := rfl
@[simp] theorem Dev.modEe_slots (d : Dev) (h : Nat) (f : EncEngine → EncEngine) : (d.modEe h f).slots = d.slots := rfl
@[simp] theorem Dev.modEe_heads (d : Dev) (h : Nat) (f : EncEngine → EncEngine) : (d.modEe h f).heads = d.heads := rfl
@[simp] theorem Dev.modEe_pipes (d : Dev) (h : Nat) (f : EncEngine → EncEngine) : (d.modEe h f).pipes = d.pipes := rfl
@[simp] theorem Dev.modEe_bivouac (d : Dev) (h : Nat) (f : EncEngine → EncEngine) : (d.modEe h f).bivouac = d.bivouac := rfl
@[simp] theorem Dev.modEe_pitch (d : Dev) (h : Nat) (f : EncEngine → EncEngine) : (d.modEe h f).pitch = d.pitch := rfl
@[simp] theorem Dev.modEe_pitchStarted (d : Dev) (h : Nat) (f : EncEngine → EncEngine) : (d.modEe h f).pitchStarted = d.pitchStarted := rfl
@[simp] theorem Dev.modEe_pitchAt (d : Dev) (h : Nat) (f : EncEngine → EncEngine) : (d.modEe h f).pitchAt = d.pitchAt := rfl
@[simp] theorem Dev.modEe_links (d : Dev) (h : Nat) (f : EncEngine → EncEngine) : (d.modEe h f).links = d.links := rfl
@[simp] theorem Dev.modEe_lanes (d : Dev) (h : Nat) (f : EncEngine → EncEngine) : (d.modEe h f).lanes = d.lanes := rfl
@[simp] theorem Dev.modEe_rope (d : Dev) (h : Nat) (f : EncEngine → EncEngine) : (d.modEe h f).rope = d.rope := rfl
@[simp] theorem Dev.modEe_enc (d : Dev) (h : Nat) (f : EncEngine → EncEngine) : (d.modEe h f).enc = d.enc := rfl
@[simp] theorem Dev.modEe_panels (d : Dev) (h : Nat) (f : EncEngine → EncEngine) : (d.modEe h f).panels = d.panels := rfl
@[simp] theorem Dev.modEe_touch (d : Dev) (h : Nat) (f : EncEngine → EncEngine) : (d.modEe h f).touch = d.touch := rfl
@[simp] theorem Dev.modEe_mem (d : Dev) (h : Nat) (f : EncEngine → EncEngine) : (d.modEe h f).mem = d.mem := rfl
@[simp] theorem Dev.modEe_chans (d : Dev) (h : Nat) (f : EncEngine → EncEngine) : (d.modEe h f).chans = d.chans := rfl
@[simp] theorem Dev.modEe_canPorts (d : Dev) (h : Nat) (f : EncEngine → EncEngine) : (d.modEe h f).canPorts = d.canPorts := rfl
@[simp] theorem Dev.modEe_procs (d : Dev) (h : Nat) (f : EncEngine → EncEngine) : (d.modEe h f).procs = d.procs := rfl
@[simp] theorem Dev.modEe_mbx (d : Dev) (h : Nat) (f : EncEngine → EncEngine) : (d.modEe h f).mbx = d.mbx := rfl
@[simp] theorem Dev.modEe_prots (d : Dev) (h : Nat) (f : EncEngine → EncEngine) : (d.modEe h f).prots = d.prots := rfl
@[simp] theorem Dev.modEe_cvus (d : Dev) (h : Nat) (f : EncEngine → EncEngine) : (d.modEe h f).cvus = d.cvus := rfl
@[simp] theorem Dev.modEe_witness (d : Dev) (h : Nat) (f : EncEngine → EncEngine) : (d.modEe h f).witness = d.witness := rfl
@[simp] theorem Dev.modEe_twin (d : Dev) (h : Nat) (f : EncEngine → EncEngine) : (d.modEe h f).twin = d.twin := rfl
@[simp] theorem Dev.modEe_anchor (d : Dev) (h : Nat) (f : EncEngine → EncEngine) : (d.modEe h f).anchor = d.anchor := rfl
@[simp] theorem Dev.modEe_health (d : Dev) (h : Nat) (f : EncEngine → EncEngine) : (d.modEe h f).health = d.health := rfl
@[simp] theorem Dev.modEe_flash (d : Dev) (h : Nat) (f : EncEngine → EncEngine) : (d.modEe h f).flash = d.flash := rfl
@[simp] theorem Dev.modEe_config (d : Dev) (h : Nat) (f : EncEngine → EncEngine) : (d.modEe h f).config = d.config := rfl
@[simp] theorem Dev.modEe_power (d : Dev) (h : Nat) (f : EncEngine → EncEngine) : (d.modEe h f).power = d.power := rfl
@[simp] theorem Dev.ee_modEe (d : Dev) (h : Nat) (f : EncEngine → EncEngine) : (d.modEe h f).ee h = f (d.ee h) := by simp [Dev.modEe, Dev.ee]
theorem Dev.ee_modEe_ne (d : Dev) {h j : Nat} (f : EncEngine → EncEngine) (hj : j ≠ h) : (d.modEe h f).ee j = d.ee j := by
  simp [Dev.modEe, Dev.ee, tget_tset_ne _ _ _ hj]

/-! ### Dev.modPn -/

@[simp] theorem Dev.modPn_clock (d : Dev) (h : Nat) (f : Panel → Panel) : (d.modPn h f).clock = d.clock := rfl
@[simp] theorem Dev.modPn_freeCtr (d : Dev) (h : Nat) (f : Panel → Panel) : (d.modPn h f).freeCtr = d.freeCtr := rfl
@[simp] theorem Dev.modPn_sent (d : Dev) (h : Nat) (f : Panel → Panel) : (d.modPn h f).sent = d.sent := rfl
@[simp] theorem Dev.modPn_dict (d : Dev) (h : Nat) (f : Panel → Panel) : (d.modPn h f).dict = d.dict := rfl
@[simp] theorem Dev.modPn_ports (d : Dev) (h : Nat) (f : Panel → Panel) : (d.modPn h f).ports = d.ports := rfl
@[simp] theorem Dev.modPn_rings (d : Dev) (h : Nat) (f : Panel → Panel) : (d.modPn h f).rings = d.rings := rfl
@[simp] theorem Dev.modPn_ingest (d : Dev) (h : Nat) (f : Panel → Panel) : (d.modPn h f).ingest = d.ingest := rfl
@[simp] theorem Dev.modPn_rtsp (d : Dev) (h : Nat) (f : Panel → Panel) : (d.modPn h f).rtsp = d.rtsp := rfl
@[simp] theorem Dev.modPn_time (d : Dev) (h : Nat) (f : Panel → Panel) : (d.modPn h f).time = d.time := rfl
@[simp] theorem Dev.modPn_triggers (d : Dev) (h : Nat) (f : Panel → Panel) : (d.modPn h f).triggers = d.triggers := rfl
@[simp] theorem Dev.modPn_ctxs (d : Dev) (h : Nat) (f : Panel → Panel) : (d.modPn h f).ctxs = d.ctxs := rfl
@[simp] theorem Dev.modPn_engines (d : Dev) (h : Nat) (f : Panel → Panel) : (d.modPn h f).engines = d.engines := rfl
@[simp] theorem Dev.modPn_groups (d : Dev) (h : Nat) (f : Panel → Panel) : (d.modPn h f).groups = d.groups := rfl
@[simp] theorem Dev.modPn_shadow (d : Dev) (h : Nat) (f : Panel → Panel) : (d.modPn h f).shadow = d.shadow := rfl
@[simp] theorem Dev.modPn_activeT (d : Dev) (h : Nat) (f : Panel → Panel) : (d.modPn h f).activeT = d.activeT := rfl
@[simp] theorem Dev.modPn_layers (d : Dev) (h : Nat) (f : Panel → Panel) : (d.modPn h f).layers = d.layers := rfl
@[simp] theorem Dev.modPn_slots (d : Dev) (h : Nat) (f : Panel → Panel) : (d.modPn h f).slots = d.slots := rfl
@[simp] theorem Dev.modPn_heads (d : Dev) (h : Nat) (f : Panel → Panel) : (d.modPn h f).heads = d.heads := rfl
@[simp] theorem Dev.modPn_pipes (d : Dev) (h : Nat) (f : Panel → Panel) : (d.modPn h f).pipes = d.pipes := rfl
@[simp] theorem Dev.modPn_bivouac (d : Dev) (h : Nat) (f : Panel → Panel) : (d.modPn h f).bivouac = d.bivouac := rfl
@[simp] theorem Dev.modPn_pitch (d : Dev) (h : Nat) (f : Panel → Panel) : (d.modPn h f).pitch = d.pitch := rfl
@[simp] theorem Dev.modPn_pitchStarted (d : Dev) (h : Nat) (f : Panel → Panel) : (d.modPn h f).pitchStarted = d.pitchStarted := rfl
@[simp] theorem Dev.modPn_pitchAt (d : Dev) (h : Nat) (f : Panel → Panel) : (d.modPn h f).pitchAt = d.pitchAt := rfl
@[simp] theorem Dev.modPn_links (d : Dev) (h : Nat) (f : Panel → Panel) : (d.modPn h f).links = d.links := rfl
@[simp] theorem Dev.modPn_lanes (d : Dev) (h : Nat) (f : Panel → Panel) : (d.modPn h f).lanes = d.lanes := rfl
@[simp] theorem Dev.modPn_rope (d : Dev) (h : Nat) (f : Panel → Panel) : (d.modPn h f).rope = d.rope := rfl
@[simp] theorem Dev.modPn_enc (d : Dev) (h : Nat) (f : Panel → Panel) : (d.modPn h f).enc = d.enc := rfl
@[simp] theorem Dev.modPn_encEngines (d : Dev) (h : Nat) (f : Panel → Panel) : (d.modPn h f).encEngines = d.encEngines := rfl
@[simp] theorem Dev.modPn_touch (d : Dev) (h : Nat) (f : Panel → Panel) : (d.modPn h f).touch = d.touch := rfl
@[simp] theorem Dev.modPn_mem (d : Dev) (h : Nat) (f : Panel → Panel) : (d.modPn h f).mem = d.mem := rfl
@[simp] theorem Dev.modPn_chans (d : Dev) (h : Nat) (f : Panel → Panel) : (d.modPn h f).chans = d.chans := rfl
@[simp] theorem Dev.modPn_canPorts (d : Dev) (h : Nat) (f : Panel → Panel) : (d.modPn h f).canPorts = d.canPorts := rfl
@[simp] theorem Dev.modPn_procs (d : Dev) (h : Nat) (f : Panel → Panel) : (d.modPn h f).procs = d.procs := rfl
@[simp] theorem Dev.modPn_mbx (d : Dev) (h : Nat) (f : Panel → Panel) : (d.modPn h f).mbx = d.mbx := rfl
@[simp] theorem Dev.modPn_prots (d : Dev) (h : Nat) (f : Panel → Panel) : (d.modPn h f).prots = d.prots := rfl
@[simp] theorem Dev.modPn_cvus (d : Dev) (h : Nat) (f : Panel → Panel) : (d.modPn h f).cvus = d.cvus := rfl
@[simp] theorem Dev.modPn_witness (d : Dev) (h : Nat) (f : Panel → Panel) : (d.modPn h f).witness = d.witness := rfl
@[simp] theorem Dev.modPn_twin (d : Dev) (h : Nat) (f : Panel → Panel) : (d.modPn h f).twin = d.twin := rfl
@[simp] theorem Dev.modPn_anchor (d : Dev) (h : Nat) (f : Panel → Panel) : (d.modPn h f).anchor = d.anchor := rfl
@[simp] theorem Dev.modPn_health (d : Dev) (h : Nat) (f : Panel → Panel) : (d.modPn h f).health = d.health := rfl
@[simp] theorem Dev.modPn_flash (d : Dev) (h : Nat) (f : Panel → Panel) : (d.modPn h f).flash = d.flash := rfl
@[simp] theorem Dev.modPn_config (d : Dev) (h : Nat) (f : Panel → Panel) : (d.modPn h f).config = d.config := rfl
@[simp] theorem Dev.modPn_power (d : Dev) (h : Nat) (f : Panel → Panel) : (d.modPn h f).power = d.power := rfl
@[simp] theorem Dev.pn_modPn (d : Dev) (h : Nat) (f : Panel → Panel) : (d.modPn h f).pn h = f (d.pn h) := by simp [Dev.modPn, Dev.pn]
theorem Dev.pn_modPn_ne (d : Dev) {h j : Nat} (f : Panel → Panel) (hj : j ≠ h) : (d.modPn h f).pn j = d.pn j := by
  simp [Dev.modPn, Dev.pn, tget_tset_ne _ _ _ hj]

/-! ### Dev.modCh -/

@[simp] theorem Dev.modCh_clock (d : Dev) (h : Nat) (f : Channel → Channel) : (d.modCh h f).clock = d.clock := rfl
@[simp] theorem Dev.modCh_freeCtr (d : Dev) (h : Nat) (f : Channel → Channel) : (d.modCh h f).freeCtr = d.freeCtr := rfl
@[simp] theorem Dev.modCh_sent (d : Dev) (h : Nat) (f : Channel → Channel) : (d.modCh h f).sent = d.sent := rfl
@[simp] theorem Dev.modCh_dict (d : Dev) (h : Nat) (f : Channel → Channel) : (d.modCh h f).dict = d.dict := rfl
@[simp] theorem Dev.modCh_ports (d : Dev) (h : Nat) (f : Channel → Channel) : (d.modCh h f).ports = d.ports := rfl
@[simp] theorem Dev.modCh_rings (d : Dev) (h : Nat) (f : Channel → Channel) : (d.modCh h f).rings = d.rings := rfl
@[simp] theorem Dev.modCh_ingest (d : Dev) (h : Nat) (f : Channel → Channel) : (d.modCh h f).ingest = d.ingest := rfl
@[simp] theorem Dev.modCh_rtsp (d : Dev) (h : Nat) (f : Channel → Channel) : (d.modCh h f).rtsp = d.rtsp := rfl
@[simp] theorem Dev.modCh_time (d : Dev) (h : Nat) (f : Channel → Channel) : (d.modCh h f).time = d.time := rfl
@[simp] theorem Dev.modCh_triggers (d : Dev) (h : Nat) (f : Channel → Channel) : (d.modCh h f).triggers = d.triggers := rfl
@[simp] theorem Dev.modCh_ctxs (d : Dev) (h : Nat) (f : Channel → Channel) : (d.modCh h f).ctxs = d.ctxs := rfl
@[simp] theorem Dev.modCh_engines (d : Dev) (h : Nat) (f : Channel → Channel) : (d.modCh h f).engines = d.engines := rfl
@[simp] theorem Dev.modCh_groups (d : Dev) (h : Nat) (f : Channel → Channel) : (d.modCh h f).groups = d.groups := rfl
@[simp] theorem Dev.modCh_shadow (d : Dev) (h : Nat) (f : Channel → Channel) : (d.modCh h f).shadow = d.shadow := rfl
@[simp] theorem Dev.modCh_activeT (d : Dev) (h : Nat) (f : Channel → Channel) : (d.modCh h f).activeT = d.activeT := rfl
@[simp] theorem Dev.modCh_layers (d : Dev) (h : Nat) (f : Channel → Channel) : (d.modCh h f).layers = d.layers := rfl
@[simp] theorem Dev.modCh_slots (d : Dev) (h : Nat) (f : Channel → Channel) : (d.modCh h f).slots = d.slots := rfl
@[simp] theorem Dev.modCh_heads (d : Dev) (h : Nat) (f : Channel → Channel) : (d.modCh h f).heads = d.heads := rfl
@[simp] theorem Dev.modCh_pipes (d : Dev) (h : Nat) (f : Channel → Channel) : (d.modCh h f).pipes = d.pipes := rfl
@[simp] theorem Dev.modCh_bivouac (d : Dev) (h : Nat) (f : Channel → Channel) : (d.modCh h f).bivouac = d.bivouac := rfl
@[simp] theorem Dev.modCh_pitch (d : Dev) (h : Nat) (f : Channel → Channel) : (d.modCh h f).pitch = d.pitch := rfl
@[simp] theorem Dev.modCh_pitchStarted (d : Dev) (h : Nat) (f : Channel → Channel) : (d.modCh h f).pitchStarted = d.pitchStarted := rfl
@[simp] theorem Dev.modCh_pitchAt (d : Dev) (h : Nat) (f : Channel → Channel) : (d.modCh h f).pitchAt = d.pitchAt := rfl
@[simp] theorem Dev.modCh_links (d : Dev) (h : Nat) (f : Channel → Channel) : (d.modCh h f).links = d.links := rfl
@[simp] theorem Dev.modCh_lanes (d : Dev) (h : Nat) (f : Channel → Channel) : (d.modCh h f).lanes = d.lanes := rfl
@[simp] theorem Dev.modCh_rope (d : Dev) (h : Nat) (f : Channel → Channel) : (d.modCh h f).rope = d.rope := rfl
@[simp] theorem Dev.modCh_enc (d : Dev) (h : Nat) (f : Channel → Channel) : (d.modCh h f).enc = d.enc := rfl
@[simp] theorem Dev.modCh_encEngines (d : Dev) (h : Nat) (f : Channel → Channel) : (d.modCh h f).encEngines = d.encEngines := rfl
@[simp] theorem Dev.modCh_panels (d : Dev) (h : Nat) (f : Channel → Channel) : (d.modCh h f).panels = d.panels := rfl
@[simp] theorem Dev.modCh_touch (d : Dev) (h : Nat) (f : Channel → Channel) : (d.modCh h f).touch = d.touch := rfl
@[simp] theorem Dev.modCh_mem (d : Dev) (h : Nat) (f : Channel → Channel) : (d.modCh h f).mem = d.mem := rfl
@[simp] theorem Dev.modCh_canPorts (d : Dev) (h : Nat) (f : Channel → Channel) : (d.modCh h f).canPorts = d.canPorts := rfl
@[simp] theorem Dev.modCh_procs (d : Dev) (h : Nat) (f : Channel → Channel) : (d.modCh h f).procs = d.procs := rfl
@[simp] theorem Dev.modCh_mbx (d : Dev) (h : Nat) (f : Channel → Channel) : (d.modCh h f).mbx = d.mbx := rfl
@[simp] theorem Dev.modCh_prots (d : Dev) (h : Nat) (f : Channel → Channel) : (d.modCh h f).prots = d.prots := rfl
@[simp] theorem Dev.modCh_cvus (d : Dev) (h : Nat) (f : Channel → Channel) : (d.modCh h f).cvus = d.cvus := rfl
@[simp] theorem Dev.modCh_witness (d : Dev) (h : Nat) (f : Channel → Channel) : (d.modCh h f).witness = d.witness := rfl
@[simp] theorem Dev.modCh_twin (d : Dev) (h : Nat) (f : Channel → Channel) : (d.modCh h f).twin = d.twin := rfl
@[simp] theorem Dev.modCh_anchor (d : Dev) (h : Nat) (f : Channel → Channel) : (d.modCh h f).anchor = d.anchor := rfl
@[simp] theorem Dev.modCh_health (d : Dev) (h : Nat) (f : Channel → Channel) : (d.modCh h f).health = d.health := rfl
@[simp] theorem Dev.modCh_flash (d : Dev) (h : Nat) (f : Channel → Channel) : (d.modCh h f).flash = d.flash := rfl
@[simp] theorem Dev.modCh_config (d : Dev) (h : Nat) (f : Channel → Channel) : (d.modCh h f).config = d.config := rfl
@[simp] theorem Dev.modCh_power (d : Dev) (h : Nat) (f : Channel → Channel) : (d.modCh h f).power = d.power := rfl
@[simp] theorem Dev.ch_modCh (d : Dev) (h : Nat) (f : Channel → Channel) : (d.modCh h f).ch h = f (d.ch h) := by simp [Dev.modCh, Dev.ch]
theorem Dev.ch_modCh_ne (d : Dev) {h j : Nat} (f : Channel → Channel) (hj : j ≠ h) : (d.modCh h f).ch j = d.ch j := by
  simp [Dev.modCh, Dev.ch, tget_tset_ne _ _ _ hj]

/-! ### Dev.modCan -/

@[simp] theorem Dev.modCan_clock (d : Dev) (h : Nat) (f : CanPort → CanPort) : (d.modCan h f).clock = d.clock := rfl
@[simp] theorem Dev.modCan_freeCtr (d : Dev) (h : Nat) (f : CanPort → CanPort) : (d.modCan h f).freeCtr = d.freeCtr := rfl
@[simp] theorem Dev.modCan_sent (d : Dev) (h : Nat) (f : CanPort → CanPort) : (d.modCan h f).sent = d.sent := rfl
@[simp] theorem Dev.modCan_dict (d : Dev) (h : Nat) (f : CanPort → CanPort) : (d.modCan h f).dict = d.dict := rfl
@[simp] theorem Dev.modCan_ports (d : Dev) (h : Nat) (f : CanPort → CanPort) : (d.modCan h f).ports = d.ports := rfl
@[simp] theorem Dev.modCan_rings (d : Dev) (h : Nat) (f : CanPort → CanPort) : (d.modCan h f).rings = d.rings := rfl
@[simp] theorem Dev.modCan_ingest (d : Dev) (h : Nat) (f : CanPort → CanPort) : (d.modCan h f).ingest = d.ingest := rfl
@[simp] theorem Dev.modCan_rtsp (d : Dev) (h : Nat) (f : CanPort → CanPort) : (d.modCan h f).rtsp = d.rtsp := rfl
@[simp] theorem Dev.modCan_time (d : Dev) (h : Nat) (f : CanPort → CanPort) : (d.modCan h f).time = d.time := rfl
@[simp] theorem Dev.modCan_triggers (d : Dev) (h : Nat) (f : CanPort → CanPort) : (d.modCan h f).triggers = d.triggers := rfl
@[simp] theorem Dev.modCan_ctxs (d : Dev) (h : Nat) (f : CanPort → CanPort) : (d.modCan h f).ctxs = d.ctxs := rfl
@[simp] theorem Dev.modCan_engines (d : Dev) (h : Nat) (f : CanPort → CanPort) : (d.modCan h f).engines = d.engines := rfl
@[simp] theorem Dev.modCan_groups (d : Dev) (h : Nat) (f : CanPort → CanPort) : (d.modCan h f).groups = d.groups := rfl
@[simp] theorem Dev.modCan_shadow (d : Dev) (h : Nat) (f : CanPort → CanPort) : (d.modCan h f).shadow = d.shadow := rfl
@[simp] theorem Dev.modCan_activeT (d : Dev) (h : Nat) (f : CanPort → CanPort) : (d.modCan h f).activeT = d.activeT := rfl
@[simp] theorem Dev.modCan_layers (d : Dev) (h : Nat) (f : CanPort → CanPort) : (d.modCan h f).layers = d.layers := rfl
@[simp] theorem Dev.modCan_slots (d : Dev) (h : Nat) (f : CanPort → CanPort) : (d.modCan h f).slots = d.slots := rfl
@[simp] theorem Dev.modCan_heads (d : Dev) (h : Nat) (f : CanPort → CanPort) : (d.modCan h f).heads = d.heads := rfl
@[simp] theorem Dev.modCan_pipes (d : Dev) (h : Nat) (f : CanPort → CanPort) : (d.modCan h f).pipes = d.pipes := rfl
@[simp] theorem Dev.modCan_bivouac (d : Dev) (h : Nat) (f : CanPort → CanPort) : (d.modCan h f).bivouac = d.bivouac := rfl
@[simp] theorem Dev.modCan_pitch (d : Dev) (h : Nat) (f : CanPort → CanPort) : (d.modCan h f).pitch = d.pitch := rfl
@[simp] theorem Dev.modCan_pitchStarted (d : Dev) (h : Nat) (f : CanPort → CanPort) : (d.modCan h f).pitchStarted = d.pitchStarted := rfl
@[simp] theorem Dev.modCan_pitchAt (d : Dev) (h : Nat) (f : CanPort → CanPort) : (d.modCan h f).pitchAt = d.pitchAt := rfl
@[simp] theorem Dev.modCan_links (d : Dev) (h : Nat) (f : CanPort → CanPort) : (d.modCan h f).links = d.links := rfl
@[simp] theorem Dev.modCan_lanes (d : Dev) (h : Nat) (f : CanPort → CanPort) : (d.modCan h f).lanes = d.lanes := rfl
@[simp] theorem Dev.modCan_rope (d : Dev) (h : Nat) (f : CanPort → CanPort) : (d.modCan h f).rope = d.rope := rfl
@[simp] theorem Dev.modCan_enc (d : Dev) (h : Nat) (f : CanPort → CanPort) : (d.modCan h f).enc = d.enc := rfl
@[simp] theorem Dev.modCan_encEngines (d : Dev) (h : Nat) (f : CanPort → CanPort) : (d.modCan h f).encEngines = d.encEngines := rfl
@[simp] theorem Dev.modCan_panels (d : Dev) (h : Nat) (f : CanPort → CanPort) : (d.modCan h f).panels = d.panels := rfl
@[simp] theorem Dev.modCan_touch (d : Dev) (h : Nat) (f : CanPort → CanPort) : (d.modCan h f).touch = d.touch := rfl
@[simp] theorem Dev.modCan_mem (d : Dev) (h : Nat) (f : CanPort → CanPort) : (d.modCan h f).mem = d.mem := rfl
@[simp] theorem Dev.modCan_chans (d : Dev) (h : Nat) (f : CanPort → CanPort) : (d.modCan h f).chans = d.chans := rfl
@[simp] theorem Dev.modCan_procs (d : Dev) (h : Nat) (f : CanPort → CanPort) : (d.modCan h f).procs = d.procs := rfl
@[simp] theorem Dev.modCan_mbx (d : Dev) (h : Nat) (f : CanPort → CanPort) : (d.modCan h f).mbx = d.mbx := rfl
@[simp] theorem Dev.modCan_prots (d : Dev) (h : Nat) (f : CanPort → CanPort) : (d.modCan h f).prots = d.prots := rfl
@[simp] theorem Dev.modCan_cvus (d : Dev) (h : Nat) (f : CanPort → CanPort) : (d.modCan h f).cvus = d.cvus := rfl
@[simp] theorem Dev.modCan_witness (d : Dev) (h : Nat) (f : CanPort → CanPort) : (d.modCan h f).witness = d.witness := rfl
@[simp] theorem Dev.modCan_twin (d : Dev) (h : Nat) (f : CanPort → CanPort) : (d.modCan h f).twin = d.twin := rfl
@[simp] theorem Dev.modCan_anchor (d : Dev) (h : Nat) (f : CanPort → CanPort) : (d.modCan h f).anchor = d.anchor := rfl
@[simp] theorem Dev.modCan_health (d : Dev) (h : Nat) (f : CanPort → CanPort) : (d.modCan h f).health = d.health := rfl
@[simp] theorem Dev.modCan_flash (d : Dev) (h : Nat) (f : CanPort → CanPort) : (d.modCan h f).flash = d.flash := rfl
@[simp] theorem Dev.modCan_config (d : Dev) (h : Nat) (f : CanPort → CanPort) : (d.modCan h f).config = d.config := rfl
@[simp] theorem Dev.modCan_power (d : Dev) (h : Nat) (f : CanPort → CanPort) : (d.modCan h f).power = d.power := rfl
@[simp] theorem Dev.can_modCan (d : Dev) (h : Nat) (f : CanPort → CanPort) : (d.modCan h f).can h = f (d.can h) := by simp [Dev.modCan, Dev.can]
theorem Dev.can_modCan_ne (d : Dev) {h j : Nat} (f : CanPort → CanPort) (hj : j ≠ h) : (d.modCan h f).can j = d.can j := by
  simp [Dev.modCan, Dev.can, tget_tset_ne _ _ _ hj]

/-! ### Dev.modProc -/

@[simp] theorem Dev.modProc_clock (d : Dev) (h : Nat) (f : Proc → Proc) : (d.modProc h f).clock = d.clock := rfl
@[simp] theorem Dev.modProc_freeCtr (d : Dev) (h : Nat) (f : Proc → Proc) : (d.modProc h f).freeCtr = d.freeCtr := rfl
@[simp] theorem Dev.modProc_sent (d : Dev) (h : Nat) (f : Proc → Proc) : (d.modProc h f).sent = d.sent := rfl
@[simp] theorem Dev.modProc_dict (d : Dev) (h : Nat) (f : Proc → Proc) : (d.modProc h f).dict = d.dict := rfl
@[simp] theorem Dev.modProc_ports (d : Dev) (h : Nat) (f : Proc → Proc) : (d.modProc h f).ports = d.ports := rfl
@[simp] theorem Dev.modProc_rings (d : Dev) (h : Nat) (f : Proc → Proc) : (d.modProc h f).rings = d.rings := rfl
@[simp] theorem Dev.modProc_ingest (d : Dev) (h : Nat) (f : Proc → Proc) : (d.modProc h f).ingest = d.ingest := rfl
@[simp] theorem Dev.modProc_rtsp (d : Dev) (h : Nat) (f : Proc → Proc) : (d.modProc h f).rtsp = d.rtsp := rfl
@[simp] theorem Dev.modProc_time (d : Dev) (h : Nat) (f : Proc → Proc) : (d.modProc h f).time = d.time := rfl
@[simp] theorem Dev.modProc_triggers (d : Dev) (h : Nat) (f : Proc → Proc) : (d.modProc h f).triggers = d.triggers := rfl
@[simp] theorem Dev.modProc_ctxs (d : Dev) (h : Nat) (f : Proc → Proc) : (d.modProc h f).ctxs = d.ctxs := rfl
@[simp] theorem Dev.modProc_engines (d : Dev) (h : Nat) (f : Proc → Proc) : (d.modProc h f).engines = d.engines := rfl
@[simp] theorem Dev.modProc_groups (d : Dev) (h : Nat) (f : Proc → Proc) : (d.modProc h f).groups = d.groups := rfl
@[simp] theorem Dev.modProc_shadow (d : Dev) (h : Nat) (f : Proc → Proc) : (d.modProc h f).shadow = d.shadow := rfl
@[simp] theorem Dev.modProc_activeT (d : Dev) (h : Nat) (f : Proc → Proc) : (d.modProc h f).activeT = d.activeT := rfl
@[simp] theorem Dev.modProc_layers (d : Dev) (h : Nat) (f : Proc → Proc) : (d.modProc h f).layers = d.layers := rfl
@[simp] theorem Dev.modProc_slots (d : Dev) (h : Nat) (f : Proc → Proc) : (d.modProc h f).slots = d.slots := rfl
@[simp] theorem Dev.modProc_heads (d : Dev) (h : Nat) (f : Proc → Proc) : (d.modProc h f).heads = d.heads := rfl
@[simp] theorem Dev.modProc_pipes (d : Dev) (h : Nat) (f : Proc → Proc) : (d.modProc h f).pipes = d.pipes := rfl
@[simp] theorem Dev.modProc_bivouac (d : Dev) (h : Nat) (f : Proc → Proc) : (d.modProc h f).bivouac = d.bivouac := rfl
@[simp] theorem Dev.modProc_pitch (d : Dev) (h : Nat) (f : Proc → Proc) : (d.modProc h f).pitch = d.pitch := rfl
@[simp] theorem Dev.modProc_pitchStarted (d : Dev) (h : Nat) (f : Proc → Proc) : (d.modProc h f).pitchStarted = d.pitchStarted := rfl
@[simp] theorem Dev.modProc_pitchAt (d : Dev) (h : Nat) (f : Proc → Proc) : (d.modProc h f).pitchAt = d.pitchAt := rfl
@[simp] theorem Dev.modProc_links (d : Dev) (h : Nat) (f : Proc → Proc) : (d.modProc h f).links = d.links := rfl
@[simp] theorem Dev.modProc_lanes (d : Dev) (h : Nat) (f : Proc → Proc) : (d.modProc h f).lanes = d.lanes := rfl
@[simp] theorem Dev.modProc_rope (d : Dev) (h : Nat) (f : Proc → Proc) : (d.modProc h f).rope = d.rope := rfl
@[simp] theorem Dev.modProc_enc (d : Dev) (h : Nat) (f : Proc → Proc) : (d.modProc h f).enc = d.enc := rfl
@[simp] theorem Dev.modProc_encEngines (d : Dev) (h : Nat) (f : Proc → Proc) : (d.modProc h f).encEngines = d.encEngines := rfl
@[simp] theorem Dev.modProc_panels (d : Dev) (h : Nat) (f : Proc → Proc) : (d.modProc h f).panels = d.panels := rfl
@[simp] theorem Dev.modProc_touch (d : Dev) (h : Nat) (f : Proc → Proc) : (d.modProc h f).touch = d.touch := rfl
@[simp] theorem Dev.modProc_mem (d : Dev) (h : Nat) (f : Proc → Proc) : (d.modProc h f).mem = d.mem := rfl
@[simp] theorem Dev.modProc_chans (d : Dev) (h : Nat) (f : Proc → Proc) : (d.modProc h f).chans = d.chans := rfl
@[simp] theorem Dev.modProc_canPorts (d : Dev) (h : Nat) (f : Proc → Proc) : (d.modProc h f).canPorts = d.canPorts := rfl
@[simp] theorem Dev.modProc_mbx (d : Dev) (h : Nat) (f : Proc → Proc) : (d.modProc h f).mbx = d.mbx := rfl
@[simp] theorem Dev.modProc_prots (d : Dev) (h : Nat) (f : Proc → Proc) : (d.modProc h f).prots = d.prots := rfl
@[simp] theorem Dev.modProc_cvus (d : Dev) (h : Nat) (f : Proc → Proc) : (d.modProc h f).cvus = d.cvus := rfl
@[simp] theorem Dev.modProc_witness (d : Dev) (h : Nat) (f : Proc → Proc) : (d.modProc h f).witness = d.witness := rfl
@[simp] theorem Dev.modProc_twin (d : Dev) (h : Nat) (f : Proc → Proc) : (d.modProc h f).twin = d.twin := rfl
@[simp] theorem Dev.modProc_anchor (d : Dev) (h : Nat) (f : Proc → Proc) : (d.modProc h f).anchor = d.anchor := rfl
@[simp] theorem Dev.modProc_health (d : Dev) (h : Nat) (f : Proc → Proc) : (d.modProc h f).health = d.health := rfl
@[simp] theorem Dev.modProc_flash (d : Dev) (h : Nat) (f : Proc → Proc) : (d.modProc h f).flash = d.flash := rfl
@[simp] theorem Dev.modProc_config (d : Dev) (h : Nat) (f : Proc → Proc) : (d.modProc h f).config = d.config := rfl
@[simp] theorem Dev.modProc_power (d : Dev) (h : Nat) (f : Proc → Proc) : (d.modProc h f).power = d.power := rfl
@[simp] theorem Dev.proc_modProc (d : Dev) (h : Nat) (f : Proc → Proc) : (d.modProc h f).proc h = f (d.proc h) := by simp [Dev.modProc, Dev.proc]
theorem Dev.proc_modProc_ne (d : Dev) {h j : Nat} (f : Proc → Proc) (hj : j ≠ h) : (d.modProc h f).proc j = d.proc j := by
  simp [Dev.modProc, Dev.proc, tget_tset_ne _ _ _ hj]

/-! ### Dev.modMb -/

@[simp] theorem Dev.modMb_clock (d : Dev) (h : Nat) (f : Mbx → Mbx) : (d.modMb h f).clock = d.clock := rfl
@[simp] theorem Dev.modMb_freeCtr (d : Dev) (h : Nat) (f : Mbx → Mbx) : (d.modMb h f).freeCtr = d.freeCtr := rfl
@[simp] theorem Dev.modMb_sent (d : Dev) (h : Nat) (f : Mbx → Mbx) : (d.modMb h f).sent = d.sent := rfl
@[simp] theorem Dev.modMb_dict (d : Dev) (h : Nat) (f : Mbx → Mbx) : (d.modMb h f).dict = d.dict := rfl
@[simp] theorem Dev.modMb_ports (d : Dev) (h : Nat) (f : Mbx → Mbx) : (d.modMb h f).ports = d.ports := rfl
@[simp] theorem Dev.modMb_rings (d : Dev) (h : Nat) (f : Mbx → Mbx) : (d.modMb h f).rings = d.rings := rfl
@[simp] theorem Dev.modMb_ingest (d : Dev) (h : Nat) (f : Mbx → Mbx) : (d.modMb h f).ingest = d.ingest := rfl
@[simp] theorem Dev.modMb_rtsp (d : Dev) (h : Nat) (f : Mbx → Mbx) : (d.modMb h f).rtsp = d.rtsp := rfl
@[simp] theorem Dev.modMb_time (d : Dev) (h : Nat) (f : Mbx → Mbx) : (d.modMb h f).time = d.time := rfl
@[simp] theorem Dev.modMb_triggers (d : Dev) (h : Nat) (f : Mbx → Mbx) : (d.modMb h f).triggers = d.triggers := rfl
@[simp] theorem Dev.modMb_ctxs (d : Dev) (h : Nat) (f : Mbx → Mbx) : (d.modMb h f).ctxs = d.ctxs := rfl
@[simp] theorem Dev.modMb_engines (d : Dev) (h : Nat) (f : Mbx → Mbx) : (d.modMb h f).engines = d.engines := rfl
@[simp] theorem Dev.modMb_groups (d : Dev) (h : Nat) (f : Mbx → Mbx) : (d.modMb h f).groups = d.groups := rfl
@[simp] theorem Dev.modMb_shadow (d : Dev) (h : Nat) (f : Mbx → Mbx) : (d.modMb h f).shadow = d.shadow := rfl
@[simp] theorem Dev.modMb_activeT (d : Dev) (h : Nat) (f : Mbx → Mbx) : (d.modMb h f).activeT = d.activeT := rfl
@[simp] theorem Dev.modMb_layers (d : Dev) (h : Nat) (f : Mbx → Mbx) : (d.modMb h f).layers = d.layers := rfl
@[simp] theorem Dev.modMb_slots (d : Dev) (h : Nat) (f : Mbx → Mbx) : (d.modMb h f).slots = d.slots := rfl
@[simp] theorem Dev.modMb_heads (d : Dev) (h : Nat) (f : Mbx → Mbx) : (d.modMb h f).heads = d.heads := rfl
@[simp] theorem Dev.modMb_pipes (d : Dev) (h : Nat) (f : Mbx → Mbx) : (d.modMb h f).pipes = d.pipes := rfl
@[simp] theorem Dev.modMb_bivouac (d : Dev) (h : Nat) (f : Mbx → Mbx) : (d.modMb h f).bivouac = d.bivouac := rfl
@[simp] theorem Dev.modMb_pitch (d : Dev) (h : Nat) (f : Mbx → Mbx) : (d.modMb h f).pitch = d.pitch := rfl
@[simp] theorem Dev.modMb_pitchStarted (d : Dev) (h : Nat) (f : Mbx → Mbx) : (d.modMb h f).pitchStarted = d.pitchStarted := rfl
@[simp] theorem Dev.modMb_pitchAt (d : Dev) (h : Nat) (f : Mbx → Mbx) : (d.modMb h f).pitchAt = d.pitchAt := rfl
@[simp] theorem Dev.modMb_links (d : Dev) (h : Nat) (f : Mbx → Mbx) : (d.modMb h f).links = d.links := rfl
@[simp] theorem Dev.modMb_lanes (d : Dev) (h : Nat) (f : Mbx → Mbx) : (d.modMb h f).lanes = d.lanes := rfl
@[simp] theorem Dev.modMb_rope (d : Dev) (h : Nat) (f : Mbx → Mbx) : (d.modMb h f).rope = d.rope := rfl
@[simp] theorem Dev.modMb_enc (d : Dev) (h : Nat) (f : Mbx → Mbx) : (d.modMb h f).enc = d.enc := rfl
@[simp] theorem Dev.modMb_encEngines (d : Dev) (h : Nat) (f : Mbx → Mbx) : (d.modMb h f).encEngines = d.encEngines := rfl
@[simp] theorem Dev.modMb_panels (d : Dev) (h : Nat) (f : Mbx → Mbx) : (d.modMb h f).panels = d.panels := rfl
@[simp] theorem Dev.modMb_touch (d : Dev) (h : Nat) (f : Mbx → Mbx) : (d.modMb h f).touch = d.touch := rfl
@[simp] theorem Dev.modMb_mem (d : Dev) (h : Nat) (f : Mbx → Mbx) : (d.modMb h f).mem = d.mem := rfl
@[simp] theorem Dev.modMb_chans (d : Dev) (h : Nat) (f : Mbx → Mbx) : (d.modMb h f).chans = d.chans := rfl
@[simp] theorem Dev.modMb_canPorts (d : Dev) (h : Nat) (f : Mbx → Mbx) : (d.modMb h f).canPorts = d.canPorts := rfl
@[simp] theorem Dev.modMb_procs (d : Dev) (h : Nat) (f : Mbx → Mbx) : (d.modMb h f).procs = d.procs := rfl
@[simp] theorem Dev.modMb_prots (d : Dev) (h : Nat) (f : Mbx → Mbx) : (d.modMb h f).prots = d.prots := rfl
@[simp] theorem Dev.modMb_cvus (d : Dev) (h : Nat) (f : Mbx → Mbx) : (d.modMb h f).cvus = d.cvus := rfl
@[simp] theorem Dev.modMb_witness (d : Dev) (h : Nat) (f : Mbx → Mbx) : (d.modMb h f).witness = d.witness := rfl
@[simp] theorem Dev.modMb_twin (d : Dev) (h : Nat) (f : Mbx → Mbx) : (d.modMb h f).twin = d.twin := rfl
@[simp] theorem Dev.modMb_anchor (d : Dev) (h : Nat) (f : Mbx → Mbx) : (d.modMb h f).anchor = d.anchor := rfl
@[simp] theorem Dev.modMb_health (d : Dev) (h : Nat) (f : Mbx → Mbx) : (d.modMb h f).health = d.health := rfl
@[simp] theorem Dev.modMb_flash (d : Dev) (h : Nat) (f : Mbx → Mbx) : (d.modMb h f).flash = d.flash := rfl
@[simp] theorem Dev.modMb_config (d : Dev) (h : Nat) (f : Mbx → Mbx) : (d.modMb h f).config = d.config := rfl
@[simp] theorem Dev.modMb_power (d : Dev) (h : Nat) (f : Mbx → Mbx) : (d.modMb h f).power = d.power := rfl
@[simp] theorem Dev.mb_modMb (d : Dev) (h : Nat) (f : Mbx → Mbx) : (d.modMb h f).mb h = f (d.mb h) := by simp [Dev.modMb, Dev.mb]
theorem Dev.mb_modMb_ne (d : Dev) {h j : Nat} (f : Mbx → Mbx) (hj : j ≠ h) : (d.modMb h f).mb j = d.mb j := by
  simp [Dev.modMb, Dev.mb, tget_tset_ne _ _ _ hj]

/-! ### Dev.modProt -/

@[simp] theorem Dev.modProt_clock (d : Dev) (h : Nat) (f : Prot → Prot) : (d.modProt h f).clock = d.clock := rfl
@[simp] theorem Dev.modProt_freeCtr (d : Dev) (h : Nat) (f : Prot → Prot) : (d.modProt h f).freeCtr = d.freeCtr := rfl
@[simp] theorem Dev.modProt_sent (d : Dev) (h : Nat) (f : Prot → Prot) : (d.modProt h f).sent = d.sent := rfl
@[simp] theorem Dev.modProt_dict (d : Dev) (h : Nat) (f : Prot → Prot) : (d.modProt h f).dict = d.dict := rfl
@[simp] theorem Dev.modProt_ports (d : Dev) (h : Nat) (f : Prot → Prot) : (d.modProt h f).ports = d.ports := rfl
@[simp] theorem Dev.modProt_rings (d : Dev) (h : Nat) (f : Prot → Prot) : (d.modProt h f).rings = d.rings := rfl
@[simp] theorem Dev.modProt_ingest (d : Dev) (h : Nat) (f : Prot → Prot) : (d.modProt h f).ingest = d.ingest := rfl
@[simp] theorem Dev.modProt_rtsp (d : Dev) (h : Nat) (f : Prot → Prot) : (d.modProt h f).rtsp = d.rtsp := rfl
@[simp] theorem Dev.modProt_time (d : Dev) (h : Nat) (f : Prot → Prot) : (d.modProt h f).time = d.time := rfl
@[simp] theorem Dev.modProt_triggers (d : Dev) (h : Nat) (f : Prot → Prot) : (d.modProt h f).triggers = d.triggers := rfl
@[simp] theorem Dev.modProt_ctxs (d : Dev) (h : Nat) (f : Prot → Prot) : (d.modProt h f).ctxs = d.ctxs := rfl
@[simp] theorem Dev.modProt_engines (d : Dev) (h : Nat) (f : Prot → Prot) : (d.modProt h f).engines = d.engines := rfl
@[simp] theorem Dev.modProt_groups (d : Dev) (h : Nat) (f : Prot → Prot) : (d.modProt h f).groups = d.groups := rfl
@[simp] theorem Dev.modProt_shadow (d : Dev) (h : Nat) (f : Prot → Prot) : (d.modProt h f).shadow = d.shadow := rfl
@[simp] theorem Dev.modProt_activeT (d : Dev) (h : Nat) (f : Prot → Prot) : (d.modProt h f).activeT = d.activeT := rfl
@[simp] theorem Dev.modProt_layers (d : Dev) (h : Nat) (f : Prot → Prot) : (d.modProt h f).layers = d.layers := rfl
@[simp] theorem Dev.modProt_slots (d : Dev) (h : Nat) (f : Prot → Prot) : (d.modProt h f).slots = d.slots := rfl
@[simp] theorem Dev.modProt_heads (d : Dev) (h : Nat) (f : Prot → Prot) : (d.modProt h f).heads = d.heads := rfl
@[simp] theorem Dev.modProt_pipes (d : Dev) (h : Nat) (f : Prot → Prot) : (d.modProt h f).pipes = d.pipes := rfl
@[simp] theorem Dev.modProt_bivouac (d : Dev) (h : Nat) (f : Prot → Prot) : (d.modProt h f).bivouac = d.bivouac := rfl
@[simp] theorem Dev.modProt_pitch (d : Dev) (h : Nat) (f : Prot → Prot) : (d.modProt h f).pitch = d.pitch := rfl
@[simp] theorem Dev.modProt_pitchStarted (d : Dev) (h : Nat) (f : Prot → Prot) : (d.modProt h f).pitchStarted = d.pitchStarted := rfl
@[simp] theorem Dev.modProt_pitchAt (d : Dev) (h : Nat) (f : Prot → Prot) : (d.modProt h f).pitchAt = d.pitchAt := rfl
@[simp] theorem Dev.modProt_links (d : Dev) (h : Nat) (f : Prot → Prot) : (d.modProt h f).links = d.links := rfl
@[simp] theorem Dev.modProt_lanes (d : Dev) (h : Nat) (f : Prot → Prot) : (d.modProt h f).lanes = d.lanes := rfl
@[simp] theorem Dev.modProt_rope (d : Dev) (h : Nat) (f : Prot → Prot) : (d.modProt h f).rope = d.rope := rfl
@[simp] theorem Dev.modProt_enc (d : Dev) (h : Nat) (f : Prot → Prot) : (d.modProt h f).enc = d.enc := rfl
@[simp] theorem Dev.modProt_encEngines (d : Dev) (h : Nat) (f : Prot → Prot) : (d.modProt h f).encEngines = d.encEngines := rfl
@[simp] theorem Dev.modProt_panels (d : Dev) (h : Nat) (f : Prot → Prot) : (d.modProt h f).panels = d.panels := rfl
@[simp] theorem Dev.modProt_touch (d : Dev) (h : Nat) (f : Prot → Prot) : (d.modProt h f).touch = d.touch := rfl
@[simp] theorem Dev.modProt_mem (d : Dev) (h : Nat) (f : Prot → Prot) : (d.modProt h f).mem = d.mem := rfl
@[simp] theorem Dev.modProt_chans (d : Dev) (h : Nat) (f : Prot → Prot) : (d.modProt h f).chans = d.chans := rfl
@[simp] theorem Dev.modProt_canPorts (d : Dev) (h : Nat) (f : Prot → Prot) : (d.modProt h f).canPorts = d.canPorts := rfl
@[simp] theorem Dev.modProt_procs (d : Dev) (h : Nat) (f : Prot → Prot) : (d.modProt h f).procs = d.procs := rfl
@[simp] theorem Dev.modProt_mbx (d : Dev) (h : Nat) (f : Prot → Prot) : (d.modProt h f).mbx = d.mbx := rfl
@[simp] theorem Dev.modProt_cvus (d : Dev) (h : Nat) (f : Prot → Prot) : (d.modProt h f).cvus = d.cvus := rfl
@[simp] theorem Dev.modProt_witness (d : Dev) (h : Nat) (f : Prot → Prot) : (d.modProt h f).witness = d.witness := rfl
@[simp] theorem Dev.modProt_twin (d : Dev) (h : Nat) (f : Prot → Prot) : (d.modProt h f).twin = d.twin := rfl
@[simp] theorem Dev.modProt_anchor (d : Dev) (h : Nat) (f : Prot → Prot) : (d.modProt h f).anchor = d.anchor := rfl
@[simp] theorem Dev.modProt_health (d : Dev) (h : Nat) (f : Prot → Prot) : (d.modProt h f).health = d.health := rfl
@[simp] theorem Dev.modProt_flash (d : Dev) (h : Nat) (f : Prot → Prot) : (d.modProt h f).flash = d.flash := rfl
@[simp] theorem Dev.modProt_config (d : Dev) (h : Nat) (f : Prot → Prot) : (d.modProt h f).config = d.config := rfl
@[simp] theorem Dev.modProt_power (d : Dev) (h : Nat) (f : Prot → Prot) : (d.modProt h f).power = d.power := rfl
@[simp] theorem Dev.prot_modProt (d : Dev) (h : Nat) (f : Prot → Prot) : (d.modProt h f).prot h = f (d.prot h) := by simp [Dev.modProt, Dev.prot]
theorem Dev.prot_modProt_ne (d : Dev) {h j : Nat} (f : Prot → Prot) (hj : j ≠ h) : (d.modProt h f).prot j = d.prot j := by
  simp [Dev.modProt, Dev.prot, tget_tset_ne _ _ _ hj]

/-! ### Dev.modCvu -/

@[simp] theorem Dev.modCvu_clock (d : Dev) (h : Nat) (f : Cvu → Cvu) : (d.modCvu h f).clock = d.clock := rfl
@[simp] theorem Dev.modCvu_freeCtr (d : Dev) (h : Nat) (f : Cvu → Cvu) : (d.modCvu h f).freeCtr = d.freeCtr := rfl
@[simp] theorem Dev.modCvu_sent (d : Dev) (h : Nat) (f : Cvu → Cvu) : (d.modCvu h f).sent = d.sent := rfl
@[simp] theorem Dev.modCvu_dict (d : Dev) (h : Nat) (f : Cvu → Cvu) : (d.modCvu h f).dict = d.dict := rfl
@[simp] theorem Dev.modCvu_ports (d : Dev) (h : Nat) (f : Cvu → Cvu) : (d.modCvu h f).ports = d.ports := rfl
@[simp] theorem Dev.modCvu_rings (d : Dev) (h : Nat) (f : Cvu → Cvu) : (d.modCvu h f).rings = d.rings := rfl
@[simp] theorem Dev.modCvu_ingest (d : Dev) (h : Nat) (f : Cvu → Cvu) : (d.modCvu h f).ingest = d.ingest := rfl
@[simp] theorem Dev.modCvu_rtsp (d : Dev) (h : Nat) (f : Cvu → Cvu) : (d.modCvu h f).rtsp = d.rtsp := rfl
@[simp] theorem Dev.modCvu_time (d : Dev) (h : Nat) (f : Cvu → Cvu) : (d.modCvu h f).time = d.time := rfl
@[simp] theorem Dev.modCvu_triggers (d : Dev) (h : Nat) (f : Cvu → Cvu) : (d.modCvu h f).triggers = d.triggers := rfl
@[simp] theorem Dev.modCvu_ctxs (d : Dev) (h : Nat) (f : Cvu → Cvu) : (d.modCvu h f).ctxs = d.ctxs := rfl
@[simp] theorem Dev.modCvu_engines (d : Dev) (h : Nat) (f : Cvu → Cvu) : (d.modCvu h f).engines = d.engines := rfl
@[simp] theorem Dev.modCvu_groups (d : Dev) (h : Nat) (f : Cvu → Cvu) : (d.modCvu h f).groups = d.groups := rfl
@[simp] theorem Dev.modCvu_shadow (d : Dev) (h : Nat) (f : Cvu → Cvu) : (d.modCvu h f).shadow = d.shadow := rfl
@[simp] theorem Dev.modCvu_activeT (d : Dev) (h : Nat) (f : Cvu → Cvu) : (d.modCvu h f).activeT = d.activeT := rfl
@[simp] theorem Dev.modCvu_layers (d : Dev) (h : Nat) (f : Cvu → Cvu) : (d.modCvu h f).layers = d.layers := rfl
@[simp] theorem Dev.modCvu_slots (d : Dev) (h : Nat) (f : Cvu → Cvu) : (d.modCvu h f).slots = d.slots := rfl
@[simp] theorem Dev.modCvu_heads (d : Dev) (h : Nat) (f : Cvu → Cvu) : (d.modCvu h f).heads = d.heads := rfl
@[simp] theorem Dev.modCvu_pipes (d : Dev) (h : Nat) (f : Cvu → Cvu) : (d.modCvu h f).pipes = d.pipes := rfl
@[simp] theorem Dev.modCvu_bivouac (d : Dev) (h : Nat) (f : Cvu → Cvu) : (d.modCvu h f).bivouac = d.bivouac := rfl
@[simp] theorem Dev.modCvu_pitch (d : Dev) (h : Nat) (f : Cvu → Cvu) : (d.modCvu h f).pitch = d.pitch := rfl
@[simp] theorem Dev.modCvu_pitchStarted (d : Dev) (h : Nat) (f : Cvu → Cvu) : (d.modCvu h f).pitchStarted = d.pitchStarted := rfl
@[simp] theorem Dev.modCvu_pitchAt (d : Dev) (h : Nat) (f : Cvu → Cvu) : (d.modCvu h f).pitchAt = d.pitchAt := rfl
@[simp] theorem Dev.modCvu_links (d : Dev) (h : Nat) (f : Cvu → Cvu) : (d.modCvu h f).links = d.links := rfl
@[simp] theorem Dev.modCvu_lanes (d : Dev) (h : Nat) (f : Cvu → Cvu) : (d.modCvu h f).lanes = d.lanes := rfl
@[simp] theorem Dev.modCvu_rope (d : Dev) (h : Nat) (f : Cvu → Cvu) : (d.modCvu h f).rope = d.rope := rfl
@[simp] theorem Dev.modCvu_enc (d : Dev) (h : Nat) (f : Cvu → Cvu) : (d.modCvu h f).enc = d.enc := rfl
@[simp] theorem Dev.modCvu_encEngines (d : Dev) (h : Nat) (f : Cvu → Cvu) : (d.modCvu h f).encEngines = d.encEngines := rfl
@[simp] theorem Dev.modCvu_panels (d : Dev) (h : Nat) (f : Cvu → Cvu) : (d.modCvu h f).panels = d.panels := rfl
@[simp] theorem Dev.modCvu_touch (d : Dev) (h : Nat) (f : Cvu → Cvu) : (d.modCvu h f).touch = d.touch := rfl
@[simp] theorem Dev.modCvu_mem (d : Dev) (h : Nat) (f : Cvu → Cvu) : (d.modCvu h f).mem = d.mem := rfl
@[simp] theorem Dev.modCvu_chans (d : Dev) (h : Nat) (f : Cvu → Cvu) : (d.modCvu h f).chans = d.chans := rfl
@[simp] theorem Dev.modCvu_canPorts (d : Dev) (h : Nat) (f : Cvu → Cvu) : (d.modCvu h f).canPorts = d.canPorts := rfl
@[simp] theorem Dev.modCvu_procs (d : Dev) (h : Nat) (f : Cvu → Cvu) : (d.modCvu h f).procs = d.procs := rfl
@[simp] theorem Dev.modCvu_mbx (d : Dev) (h : Nat) (f : Cvu → Cvu) : (d.modCvu h f).mbx = d.mbx := rfl
@[simp] theorem Dev.modCvu_prots (d : Dev) (h : Nat) (f : Cvu → Cvu) : (d.modCvu h f).prots = d.prots := rfl
@[simp] theorem Dev.modCvu_witness (d : Dev) (h : Nat) (f : Cvu → Cvu) : (d.modCvu h f).witness = d.witness := rfl
@[simp] theorem Dev.modCvu_twin (d : Dev) (h : Nat) (f : Cvu → Cvu) : (d.modCvu h f).twin = d.twin := rfl
@[simp] theorem Dev.modCvu_anchor (d : Dev) (h : Nat) (f : Cvu → Cvu) : (d.modCvu h f).anchor = d.anchor := rfl
@[simp] theorem Dev.modCvu_health (d : Dev) (h : Nat) (f : Cvu → Cvu) : (d.modCvu h f).health = d.health := rfl
@[simp] theorem Dev.modCvu_flash (d : Dev) (h : Nat) (f : Cvu → Cvu) : (d.modCvu h f).flash = d.flash := rfl
@[simp] theorem Dev.modCvu_config (d : Dev) (h : Nat) (f : Cvu → Cvu) : (d.modCvu h f).config = d.config := rfl
@[simp] theorem Dev.modCvu_power (d : Dev) (h : Nat) (f : Cvu → Cvu) : (d.modCvu h f).power = d.power := rfl
@[simp] theorem Dev.cvu_modCvu (d : Dev) (h : Nat) (f : Cvu → Cvu) : (d.modCvu h f).cvu h = f (d.cvu h) := by simp [Dev.modCvu, Dev.cvu]
theorem Dev.cvu_modCvu_ne (d : Dev) {h j : Nat} (f : Cvu → Cvu) (hj : j ≠ h) : (d.modCvu h f).cvu j = d.cvu j := by
  simp [Dev.modCvu, Dev.cvu, tget_tset_ne _ _ _ hj]

/-! ### Dev.modTwin -/

@[simp] theorem Dev.modTwin_clock (d : Dev) (f : Twin → Twin) : (d.modTwin f).clock = d.clock := rfl
@[simp] theorem Dev.modTwin_freeCtr (d : Dev) (f : Twin → Twin) : (d.modTwin f).freeCtr = d.freeCtr := rfl
@[simp] theorem Dev.modTwin_sent (d : Dev) (f : Twin → Twin) : (d.modTwin f).sent = d.sent := rfl
@[simp] theorem Dev.modTwin_dict (d : Dev) (f : Twin → Twin) : (d.modTwin f).dict = d.dict := rfl
@[simp] theorem Dev.modTwin_ports (d : Dev) (f : Twin → Twin) : (d.modTwin f).ports = d.ports := rfl
@[simp] theorem Dev.modTwin_rings (d : Dev) (f : Twin → Twin) : (d.modTwin f).rings = d.rings := rfl
@[simp] theorem Dev.modTwin_ingest (d : Dev) (f : Twin → Twin) : (d.modTwin f).ingest = d.ingest := rfl
@[simp] theorem Dev.modTwin_rtsp (d : Dev) (f : Twin → Twin) : (d.modTwin f).rtsp = d.rtsp := rfl
@[simp] theorem Dev.modTwin_time (d : Dev) (f : Twin → Twin) : (d.modTwin f).time = d.time := rfl
@[simp] theorem Dev.modTwin_triggers (d : Dev) (f : Twin → Twin) : (d.modTwin f).triggers = d.triggers := rfl
@[simp] theorem Dev.modTwin_ctxs (d : Dev) (f : Twin → Twin) : (d.modTwin f).ctxs = d.ctxs := rfl
@[simp] theorem Dev.modTwin_engines (d : Dev) (f : Twin → Twin) : (d.modTwin f).engines = d.engines := rfl
@[simp] theorem Dev.modTwin_groups (d : Dev) (f : Twin → Twin) : (d.modTwin f).groups = d.groups := rfl
@[simp] theorem Dev.modTwin_shadow (d : Dev) (f : Twin → Twin) : (d.modTwin f).shadow = d.shadow := rfl
@[simp] theorem Dev.modTwin_activeT (d : Dev) (f : Twin → Twin) : (d.modTwin f).activeT = d.activeT := rfl
@[simp] theorem Dev.modTwin_layers (d : Dev) (f : Twin → Twin) : (d.modTwin f).layers = d.layers := rfl
@[simp] theorem Dev.modTwin_slots (d : Dev) (f : Twin → Twin) : (d.modTwin f).slots = d.slots := rfl
@[simp] theorem Dev.modTwin_heads (d : Dev) (f : Twin → Twin) : (d.modTwin f).heads = d.heads := rfl
@[simp] theorem Dev.modTwin_pipes (d : Dev) (f : Twin → Twin) : (d.modTwin f).pipes = d.pipes := rfl
@[simp] theorem Dev.modTwin_bivouac (d : Dev) (f : Twin → Twin) : (d.modTwin f).bivouac = d.bivouac := rfl
@[simp] theorem Dev.modTwin_pitch (d : Dev) (f : Twin → Twin) : (d.modTwin f).pitch = d.pitch := rfl
@[simp] theorem Dev.modTwin_pitchStarted (d : Dev) (f : Twin → Twin) : (d.modTwin f).pitchStarted = d.pitchStarted := rfl
@[simp] theorem Dev.modTwin_pitchAt (d : Dev) (f : Twin → Twin) : (d.modTwin f).pitchAt = d.pitchAt := rfl
@[simp] theorem Dev.modTwin_links (d : Dev) (f : Twin → Twin) : (d.modTwin f).links = d.links := rfl
@[simp] theorem Dev.modTwin_lanes (d : Dev) (f : Twin → Twin) : (d.modTwin f).lanes = d.lanes := rfl
@[simp] theorem Dev.modTwin_rope (d : Dev) (f : Twin → Twin) : (d.modTwin f).rope = d.rope := rfl
@[simp] theorem Dev.modTwin_enc (d : Dev) (f : Twin → Twin) : (d.modTwin f).enc = d.enc := rfl
@[simp] theorem Dev.modTwin_encEngines (d : Dev) (f : Twin → Twin) : (d.modTwin f).encEngines = d.encEngines := rfl
@[simp] theorem Dev.modTwin_panels (d : Dev) (f : Twin → Twin) : (d.modTwin f).panels = d.panels := rfl
@[simp] theorem Dev.modTwin_touch (d : Dev) (f : Twin → Twin) : (d.modTwin f).touch = d.touch := rfl
@[simp] theorem Dev.modTwin_mem (d : Dev) (f : Twin → Twin) : (d.modTwin f).mem = d.mem := rfl
@[simp] theorem Dev.modTwin_chans (d : Dev) (f : Twin → Twin) : (d.modTwin f).chans = d.chans := rfl
@[simp] theorem Dev.modTwin_canPorts (d : Dev) (f : Twin → Twin) : (d.modTwin f).canPorts = d.canPorts := rfl
@[simp] theorem Dev.modTwin_procs (d : Dev) (f : Twin → Twin) : (d.modTwin f).procs = d.procs := rfl
@[simp] theorem Dev.modTwin_mbx (d : Dev) (f : Twin → Twin) : (d.modTwin f).mbx = d.mbx := rfl
@[simp] theorem Dev.modTwin_prots (d : Dev) (f : Twin → Twin) : (d.modTwin f).prots = d.prots := rfl
@[simp] theorem Dev.modTwin_cvus (d : Dev) (f : Twin → Twin) : (d.modTwin f).cvus = d.cvus := rfl
@[simp] theorem Dev.modTwin_witness (d : Dev) (f : Twin → Twin) : (d.modTwin f).witness = d.witness := rfl
@[simp] theorem Dev.modTwin_anchor (d : Dev) (f : Twin → Twin) : (d.modTwin f).anchor = d.anchor := rfl
@[simp] theorem Dev.modTwin_health (d : Dev) (f : Twin → Twin) : (d.modTwin f).health = d.health := rfl
@[simp] theorem Dev.modTwin_flash (d : Dev) (f : Twin → Twin) : (d.modTwin f).flash = d.flash := rfl
@[simp] theorem Dev.modTwin_config (d : Dev) (f : Twin → Twin) : (d.modTwin f).config = d.config := rfl
@[simp] theorem Dev.modTwin_power (d : Dev) (f : Twin → Twin) : (d.modTwin f).power = d.power := rfl
@[simp] theorem Dev.modTwin_twin (d : Dev) (f : Twin → Twin) : (d.modTwin f).twin = f d.twin := rfl

/-! ### Dev.modRope -/

@[simp] theorem Dev.modRope_clock (d : Dev) (f : Rope → Rope) : (d.modRope f).clock = d.clock := rfl
@[simp] theorem Dev.modRope_freeCtr (d : Dev) (f : Rope → Rope) : (d.modRope f).freeCtr = d.freeCtr := rfl
@[simp] theorem Dev.modRope_sent (d : Dev) (f : Rope → Rope) : (d.modRope f).sent = d.sent := rfl
@[simp] theorem Dev.modRope_dict (d : Dev) (f : Rope → Rope) : (d.modRope f).dict = d.dict := rfl
@[simp] theorem Dev.modRope_ports (d : Dev) (f : Rope → Rope) : (d.modRope f).ports = d.ports := rfl
@[simp] theorem Dev.modRope_rings (d : Dev) (f : Rope → Rope) : (d.modRope f).rings = d.rings := rfl
@[simp] theorem Dev.modRope_ingest (d : Dev) (f : Rope → Rope) : (d.modRope f).ingest = d.ingest := rfl
@[simp] theorem Dev.modRope_rtsp (d : Dev) (f : Rope → Rope) : (d.modRope f).rtsp = d.rtsp := rfl
@[simp] theorem Dev.modRope_time (d : Dev) (f : Rope → Rope) : (d.modRope f).time = d.time := rfl
@[simp] theorem Dev.modRope_triggers (d : Dev) (f : Rope → Rope) : (d.modRope f).triggers = d.triggers := rfl
@[simp] theorem Dev.modRope_ctxs (d : Dev) (f : Rope → Rope) : (d.modRope f).ctxs = d.ctxs := rfl
@[simp] theorem Dev.modRope_engines (d : Dev) (f : Rope → Rope) : (d.modRope f).engines = d.engines := rfl
@[simp] theorem Dev.modRope_groups (d : Dev) (f : Rope → Rope) : (d.modRope f).groups = d.groups := rfl
@[simp] theorem Dev.modRope_shadow (d : Dev) (f : Rope → Rope) : (d.modRope f).shadow = d.shadow := rfl
@[simp] theorem Dev.modRope_activeT (d : Dev) (f : Rope → Rope) : (d.modRope f).activeT = d.activeT := rfl
@[simp] theorem Dev.modRope_layers (d : Dev) (f : Rope → Rope) : (d.modRope f).layers = d.layers := rfl
@[simp] theorem Dev.modRope_slots (d : Dev) (f : Rope → Rope) : (d.modRope f).slots = d.slots := rfl
@[simp] theorem Dev.modRope_heads (d : Dev) (f : Rope → Rope) : (d.modRope f).heads = d.heads := rfl
@[simp] theorem Dev.modRope_pipes (d : Dev) (f : Rope → Rope) : (d.modRope f).pipes = d.pipes := rfl
@[simp] theorem Dev.modRope_bivouac (d : Dev) (f : Rope → Rope) : (d.modRope f).bivouac = d.bivouac := rfl
@[simp] theorem Dev.modRope_pitch (d : Dev) (f : Rope → Rope) : (d.modRope f).pitch = d.pitch := rfl
@[simp] theorem Dev.modRope_pitchStarted (d : Dev) (f : Rope → Rope) : (d.modRope f).pitchStarted = d.pitchStarted := rfl
@[simp] theorem Dev.modRope_pitchAt (d : Dev) (f : Rope → Rope) : (d.modRope f).pitchAt = d.pitchAt := rfl
@[simp] theorem Dev.modRope_links (d : Dev) (f : Rope → Rope) : (d.modRope f).links = d.links := rfl
@[simp] theorem Dev.modRope_lanes (d : Dev) (f : Rope → Rope) : (d.modRope f).lanes = d.lanes := rfl
@[simp] theorem Dev.modRope_enc (d : Dev) (f : Rope → Rope) : (d.modRope f).enc = d.enc := rfl
@[simp] theorem Dev.modRope_encEngines (d : Dev) (f : Rope → Rope) : (d.modRope f).encEngines = d.encEngines := rfl
@[simp] theorem Dev.modRope_panels (d : Dev) (f : Rope → Rope) : (d.modRope f).panels = d.panels := rfl
@[simp] theorem Dev.modRope_touch (d : Dev) (f : Rope → Rope) : (d.modRope f).touch = d.touch := rfl
@[simp] theorem Dev.modRope_mem (d : Dev) (f : Rope → Rope) : (d.modRope f).mem = d.mem := rfl
@[simp] theorem Dev.modRope_chans (d : Dev) (f : Rope → Rope) : (d.modRope f).chans = d.chans := rfl
@[simp] theorem Dev.modRope_canPorts (d : Dev) (f : Rope → Rope) : (d.modRope f).canPorts = d.canPorts := rfl
@[simp] theorem Dev.modRope_procs (d : Dev) (f : Rope → Rope) : (d.modRope f).procs = d.procs := rfl
@[simp] theorem Dev.modRope_mbx (d : Dev) (f : Rope → Rope) : (d.modRope f).mbx = d.mbx := rfl
@[simp] theorem Dev.modRope_prots (d : Dev) (f : Rope → Rope) : (d.modRope f).prots = d.prots := rfl
@[simp] theorem Dev.modRope_cvus (d : Dev) (f : Rope → Rope) : (d.modRope f).cvus = d.cvus := rfl
@[simp] theorem Dev.modRope_witness (d : Dev) (f : Rope → Rope) : (d.modRope f).witness = d.witness := rfl
@[simp] theorem Dev.modRope_twin (d : Dev) (f : Rope → Rope) : (d.modRope f).twin = d.twin := rfl
@[simp] theorem Dev.modRope_anchor (d : Dev) (f : Rope → Rope) : (d.modRope f).anchor = d.anchor := rfl
@[simp] theorem Dev.modRope_health (d : Dev) (f : Rope → Rope) : (d.modRope f).health = d.health := rfl
@[simp] theorem Dev.modRope_flash (d : Dev) (f : Rope → Rope) : (d.modRope f).flash = d.flash := rfl
@[simp] theorem Dev.modRope_config (d : Dev) (f : Rope → Rope) : (d.modRope f).config = d.config := rfl
@[simp] theorem Dev.modRope_power (d : Dev) (f : Rope → Rope) : (d.modRope f).power = d.power := rfl
@[simp] theorem Dev.modRope_rope (d : Dev) (f : Rope → Rope) : (d.modRope f).rope = f d.rope := rfl

/-! ### Dev.modPower -/

@[simp] theorem Dev.modPower_clock (d : Dev) (f : Power → Power) : (d.modPower f).clock = d.clock := rfl
@[simp] theorem Dev.modPower_freeCtr (d : Dev) (f : Power → Power) : (d.modPower f).freeCtr = d.freeCtr := rfl
@[simp] theorem Dev.modPower_sent (d : Dev) (f : Power → Power) : (d.modPower f).sent = d.sent := rfl
@[simp] theorem Dev.modPower_dict (d : Dev) (f : Power → Power) : (d.modPower f).dict = d.dict := rfl
@[simp] theorem Dev.modPower_ports (d : Dev) (f : Power → Power) : (d.modPower f).ports = d.ports := rfl
@[simp] theorem Dev.modPower_rings (d : Dev) (f : Power → Power) : (d.modPower f).rings = d.rings := rfl
@[simp] theorem Dev.modPower_ingest (d : Dev) (f : Power → Power) : (d.modPower f).ingest = d.ingest := rfl
@[simp] theorem Dev.modPower_rtsp (d : Dev) (f : Power → Power) : (d.modPower f).rtsp = d.rtsp := rfl
@[simp] theorem Dev.modPower_time (d : Dev) (f : Power → Power) : (d.modPower f).time = d.time := rfl
@[simp] theorem Dev.modPower_triggers (d : Dev) (f : Power → Power) : (d.modPower f).triggers = d.triggers := rfl
@[simp] theorem Dev.modPower_ctxs (d : Dev) (f : Power → Power) : (d.modPower f).ctxs = d.ctxs := rfl
@[simp] theorem Dev.modPower_engines (d : Dev) (f : Power → Power) : (d.modPower f).engines = d.engines := rfl
@[simp] theorem Dev.modPower_groups (d : Dev) (f : Power → Power) : (d.modPower f).groups = d.groups := rfl
@[simp] theorem Dev.modPower_shadow (d : Dev) (f : Power → Power) : (d.modPower f).shadow = d.shadow := rfl
@[simp] theorem Dev.modPower_activeT (d : Dev) (f : Power → Power) : (d.modPower f).activeT = d.activeT := rfl
@[simp] theorem Dev.modPower_layers (d : Dev) (f : Power → Power) : (d.modPower f).layers = d.layers := rfl
@[simp] theorem Dev.modPower_slots (d : Dev) (f : Power → Power) : (d.modPower f).slots = d.slots := rfl
@[simp] theorem Dev.modPower_heads (d : Dev) (f : Power → Power) : (d.modPower f).heads = d.heads := rfl
@[simp] theorem Dev.modPower_pipes (d : Dev) (f : Power → Power) : (d.modPower f).pipes = d.pipes := rfl
@[simp] theorem Dev.modPower_bivouac (d : Dev) (f : Power → Power) : (d.modPower f).bivouac = d.bivouac := rfl
@[simp] theorem Dev.modPower_pitch (d : Dev) (f : Power → Power) : (d.modPower f).pitch = d.pitch := rfl
@[simp] theorem Dev.modPower_pitchStarted (d : Dev) (f : Power → Power) : (d.modPower f).pitchStarted = d.pitchStarted := rfl
@[simp] theorem Dev.modPower_pitchAt (d : Dev) (f : Power → Power) : (d.modPower f).pitchAt = d.pitchAt := rfl
@[simp] theorem Dev.modPower_links (d : Dev) (f : Power → Power) : (d.modPower f).links = d.links := rfl
@[simp] theorem Dev.modPower_lanes (d : Dev) (f : Power → Power) : (d.modPower f).lanes = d.lanes := rfl
@[simp] theorem Dev.modPower_rope (d : Dev) (f : Power → Power) : (d.modPower f).rope = d.rope := rfl
@[simp] theorem Dev.modPower_enc (d : Dev) (f : Power → Power) : (d.modPower f).enc = d.enc := rfl
@[simp] theorem Dev.modPower_encEngines (d : Dev) (f : Power → Power) : (d.modPower f).encEngines = d.encEngines := rfl
@[simp] theorem Dev.modPower_panels (d : Dev) (f : Power → Power) : (d.modPower f).panels = d.panels := rfl
@[simp] theorem Dev.modPower_touch (d : Dev) (f : Power → Power) : (d.modPower f).touch = d.touch := rfl
@[simp] theorem Dev.modPower_mem (d : Dev) (f : Power → Power) : (d.modPower f).mem = d.mem := rfl
@[simp] theorem Dev.modPower_chans (d : Dev) (f : Power → Power) : (d.modPower f).chans = d.chans := rfl
@[simp] theorem Dev.modPower_canPorts (d : Dev) (f : Power → Power) : (d.modPower f).canPorts = d.canPorts := rfl
@[simp] theorem Dev.modPower_procs (d : Dev) (f : Power → Power) : (d.modPower f).procs = d.procs := rfl
@[simp] theorem Dev.modPower_mbx (d : Dev) (f : Power → Power) : (d.modPower f).mbx = d.mbx := rfl
@[simp] theorem Dev.modPower_prots (d : Dev) (f : Power → Power) : (d.modPower f).prots = d.prots := rfl
@[simp] theorem Dev.modPower_cvus (d : Dev) (f : Power → Power) : (d.modPower f).cvus = d.cvus := rfl
@[simp] theorem Dev.modPower_witness (d : Dev) (f : Power → Power) : (d.modPower f).witness = d.witness := rfl
@[simp] theorem Dev.modPower_twin (d : Dev) (f : Power → Power) : (d.modPower f).twin = d.twin := rfl
@[simp] theorem Dev.modPower_anchor (d : Dev) (f : Power → Power) : (d.modPower f).anchor = d.anchor := rfl
@[simp] theorem Dev.modPower_health (d : Dev) (f : Power → Power) : (d.modPower f).health = d.health := rfl
@[simp] theorem Dev.modPower_flash (d : Dev) (f : Power → Power) : (d.modPower f).flash = d.flash := rfl
@[simp] theorem Dev.modPower_config (d : Dev) (f : Power → Power) : (d.modPower f).config = d.config := rfl
@[simp] theorem Dev.modPower_power (d : Dev) (f : Power → Power) : (d.modPower f).power = f d.power := rfl

/-! ### Dev.setKey -/

@[simp] theorem Dev.setKey_clock (d : Dev) (k : Nat) (v : Val) : (d.setKey k v).clock = d.clock := rfl
@[simp] theorem Dev.setKey_freeCtr (d : Dev) (k : Nat) (v : Val) : (d.setKey k v).freeCtr = d.freeCtr := rfl
@[simp] theorem Dev.setKey_sent (d : Dev) (k : Nat) (v : Val) : (d.setKey k v).sent = d.sent := rfl
@[simp] theorem Dev.setKey_ports (d : Dev) (k : Nat) (v : Val) : (d.setKey k v).ports = d.ports := rfl
@[simp] theorem Dev.setKey_rings (d : Dev) (k : Nat) (v : Val) : (d.setKey k v).rings = d.rings := rfl
@[simp] theorem Dev.setKey_ingest (d : Dev) (k : Nat) (v : Val) : (d.setKey k v).ingest = d.ingest := rfl
@[simp] theorem Dev.setKey_rtsp (d : Dev) (k : Nat) (v : Val) : (d.setKey k v).rtsp = d.rtsp := rfl
@[simp] theorem Dev.setKey_time (d : Dev) (k : Nat) (v : Val) : (d.setKey k v).time = d.time := rfl
@[simp] theorem Dev.setKey_triggers (d : Dev) (k : Nat) (v : Val) : (d.setKey k v).triggers = d.triggers := rfl
@[simp] theorem Dev.setKey_ctxs (d : Dev) (k : Nat) (v : Val) : (d.setKey k v).ctxs = d.ctxs := rfl
@[simp] theorem Dev.setKey_engines (d : Dev) (k : Nat) (v : Val) : (d.setKey k v).engines = d.engines := rfl
@[simp] theorem Dev.setKey_groups (d : Dev) (k : Nat) (v : Val) : (d.setKey k v).groups = d.groups := rfl
@[simp] theorem Dev.setKey_shadow (d : Dev) (k : Nat) (v : Val) : (d.setKey k v).shadow = d.shadow := rfl
@[simp] theorem Dev.setKey_activeT (d : Dev) (k : Nat) (v : Val) : (d.setKey k v).activeT = d.activeT := rfl
@[simp] theorem Dev.setKey_layers (d : Dev) (k : Nat) (v : Val) : (d.setKey k v).layers = d.layers := rfl
@[simp] theorem Dev.setKey_slots (d : Dev) (k : Nat) (v : Val) : (d.setKey k v).slots = d.slots := rfl
@[simp] theorem Dev.setKey_heads (d : Dev) (k : Nat) (v : Val) : (d.setKey k v).heads = d.heads := rfl
@[simp] theorem Dev.setKey_pipes (d : Dev) (k : Nat) (v : Val) : (d.setKey k v).pipes = d.pipes := rfl
@[simp] theorem Dev.setKey_bivouac (d : Dev) (k : Nat) (v : Val) : (d.setKey k v).bivouac = d.bivouac := rfl
@[simp] theorem Dev.setKey_pitch (d : Dev) (k : Nat) (v : Val) : (d.setKey k v).pitch = d.pitch := rfl
@[simp] theorem Dev.setKey_pitchStarted (d : Dev) (k : Nat) (v : Val) : (d.setKey k v).pitchStarted = d.pitchStarted := rfl
@[simp] theorem Dev.setKey_pitchAt (d : Dev) (k : Nat) (v : Val) : (d.setKey k v).pitchAt = d.pitchAt := rfl
@[simp] theorem Dev.setKey_links (d : Dev) (k : Nat) (v : Val) : (d.setKey k v).links = d.links := rfl
@[simp] theorem Dev.setKey_lanes (d : Dev) (k : Nat) (v : Val) : (d.setKey k v).lanes = d.lanes := rfl
@[simp] theorem Dev.setKey_rope (d : Dev) (k : Nat) (v : Val) : (d.setKey k v).rope = d.rope := rfl
@[simp] theorem Dev.setKey_enc (d : Dev) (k : Nat) (v : Val) : (d.setKey k v).enc = d.enc := rfl
@[simp] theorem Dev.setKey_encEngines (d : Dev) (k : Nat) (v : Val) : (d.setKey k v).encEngines = d.encEngines := rfl
@[simp] theorem Dev.setKey_panels (d : Dev) (k : Nat) (v : Val) : (d.setKey k v).panels = d.panels := rfl
@[simp] theorem Dev.setKey_touch (d : Dev) (k : Nat) (v : Val) : (d.setKey k v).touch = d.touch := rfl
@[simp] theorem Dev.setKey_mem (d : Dev) (k : Nat) (v : Val) : (d.setKey k v).mem = d.mem := rfl
@[simp] theorem Dev.setKey_chans (d : Dev) (k : Nat) (v : Val) : (d.setKey k v).chans = d.chans := rfl
@[simp] theorem Dev.setKey_canPorts (d : Dev) (k : Nat) (v : Val) : (d.setKey k v).canPorts = d.canPorts := rfl
@[simp] theorem Dev.setKey_procs (d : Dev) (k : Nat) (v : Val) : (d.setKey k v).procs = d.procs := rfl
@[simp] theorem Dev.setKey_mbx (d : Dev) (k : Nat) (v : Val) : (d.setKey k v).mbx = d.mbx := rfl
@[simp] theorem Dev.setKey_prots (d : Dev) (k : Nat) (v : Val) : (d.setKey k v).prots = d.prots := rfl
@[simp] theorem Dev.setKey_cvus (d : Dev) (k : Nat) (v : Val) : (d.setKey k v).cvus = d.cvus := rfl
@[simp] theorem Dev.setKey_witness (d : Dev) (k : Nat) (v : Val) : (d.setKey k v).witness = d.witness := rfl
@[simp] theorem Dev.setKey_twin (d : Dev) (k : Nat) (v : Val) : (d.setKey k v).twin = d.twin := rfl
@[simp] theorem Dev.setKey_anchor (d : Dev) (k : Nat) (v : Val) : (d.setKey k v).anchor = d.anchor := rfl
@[simp] theorem Dev.setKey_health (d : Dev) (k : Nat) (v : Val) : (d.setKey k v).health = d.health := rfl
@[simp] theorem Dev.setKey_flash (d : Dev) (k : Nat) (v : Val) : (d.setKey k v).flash = d.flash := rfl
@[simp] theorem Dev.setKey_config (d : Dev) (k : Nat) (v : Val) : (d.setKey k v).config = d.config := rfl
@[simp] theorem Dev.setKey_power (d : Dev) (k : Nat) (v : Val) : (d.setKey k v).power = d.power := rfl

/-! ### Dev.emit -/

@[simp] theorem Dev.emit_clock (d : Dev) (o : Out) : (d.emit o).clock = d.clock := rfl
@[simp] theorem Dev.emit_freeCtr (d : Dev) (o : Out) : (d.emit o).freeCtr = d.freeCtr := rfl
@[simp] theorem Dev.emit_dict (d : Dev) (o : Out) : (d.emit o).dict = d.dict := rfl
@[simp] theorem Dev.emit_ports (d : Dev) (o : Out) : (d.emit o).ports = d.ports := rfl
@[simp] theorem Dev.emit_rings (d : Dev) (o : Out) : (d.emit o).rings = d.rings := rfl
@[simp] theorem Dev.emit_ingest (d : Dev) (o : Out) : (d.emit o).ingest = d.ingest := rfl
@[simp] theorem Dev.emit_rtsp (d : Dev) (o : Out) : (d.emit o).rtsp = d.rtsp := rfl
@[simp] theorem Dev.emit_time (d : Dev) (o : Out) : (d.emit o).time = d.time := rfl
@[simp] theorem Dev.emit_triggers (d : Dev) (o : Out) : (d.emit o).triggers = d.triggers := rfl
@[simp] theorem Dev.emit_ctxs (d : Dev) (o : Out) : (d.emit o).ctxs = d.ctxs := rfl
@[simp] theorem Dev.emit_engines (d : Dev) (o : Out) : (d.emit o).engines = d.engines := rfl
@[simp] theorem Dev.emit_groups (d : Dev) (o : Out) : (d.emit o).groups = d.groups := rfl
@[simp] theorem Dev.emit_shadow (d : Dev) (o : Out) : (d.emit o).shadow = d.shadow := rfl
@[simp] theorem Dev.emit_activeT (d : Dev) (o : Out) : (d.emit o).activeT = d.activeT := rfl
@[simp] theorem Dev.emit_layers (d : Dev) (o : Out) : (d.emit o).layers = d.layers := rfl
@[simp] theorem Dev.emit_slots (d : Dev) (o : Out) : (d.emit o).slots = d.slots := rfl
@[simp] theorem Dev.emit_heads (d : Dev) (o : Out) : (d.emit o).heads = d.heads := rfl
@[simp] theorem Dev.emit_pipes (d : Dev) (o : Out) : (d.emit o).pipes = d.pipes := rfl
@[simp] theorem Dev.emit_bivouac (d : Dev) (o : Out) : (d.emit o).bivouac = d.bivouac := rfl
@[simp] theorem Dev.emit_pitch (d : Dev) (o : Out) : (d.emit o).pitch = d.pitch := rfl
@[simp] theorem Dev.emit_pitchStarted (d : Dev) (o : Out) : (d.emit o).pitchStarted = d.pitchStarted := rfl
@[simp] theorem Dev.emit_pitchAt (d : Dev) (o : Out) : (d.emit o).pitchAt = d.pitchAt := rfl
@[simp] theorem Dev.emit_links (d : Dev) (o : Out) : (d.emit o).links = d.links := rfl
@[simp] theorem Dev.emit_lanes (d : Dev) (o : Out) : (d.emit o).lanes = d.lanes := rfl
@[simp] theorem Dev.emit_rope (d : Dev) (o : Out) : (d.emit o).rope = d.rope := rfl
@[simp] theorem Dev.emit_enc (d : Dev) (o : Out) : (d.emit o).enc = d.enc := rfl
@[simp] theorem Dev.emit_encEngines (d : Dev) (o : Out) : (d.emit o).encEngines = d.encEngines := rfl
@[simp] theorem Dev.emit_panels (d : Dev) (o : Out) : (d.emit o).panels = d.panels := rfl
@[simp] theorem Dev.emit_touch (d : Dev) (o : Out) : (d.emit o).touch = d.touch := rfl
@[simp] theorem Dev.emit_mem (d : Dev) (o : Out) : (d.emit o).mem = d.mem := rfl
@[simp] theorem Dev.emit_chans (d : Dev) (o : Out) : (d.emit o).chans = d.chans := rfl
@[simp] theorem Dev.emit_canPorts (d : Dev) (o : Out) : (d.emit o).canPorts = d.canPorts := rfl
@[simp] theorem Dev.emit_procs (d : Dev) (o : Out) : (d.emit o).procs = d.procs := rfl
@[simp] theorem Dev.emit_mbx (d : Dev) (o : Out) : (d.emit o).mbx = d.mbx := rfl
@[simp] theorem Dev.emit_prots (d : Dev) (o : Out) : (d.emit o).prots = d.prots := rfl
@[simp] theorem Dev.emit_cvus (d : Dev) (o : Out) : (d.emit o).cvus = d.cvus := rfl
@[simp] theorem Dev.emit_witness (d : Dev) (o : Out) : (d.emit o).witness = d.witness := rfl
@[simp] theorem Dev.emit_twin (d : Dev) (o : Out) : (d.emit o).twin = d.twin := rfl
@[simp] theorem Dev.emit_anchor (d : Dev) (o : Out) : (d.emit o).anchor = d.anchor := rfl
@[simp] theorem Dev.emit_health (d : Dev) (o : Out) : (d.emit o).health = d.health := rfl
@[simp] theorem Dev.emit_flash (d : Dev) (o : Out) : (d.emit o).flash = d.flash := rfl
@[simp] theorem Dev.emit_config (d : Dev) (o : Out) : (d.emit o).config = d.config := rfl
@[simp] theorem Dev.emit_power (d : Dev) (o : Out) : (d.emit o).power = d.power := rfl

/-! ### Dev.tick -/

@[simp] theorem Dev.tick_freeCtr (d : Dev) (t : Nat) : (d.tick t).freeCtr = d.freeCtr := rfl
@[simp] theorem Dev.tick_sent (d : Dev) (t : Nat) : (d.tick t).sent = d.sent := rfl
@[simp] theorem Dev.tick_dict (d : Dev) (t : Nat) : (d.tick t).dict = d.dict := rfl
@[simp] theorem Dev.tick_ports (d : Dev) (t : Nat) : (d.tick t).ports = d.ports := rfl
@[simp] theorem Dev.tick_rings (d : Dev) (t : Nat) : (d.tick t).rings = d.rings := rfl
@[simp] theorem Dev.tick_ingest (d : Dev) (t : Nat) : (d.tick t).ingest = d.ingest := rfl
@[simp] theorem Dev.tick_rtsp (d : Dev) (t : Nat) : (d.tick t).rtsp = d.rtsp := rfl
@[simp] theorem Dev.tick_time (d : Dev) (t : Nat) : (d.tick t).time = d.time := rfl
@[simp] theorem Dev.tick_triggers (d : Dev) (t : Nat) : (d.tick t).triggers = d.triggers := rfl
@[simp] theorem Dev.tick_ctxs (d : Dev) (t : Nat) : (d.tick t).ctxs = d.ctxs := rfl
@[simp] theorem Dev.tick_engines (d : Dev) (t : Nat) : (d.tick t).engines = d.engines := rfl
@[simp] theorem Dev.tick_groups (d : Dev) (t : Nat) : (d.tick t).groups = d.groups := rfl
@[simp] theorem Dev.tick_shadow (d : Dev) (t : Nat) : (d.tick t).shadow = d.shadow := rfl
@[simp] theorem Dev.tick_activeT (d : Dev) (t : Nat) : (d.tick t).activeT = d.activeT := rfl
@[simp] theorem Dev.tick_layers (d : Dev) (t : Nat) : (d.tick t).layers = d.layers := rfl
@[simp] theorem Dev.tick_slots (d : Dev) (t : Nat) : (d.tick t).slots = d.slots := rfl
@[simp] theorem Dev.tick_heads (d : Dev) (t : Nat) : (d.tick t).heads = d.heads := rfl
@[simp] theorem Dev.tick_pipes (d : Dev) (t : Nat) : (d.tick t).pipes = d.pipes := rfl
@[simp] theorem Dev.tick_bivouac (d : Dev) (t : Nat) : (d.tick t).bivouac = d.bivouac := rfl
@[simp] theorem Dev.tick_pitch (d : Dev) (t : Nat) : (d.tick t).pitch = d.pitch := rfl
@[simp] theorem Dev.tick_pitchStarted (d : Dev) (t : Nat) : (d.tick t).pitchStarted = d.pitchStarted := rfl
@[simp] theorem Dev.tick_pitchAt (d : Dev) (t : Nat) : (d.tick t).pitchAt = d.pitchAt := rfl
@[simp] theorem Dev.tick_links (d : Dev) (t : Nat) : (d.tick t).links = d.links := rfl
@[simp] theorem Dev.tick_lanes (d : Dev) (t : Nat) : (d.tick t).lanes = d.lanes := rfl
@[simp] theorem Dev.tick_rope (d : Dev) (t : Nat) : (d.tick t).rope = d.rope := rfl
@[simp] theorem Dev.tick_enc (d : Dev) (t : Nat) : (d.tick t).enc = d.enc := rfl
@[simp] theorem Dev.tick_encEngines (d : Dev) (t : Nat) : (d.tick t).encEngines = d.encEngines := rfl
@[simp] theorem Dev.tick_panels (d : Dev) (t : Nat) : (d.tick t).panels = d.panels := rfl
@[simp] theorem Dev.tick_touch (d : Dev) (t : Nat) : (d.tick t).touch = d.touch := rfl
@[simp] theorem Dev.tick_mem (d : Dev) (t : Nat) : (d.tick t).mem = d.mem := rfl
@[simp] theorem Dev.tick_chans (d : Dev) (t : Nat) : (d.tick t).chans = d.chans := rfl
@[simp] theorem Dev.tick_canPorts (d : Dev) (t : Nat) : (d.tick t).canPorts = d.canPorts := rfl
@[simp] theorem Dev.tick_procs (d : Dev) (t : Nat) : (d.tick t).procs = d.procs := rfl
@[simp] theorem Dev.tick_mbx (d : Dev) (t : Nat) : (d.tick t).mbx = d.mbx := rfl
@[simp] theorem Dev.tick_prots (d : Dev) (t : Nat) : (d.tick t).prots = d.prots := rfl
@[simp] theorem Dev.tick_cvus (d : Dev) (t : Nat) : (d.tick t).cvus = d.cvus := rfl
@[simp] theorem Dev.tick_witness (d : Dev) (t : Nat) : (d.tick t).witness = d.witness := rfl
@[simp] theorem Dev.tick_twin (d : Dev) (t : Nat) : (d.tick t).twin = d.twin := rfl
@[simp] theorem Dev.tick_anchor (d : Dev) (t : Nat) : (d.tick t).anchor = d.anchor := rfl
@[simp] theorem Dev.tick_health (d : Dev) (t : Nat) : (d.tick t).health = d.health := rfl
@[simp] theorem Dev.tick_flash (d : Dev) (t : Nat) : (d.tick t).flash = d.flash := rfl
@[simp] theorem Dev.tick_config (d : Dev) (t : Nat) : (d.tick t).config = d.config := rfl
@[simp] theorem Dev.tick_power (d : Dev) (t : Nat) : (d.tick t).power = d.power := rfl

end Sys2Proof.Machine
end

