-- ==== Sys2Proof/Laws/Ops.lean ====
section
/-! SUPPORT. Laws of the shared operations: what writing a register, counting, sending and raising a code can do, once. -/

namespace Sys2Proof.Machine

/-! ### Registers -/

theorem Dev.setN_eq (d : Dev) (o : Obj) (i : Nat) (v : Int) (j : Nat) : d.setN o i v j = d.setKey (o.key i j) (.num v) := rfl
theorem Dev.setB_eq (d : Dev) (o : Obj) (i : Nat) (b : Bytes) : d.setB o i b = d.setKey (o.key i) (.raw b) := rfl

/-- What a register write stores. -/
@[simp] theorem Dev.setKey_eff_self (d : Dev) (k : Nat) (v : Val) : tfind (d.setKey k v).dict.eff k = some v := by
  simp [Dev.setKey]

/-- Another register. -/
theorem Dev.setKey_eff_ne (d : Dev) {k j : Nat} (v : Val) (h : j ≠ k) :
    tfind (d.setKey k v).dict.eff j = tfind d.dict.eff j := by simp [Dev.setKey, tfind_tset_ne _ _ h]

@[simp] theorem Dev.setKey_events (d : Dev) (k : Nat) (v : Val) : (d.setKey k v).dict.events = d.dict.events := rfl

/-- A register reads what was last written to it. -/
@[simp] theorem Dev.rn_setN (d : Dev) (o : Obj) (i : Nat) (v : Int) (j : Nat) : (d.setN o i v j).rn o i j = v.toNat := by
  simp [Dev.rn, Dev.effV, Dev.setN_eq, Val.int]

/-- A byte register reads what was last written to it. -/
@[simp] theorem Dev.rb_setB (d : Dev) (o : Obj) (i : Nat) (b : Bytes) : (d.setB o i b).rb o i = b := by
  simp [Dev.rb, Dev.effV, Dev.setB_eq, Val.bytes]

/-- A register reads the same where its entry is the same. -/
theorem Dev.rn_congr {d e : Dev} {o : Obj} {i j : Nat}
    (h : tfind e.dict.eff (o.key i j) = tfind d.dict.eff (o.key i j)) : e.rn o i j = d.rn o i j := by
  simp [Dev.rn, Dev.effV, h]

/-- What a counter of fewer than eight bytes reads after one more event. -/
theorem Dev.rn_bump (d : Dev) (o : Obj) (i : Nat) (h : o.size < 8) : (d.bump o i).rn o i = upTo o (d.rn o i) := by
  unfold Dev.bump Dev.bumpBy upTo
  dsimp only
  rw [if_pos h]
  split
  · rw [Dev.rn_setN]; simp
  · rw [Dev.rn_setN]
    have : (2 : Int) ^ (8 * o.size) = ((2 ^ (8 * o.size) : Nat) : Int) := by simp
    rw [this]; omega

/-- A counter that is not at its largest value counts one more. -/
theorem Dev.counts_bump (d : Dev) (o : Obj) (i : Nat) : d.counts (d.bump o i) o i := by
  intro h
  unfold Dev.bump Dev.bumpBy
  dsimp only
  rw [if_pos h, Dev.rn_setN]
  simp

/-! ### Commands -/

/-- What a command that works on the device alone gives. -/
theorem State.gives_run {s : State} {c : Instr} {t : Nat} {f : Dev → Dev} {P : Dev → Prop} (h : exec c s = s.run t f)
    (p : P (f (s.dev.tick t))) : s.gives c P := ⟨_, h, ⟨fun _ => rfl, rfl⟩, p⟩

@[simp] theorem Dev.when_true (d : Dev) (f : Dev → Dev) : d.when true f = f d := rfl
@[simp] theorem Dev.when_false (d : Dev) (f : Dev → Dev) : d.when false f = d := rfl

/-- What a command does where its condition holds. -/
theorem Dev.when_pos {d : Dev} {b : Bool} (f : Dev → Dev) (h : b = true) : d.when b f = f d := by subst h; rfl

/-- What a command does where its condition fails: nothing. -/
theorem Dev.when_neg {d : Dev} {b : Bool} (f : Dev → Dev) (h : b = false) : d.when b f = d := by subst h; rfl

/-! ### The bare device -/

@[simp] theorem Dev.bare_setKey (d : Dev) (k : Nat) (v : Val) : (d.setKey k v).bare = d.bare := rfl
@[simp] theorem Dev.bare_setN (d : Dev) (o : Obj) (i : Nat) (v : Int) (j : Nat) : (d.setN o i v j).bare = d.bare := rfl
@[simp] theorem Dev.bare_setB (d : Dev) (o : Obj) (i : Nat) (b : Bytes) : (d.setB o i b).bare = d.bare := rfl
@[simp] theorem Dev.bare_emit (d : Dev) (x : Out) : (d.emit x).bare = d.bare := rfl
@[simp] theorem Dev.bare_fresh (d : Dev) : d.fresh.2.bare = d.bare := rfl
@[simp] theorem Dev.bare_noteRaise (d : Dev) (k : Nat) : (d.noteRaise k).bare = d.bare := rfl
@[simp] theorem Dev.bare_modRing (d : Dev) (n : Nat) (f : Ring → Ring) : (d.modRing n f).bare = d.bare := rfl
@[simp] theorem Dev.bare_modCan (d : Dev) (n : Nat) (f : CanPort → CanPort) : (d.modCan n f).bare = d.bare := rfl
@[simp] theorem Dev.bare_setSession (d : Dev) (se : Session) : (d.setSession se).bare = d.bare := rfl

@[simp] theorem Dev.bare_bumpBy (d : Dev) (o : Obj) (i n : Nat) : (d.bumpBy o i n).bare = d.bare := by
  unfold Dev.bumpBy; dsimp only; split; · rfl
  split <;> rfl

@[simp] theorem Dev.bare_bump (d : Dev) (o : Obj) (i : Nat) : (d.bump o i).bare = d.bare := Dev.bare_bumpBy d o i 1

@[simp] theorem Dev.bare_complete (d : Dev) (r : Nat) (x : TxDesc) (s t : Nat) : (d.complete r x s t).bare = d.bare := by
  simp [Dev.complete]

@[simp] theorem Dev.bare_post (d : Dev) (r : Nat) (x : TxDesc) : (d.post r x).bare = d.bare := by
  unfold Dev.post; dsimp only
  repeat' split
  all_goals simp

@[simp] theorem Dev.bare_sendUdp (d : Dev) (r : Nat) (a : Bytes) (p : Nat) (b : Bytes) : (d.sendUdp r a p b).bare = d.bare := by
  simp [Dev.sendUdp]

@[simp] theorem Dev.bare_sendQdp (d : Dev) (se : Session) (q t : Nat) (b : Bytes) : (d.sendQdp se q t b).bare = d.bare := by
  simp [Dev.sendQdp]

@[simp] theorem Dev.bare_appendEvent (d : Dev) (c p0 p1 p2 p3 : Nat) : (d.appendEvent c p0 p1 p2 p3).bare = d.bare := by
  unfold Dev.appendEvent; dsimp only; split
  · rw [Dev.bare_bump]; rfl
  · rfl

@[simp] theorem Dev.bare_emcy (d : Dev) (e : EventRec) (p : Nat) : (d.emcy e p).bare = d.bare := by
  unfold Dev.emcy; dsimp only; split <;> rfl

/-- A fold of steps that leave the bare device alone does. -/
theorem Dev.bare_foldl {α : Type} (f : Dev → α → Dev) (hf : ∀ d x, (f d x).bare = d.bare) (l : List α) (d : Dev) :
    (l.foldl f d).bare = d.bare := by
  induction l generalizing d with
  | nil => rfl
  | cons x r ih => simp [List.foldl_cons, ih, hf]

@[simp] theorem Dev.bare_deliver (d : Dev) : d.deliver.bare = d.bare := by
  unfold Dev.deliver; split
  · rfl
  · simp only [Dev.bare_emcy]
    apply Dev.bare_foldl
    intro d se; split <;> simp

/-- Raising a code leaves the bare device alone. -/
@[simp] theorem Dev.bare_raise (d : Dev) (c p0 p1 p2 p3 : Nat) : (d.raise c p0 p1 p2 p3).bare = d.bare := by
  unfold Dev.raise; dsimp only; split <;> simp

@[simp] theorem Dev.bare_raiseOnce (d : Dev) (n u c p0 p1 p2 p3 : Nat) : (d.raiseOnce n u c p0 p1 p2 p3).bare = d.bare := by
  unfold Dev.raiseOnce; dsimp only; split <;> simp

@[simp] theorem Dev.bare_raiseOwn (d : Dev) (o : Own) : (d.raiseOwn o).bare = d.bare := by simp [Dev.raiseOwn]

/-- A field is as before where the bare device is. -/
theorem Dev.of_bare {α : Type} {d e : Dev} (f : Dev → α) (hf : ∀ x : Dev, f x = f x.bare) (h : e.bare = d.bare) : f e = f d := by
  rw [hf e, hf d, h]

/-! ### Events -/

@[simp] theorem Dev.bumpBy_events (d : Dev) (o : Obj) (i n : Nat) : (d.bumpBy o i n).dict.events = d.dict.events := by
  unfold Dev.bumpBy; dsimp only; repeat' split
  all_goals rfl

@[simp] theorem Dev.bump_events (d : Dev) (o : Obj) (i : Nat) : (d.bump o i).dict.events = d.dict.events := Dev.bumpBy_events d o i 1

@[simp] theorem Dev.complete_events (d : Dev) (r : Nat) (x : TxDesc) (s t : Nat) :
    (d.complete r x s t).dict.events = d.dict.events := by simp [Dev.complete]

@[simp] theorem Dev.post_events (d : Dev) (r : Nat) (x : TxDesc) : (d.post r x).dict.events = d.dict.events := by
  unfold Dev.post; dsimp only
  repeat' split
  all_goals simp

@[simp] theorem Dev.fresh_events (d : Dev) : d.fresh.2.dict.events = d.dict.events := rfl
@[simp] theorem Dev.setSession_events (d : Dev) (se : Session) : (d.setSession se).dict.events = d.dict.events := rfl

@[simp] theorem Dev.sendUdp_events (d : Dev) (r : Nat) (a : Bytes) (p : Nat) (b : Bytes) :
    (d.sendUdp r a p b).dict.events = d.dict.events := by simp [Dev.sendUdp]

@[simp] theorem Dev.sendQdp_events (d : Dev) (se : Session) (q t : Nat) (b : Bytes) :
    (d.sendQdp se q t b).dict.events = d.dict.events := by simp [Dev.sendQdp]

@[simp] theorem Dev.emcy_events (d : Dev) (e : EventRec) (p : Nat) : (d.emcy e p).dict.events = d.dict.events := by
  unfold Dev.emcy; dsimp only; split <;> rfl

theorem Dev.events_foldl {α : Type} (f : Dev → α → Dev) (hf : ∀ d x, (f d x).dict.events = d.dict.events) (l : List α) (d : Dev) :
    (l.foldl f d).dict.events = d.dict.events := by
  induction l generalizing d with
  | nil => rfl
  | cons x r ih => simp [List.foldl_cons, ih, hf]

@[simp] theorem Dev.deliver_events (d : Dev) : d.deliver.dict.events = d.dict.events := by
  unfold Dev.deliver; split
  · rfl
  · simp only [Dev.emcy_events]
    apply Dev.events_foldl
    intro d se; split <;> simp

/-- While the ring has room a raise appends one record. -/
theorem Dev.raise_events (d : Dev) (c p0 p1 p2 p3 : Nat) (h : d.evRoom = true) :
    (d.raise c p0 p1 p2 p3).dict.events =
      d.dict.events ++ [⟨c, p0 % 2 ^ 16, p1 % 2 ^ 16, p2 % 2 ^ 32, p3 % 2 ^ 32, d.dict.evNext, d.clock⟩] := by
  have h' : d.dict.events.length < 4096 := by simpa [Dev.evRoom] using h
  have hne : (d.dict.events.length == 4096) = false := by simp; omega
  unfold Dev.raise
  simp only [hne, Bool.false_and, Bool.false_eq_true, if_false, Dev.deliver_events]
  unfold Dev.appendEvent
  have h2 : ¬ 4096 < (d.dict.events ++ [(⟨c, p0 % 2 ^ 16, p1 % 2 ^ 16, p2 % 2 ^ 32, p3 % 2 ^ 32, d.dict.evNext, d.clock⟩ : EventRec)]).length := by
    simp; omega
  simp only [h2, if_false]
  rfl

/-- The newest event after a raise is the code raised. -/
theorem Dev.raise_newest (d : Dev) (c p0 p1 p2 p3 : Nat) (h : d.evRoom = true) : (d.raise c p0 p1 p2 p3).newest c p0 p1 := by
  refine ⟨⟨c, p0 % 2 ^ 16, p1 % 2 ^ 16, p2 % 2 ^ 32, p3 % 2 ^ 32, d.dict.evNext, d.clock⟩, ?_, rfl, rfl, rfl⟩
  rw [Dev.raise_events d c p0 p1 p2 p3 h]
  simp

/-! ### What reporting leaves of the registers -/

theorem Dev.setN_regs (d : Dev) (o : Obj) (i : Nat) (v : Int) (j : Nat) {k : Nat} (h : k ≠ o.key i j) :
    tfind (d.setN o i v j).dict.eff k = tfind d.dict.eff k := Dev.setKey_eff_ne d _ h

theorem Dev.bumpBy_regs (d : Dev) (o : Obj) (i n : Nat) {k : Nat} (h : k ≠ o.key i) :
    tfind (d.bumpBy o i n).dict.eff k = tfind d.dict.eff k := by
  unfold Dev.bumpBy; dsimp only; repeat' split
  all_goals exact Dev.setKey_eff_ne _ _ h

theorem Dev.bump_regs (d : Dev) (o : Obj) (i : Nat) {k : Nat} (h : k ≠ o.key i) :
    tfind (d.bump o i).dict.eff k = tfind d.dict.eff k := Dev.bumpBy_regs d o i 1 h

theorem ringFrames_key (r : Nat) (h : r < 64) : reportKey (O.ringFrames.key r) = true := by
  have h : O.ringFrames.has (O.ringFrames.key r) = true := by
    simp only [Obj.has, Obj.key, O.ringFrames, Bool.and_eq_true]
    exact ⟨⟨⟨decide_eq_true (by omega), decide_eq_true (by omega)⟩, decide_eq_true (by omega)⟩, decide_eq_true (by omega)⟩
  simp [reportKey, h]

/-- Two devices agree on every register that reporting a code may not change. -/
def Dev.quiet (d e : Dev) : Prop := ∀ k, reportKey k = false → tfind e.dict.eff k = tfind d.dict.eff k

theorem Dev.quiet.refl (d : Dev) : d.quiet d := fun _ _ => rfl
theorem Dev.quiet.trans {a b c : Dev} (h : a.quiet b) (g : b.quiet c) : a.quiet c := fun k hk => (g k hk).trans (h k hk)

theorem Dev.quiet_bumpBy (d : Dev) (o : Obj) (i n : Nat) (h : reportKey (o.key i) = true) : d.quiet (d.bumpBy o i n) := by
  intro k hk
  refine Dev.bumpBy_regs d o i n fun e => ?_
  rw [e, h] at hk
  exact absurd hk (by decide)

theorem Dev.quiet_setSession (d : Dev) (se : Session) : d.quiet (d.setSession se) := fun _ _ => rfl
theorem Dev.quiet_fresh (d : Dev) : d.quiet d.fresh.2 := fun _ _ => rfl

theorem Dev.quiet_complete (d : Dev) (r : Nat) (x : TxDesc) (s t : Nat) (h : r < 64) : d.quiet (d.complete r x s t) := by
  unfold Dev.complete Dev.bump
  exact Dev.quiet.trans (fun _ _ => rfl) (Dev.quiet_bumpBy _ _ _ _ (ringFrames_key r h))

theorem Dev.quiet_post (d : Dev) (r : Nat) (x : TxDesc) (h : r < 64) : d.quiet (d.post r x) := by
  have key : reportKey (O.timeTriggersLate.key 0) = true := by decide
  unfold Dev.post; dsimp only
  repeat' split
  · exact (Dev.quiet_bumpBy _ _ _ _ key).trans (Dev.quiet_complete _ _ _ _ _ h)
  · exact (Dev.quiet_bumpBy _ _ _ _ key).trans (Dev.quiet_complete _ _ _ _ _ h)
  · exact (Dev.quiet_bumpBy _ _ _ _ key).trans fun _ _ => rfl
  · exact Dev.quiet_complete _ _ _ _ _ h
  · exact Dev.quiet_complete _ _ _ _ _ h
  · exact fun _ _ => rfl

theorem Dev.quiet_sendUdp (d : Dev) (r : Nat) (a : Bytes) (p : Nat) (b : Bytes) (h : r < 64) : d.quiet (d.sendUdp r a p b) := by
  unfold Dev.sendUdp
  exact (Dev.quiet_fresh d).trans (Dev.quiet_post _ _ _ h)

theorem Dev.quiet_sendQdp (d : Dev) (se : Session) (q t : Nat) (b : Bytes) (h : q < 16) : d.quiet (d.sendQdp se q t b) := by
  unfold Dev.sendQdp
  refine (Dev.quiet_setSession d _).trans (Dev.quiet_sendUdp _ _ _ _ _ ?_)
  have := se.port.isLt
  omega

theorem Dev.quiet_emcy (d : Dev) (e : EventRec) (p : Nat) : d.quiet (d.emcy e p) := by
  intro k _
  unfold Dev.emcy; dsimp only; split <;> rfl

theorem Dev.quiet_foldl {α : Type} (f : Dev → α → Dev) (hf : ∀ (d : Dev) x, d.quiet (f d x)) (l : List α) (d : Dev) : d.quiet (l.foldl f d) := by
  induction l generalizing d with
  | nil => exact Dev.quiet.refl d
  | cons x r ih => exact (hf d x).trans (ih _)

theorem Dev.quiet_deliver (d : Dev) : d.quiet d.deliver := by
  unfold Dev.deliver; split
  · exact Dev.quiet.refl d
  · refine Dev.quiet.trans (Dev.quiet_foldl _ (fun d se => ?_) _ _) ((Dev.quiet_emcy _ _ _).trans (Dev.quiet_emcy _ _ _))
    split
    · exact Dev.quiet_sendQdp _ _ _ _ _ (by decide)
    · exact Dev.quiet.refl d

theorem ne_of_report {k j : Nat} (hk : reportKey k = false) (hj : reportKey j = true) : k ≠ j := by
  intro e; rw [e, hj] at hk; exact Bool.noConfusion hk

theorem reportKey_last : reportKey (O.dictEventsLast.key 0) = true := by decide
theorem reportKey_lost : reportKey (O.dictEventsLost.key 0) = true := by decide

theorem Dev.quiet_appendEvent (d : Dev) (c p0 p1 p2 p3 : Nat) : d.quiet (d.appendEvent c p0 p1 p2 p3) := by
  intro k hk
  have h1 := ne_of_report hk reportKey_last
  have h2 := ne_of_report hk reportKey_lost
  unfold Dev.appendEvent
  extract_lets e all _ d1 d2
  have g : tfind d2.dict.eff k = tfind d.dict.eff k := Dev.setKey_eff_ne d1 _ h1
  split
  · exact (Dev.bump_regs d2 _ _ h2).trans g
  · exact g

theorem Dev.quiet_noteRaise (d : Dev) (k : Nat) : d.quiet (d.noteRaise k) := fun _ _ => rfl

/-- Raising a code changes no register but those of reporting. -/
theorem Dev.quiet_raise (d : Dev) (c p0 p1 p2 p3 : Nat) : d.quiet (d.raise c p0 p1 p2 p3) := by
  have h (e : Dev) (c p0 p1 p2 p3 : Nat) : e.quiet (e.appendEvent c p0 p1 p2 p3).deliver :=
    (Dev.quiet_appendEvent e c p0 p1 p2 p3).trans (Dev.quiet_deliver _)
  unfold Dev.raise
  extract_lets full d1
  split
  · exact (h d c p0 p1 p2 p3).trans ((Dev.quiet_noteRaise d1 _).trans (h _ _ _ _ _ _))
  · exact h d c p0 p1 p2 p3

theorem Dev.quiet_raiseOnce (d : Dev) (n u c p0 p1 p2 p3 : Nat) : d.quiet (d.raiseOnce n u c p0 p1 p2 p3) := by
  unfold Dev.raiseOnce
  extract_lets key
  split
  · exact (Dev.quiet_noteRaise d _).trans (Dev.quiet_raise _ _ _ _ _ _)
  · exact Dev.quiet.refl d

end Sys2Proof.Machine
end

