-- ==== Sys2Proof/Machine/Package.lean ====
section
/-! DEFINITION. The package (chapter 17) and the quads (R29, R217): what each ball position carries, the states balls take
outside normal operation, which lanes are held powered down, and the reference a quad runs from. -/

namespace Sys2Proof.Machine

/-- What a ball is (Tables 17-3 to 17-6). -/
inductive Ball where
  | vss | vcore | vsram | vphyMemAn | vphyMemIo | vlaneAn | vlaneCore | vio | vafe | vaon
  | lane (n : Nat) (tx positive : Bool)
  | mem (ch : Nat) (signal : String)
  | aux (h : Nat) (positive : Bool)
  | hpd (h : Nat)
  | touch (k : Nat)
  | guard (n : Nat)
  | presence (n : Nat)
  | test (k : Nat)
  | mzq (k : Nat)
  | mreset
  | pin (name : String)
deriving DecidableEq, Repr

/-- The designator of a row, by its letters (Table 17-2). -/
def rowLetters : List Char := "ABCDEFGHJKLMNPTUVWY".toList
/-- See `rowLetters`: rows 20 on have two letters. -/
def rowLetters2 : List Char := "ABCDEFGHJKLMNPRTUVWY".toList

/-- The designator of row r (Table 17-2). -/
def rowName (r : Nat) : String :=
  if r ≤ 19 then String.ofList [rowLetters.getD (r - 1) ' ']
  else if r ≤ 39 then String.ofList ['A', rowLetters2.getD (r - 20) ' ']
  else String.ofList ['B', rowLetters.getD (r - 40) ' ']

/-- The name of the ball at a position (R462). -/
def ballName (r c : Nat) : String := rowName r ++ toString c

/-- The first lane of a row of lane balls, and whether the row transmits (R464). -/
def laneRow (r : Nat) : Option (Nat × Bool) :=
  if r = 2 then some (0, true) else if r = 4 then some (0, false) else if r = 6 then some (24, true)
  else if r = 8 then some (24, false) else if r = 50 then some (48, true) else if r = 48 then some (48, false) else none

/-- The template of a memory channel's block (Table 17-4). -/
def memCells : List (List String) :=
  [["DQ0", "DQ1", "DQ2", "DQ3", "VSS"], ["DQ4", "DQ5", "DQ6", "DQ7", "DMI0"],
   ["WCK0_T", "WCK0_C", "RDQS0_T", "RDQS0_C", "VPHY_MEM_IO"], ["CA0", "CA1", "CA2", "CA3", "CK_T"],
   ["CA4", "CA5", "CA6", "CS0", "CK_C"], ["WCK1_T", "WCK1_C", "RDQS1_T", "RDQS1_C", "CS1"],
   ["DQ8", "DQ9", "DQ10", "DQ11", "DMI1"], ["DQ12", "DQ13", "DQ14", "DQ15", "VSS"]]

/-- A cell of the memory field (R465): row and column from the field's corner, side 0 or 1. -/
def memBall (side i j : Nat) : Ball :=
  let ch := 8 * side + 2 * (i / 8) + j / 5
  let cell := (memCells.getD (i % 8) []).getD (j % 5) "VSS"
  if cell = "VSS" then .vss else if cell = "VPHY_MEM_IO" then .vphyMemIo else .mem ch cell

/-- Rows 42 to 46, columns 1 to 10 (Table 17-5). -/
def leftBalls : List (List Ball) :=
  [[.mzq 0, .mzq 1, .mzq 2, .mzq 3, .mreset, .vss, .vio, .vss, .test 0, .test 1],
   [.pin "XS_DQ0", .pin "XS_DQ1", .pin "XS_DQ2", .pin "XS_DQ3", .vss, .pin "XS_CLK", .vss, .vio, .test 2, .test 3],
   [.pin "XS_DQ4", .pin "XS_DQ5", .pin "XS_DQ6", .pin "XS_DQ7", .vss, .pin "XS_DS", .pin "XS_CS_N", .vss, .vio, .vss],
   [.pin "CAN0_TX", .pin "CAN0_RX", .pin "CAN1_TX", .pin "CAN1_RX", .vio, .vss, .vio, .vss, .vss, .vss],
   [.pin "TCK", .pin "TMS", .pin "TDI", .pin "TDO", .pin "TRST_N", .vio, .vss, .vss, .vss, .vss]]

/-- Rows 42 to 46, columns 42 to 51 (Table 17-6). -/
def rightBalls : List (List Ball) :=
  [[.test 4, .test 5, .vss, .vio, .vss, .mzq 4, .mzq 5, .mzq 6, .mzq 7, .vss],
   [.test 6, .test 7, .vio, .vss, .pin "REF100P", .pin "REF100N", .vss, .pin "REFIN100P", .pin "REFIN100N", .vss],
   [.vss, .vio, .pin "TWIN_LEAD", .pin "TWIN_FENCE", .pin "FAULT_N", .vss, .pin "XIN25", .pin "XOUT25", .vss, .vss],
   [.vio, .vss, .pin "nPOR_OUT", .pin "PWR_REQ", .pin "WAKE", .pin "nRESET", .vss, .pin "OSC32K_IN", .pin "OSC32K_OUT", .vss],
   [.vss, .vio, .vss, .vio, .vss, .vaon, .vaon, .vss, .vss, .vss]]

/-- AUX, HPD and VSRAM: rows 10 to 15, columns 13 to 39 (R466). -/
def sideBall (r c : Nat) : Ball :=
  if 30 ≤ c || (c = 13 && 11 ≤ r && r ≤ 14) then .vsram
  else if c < 14 then .vss
  else
    let h := c - 14 + 16 * ((r - 10) / 3)
    if (r - 10) % 3 = 0 then .aux h true else if (r - 10) % 3 = 1 then .aux h false else .hpd h

/-- The touch field: rows 30 to 46, columns 13 to 39 (R466). -/
def touchBall (r c : Nat) : Ball :=
  if r = 30 then
    if 16 ≤ c && c ≤ 31 then
      let n := (c - 16) / 4
      if c % 4 = 0 then .guard n else if c % 4 = 1 then .presence n else .vafe
    else .vss
  else if 16 ≤ c && c ≤ 31 then .touch (16 * (r - 31) + (c - 16))
  else if (r = 31 || r = 38) && (c = 14 || c = 33) then .vafe
  else .vss

/-- What the ball at row r, column c of the field is (R463 to R467). -/
def ballAt (r c : Nat) : Ball :=
  if r < 1 || 51 < r || c < 1 || 51 < c then .vss
  else if r ≤ 9 || 47 ≤ r then
    if c < 2 || 49 < c then .vss
    else if r = 9 || r = 47 then if c % 4 = 0 then .vlaneAn else .vlaneCore
    else match laneRow r with
      | some (base, tx) => .lane (base + (c - 2) / 2) tx (c % 2 == 0)
      | none => .vss
  else if c ≤ 10 then if r ≤ 41 then memBall 0 (r - 10) (c - 1) else (leftBalls.getD (r - 42) []).getD (c - 1) .vss
  else if 42 ≤ c then if r ≤ 41 then memBall 1 (r - 10) (c - 42) else (rightBalls.getD (r - 42) []).getD (c - 42) .vss
  else if c = 11 || c = 41 then if r ≤ 41 then .vphyMemIo else .vss
  else if c = 12 || c = 40 then if r ≤ 17 then .vphyMemAn else .vss
  else if r ≤ 15 then sideBall r c
  else if r ≤ 29 then if (r + c) % 3 = 0 then .vss else .vcore
  else touchBall r c

/-- How many balls of the field meet a test (R468). -/
def ballCount (p : Ball → Bool) : Nat :=
  ((List.range 51).map fun r => ((List.range 51).filter fun c => p (ballAt (r + 1) (c + 1))).length).sum

/-! ### Ball states (R473) -/

/-- The states of Table 17-10. -/
inductive BallState where
  | unpowered | highZ | low | high | idle | poweredDown | sequencer | recessive
deriving DecidableEq, Repr

/-- The rows of Table 17-10. -/
inductive BallGroup where
  | lanes | flash | twinLead | porOut | faultN | pwrReq | canTx | touch | mreset
deriving DecidableEq, Repr

/-- The column of Table 17-10 the device is in: 0 rails off or standby, 1 reset and start-up, 2 stopped; none in normal
operation. -/
def Power.ballColumn (p : Power) : Option Nat :=
  if !p.pwrReq || p.phase == .standby || p.phase == .powerDown then some 0
  else if [Phase.reset, .sequencing, .pllLocked, .trained, .wiped].contains p.phase then some 1
  else if p.phase == .stopped then some 2
  else none

/-- The state of a group of balls outside normal operation (Table 17-10). MRESET_N leaves its low level once the DRAM's rails
are in range, which is taken to be before the memory trains (DEDUCED, log 53). -/
def Power.ballState (p : Power) (g : BallGroup) : Option BallState :=
  p.ballColumn.map fun col => match g with
    | .lanes => if col = 0 then .unpowered else if col = 1 then .idle else .poweredDown
    | .flash => if col = 0 then .unpowered else if col = 1 then .sequencer else .highZ
    | .twinLead => if col = 0 then .unpowered else .low
    | .porOut => if col = 0 then .unpowered else .low
    | .faultN => if col = 0 then .highZ else .low
    | .pwrReq => if col = 0 then .low else .high
    | .canTx => if col = 0 then .unpowered else .recessive
    | .touch => .highZ
    | .mreset => if col = 0 then .unpowered
        else if [Phase.pllLocked, .trained, .wiped].contains p.phase then .high else .low

/-! ### Lanes and quads (R7, R29, R30, R217, R469) -/

/-- Whether a lane's transmit or receive side is held powered down: the receive pairs of the head lanes, lanes of a head that
the grade lacks, of a port in mode 0, of the rope when it is not enabled. -/
def Dev.laneDown (d : Dev) (n : Nat) (tx : Bool) : Bool :=
  if n < 64 then !tx || d.gradeHeads ≤ n / 2
  else if n < 68 then d.rn O.portMode (n - 64) == 0
  else !d.rf O.ropeEnable

/-- Whether the AUX pair and the HPD input of a head are held powered down (R7). -/
def Dev.sidebandDown (d : Dev) (h : Nat) : Bool := d.gradeHeads ≤ h

/-- What a quad's lanes take as their reference. -/
inductive LaneRef where
  | own | ownSpread | refin
deriving DecidableEq, Repr

/-- The reference of quad q (R29, R30): quad 16 always runs from the unspread REF100; a lost REFIN100 leaves the others on it. -/
def Dev.quadRef (d : Dev) (q : Nat) : LaneRef :=
  if q = 16 then .own
  else if d.rn O.clockRefStatus = 1 then .refin
  else if d.rn O.clockRefSelect = 0 && d.rf O.clockRefSpread then .ownSpread
  else .own

/-- Whether REF100P/N is driven with down-spread (R29). -/
def Dev.refSpread (d : Dev) : Bool := d.rf O.clockRefSpread

end Sys2Proof.Machine
end

