-- ==== Sys2Proof/Tests/Slice0.lean ====
section
/-! SUPPORT. Own tests: values that the spec works out, an ill-formed command for each check of well-formedness, and for each
statement with premises (theorem wit_<statement>…) a device that meets them all, clause by clause. Premises that speak of what an
option holds are witnessed by what it does hold. -/

open Sys2Proof Sys2Proof.Machine

namespace Sys2Proof.Tests

set_option Elab.async false

/-- A running device 100 s after the epoch. -/
def base : Dev := { power := { phase := .running, nreset := false, life := 2 }, clock := 100 * 10 ^ 9 * 2 ^ 48 }

/-- The device as a command of instant 0 finds it. -/
def at0 (d : Dev) : Dev := (State.mk d [] []).dev.tick 0

/-- A device with registers at given values. -/
def set (l : List (Obj × Nat × Int)) (d : Dev) : Dev := l.foldl (fun d x => d.setN x.1 x.2.1 x.2.2) d

/-! ### Cairn, heads, commit groups -/

/-- Layer 3 shows stream 5 on head 0, which is in frame. -/
def cairn : Dev :=
  { base with
    ingest := [(5, { bound := true })]
    activeT := [(3, { head := 0, kind := 0, cls := 2, control := 0x8000, source := 5, srcW := 64, srcH := 64, dstW := 64, dstH := 64,
                      ageBound := 100 })]
    heads := [(0, { inFrame := true, alive := some 4, start := 100 * 10 ^ 9 - 1000 })] }

theorem wit_StreamLossMarks : let d := at0 cairn
    d.alive = true ∧ (d.ing (5 : Fin 128)).bound = true ∧ d.streamLost (5 : Fin 128) (six d.now) = true := by decide +kernel

theorem wit_CutOffEvaluates : let d := at0 cairn
    d.alive = true ∧ d.evFree 3 = true ∧ (d.evalNow (3 : Fin 512)).isSome = true ∧
    (∀ ev ∈ d.evalNow (3 : Fin 512), (∀ y ∈ d.evalAhead (3 : Fin 512), gapOf ev.cutoff (six d.now) ≤ gapOf y.cutoff (six d.now)) ∧
      ev.state ≠ .none ∧ ev.state ≠ ((d.lastEval 3).map (·.state)).getD .none) := by decide +kernel

/-- A clean picture of stream 5, complete 20 ms ago. -/
def picSlot : Slot :=
  { id := 0, tag := some { stream := 5, integrity := .clean, cap := { time := 100 * 10 ^ 9 - 30000000 }, probe := false,
                           frozen := false, signature := 0, sequence := 1, completion := 100 * 10 ^ 9 - 20000000,
                           runStart := 100 * 10 ^ 9 - 30000000 },
    poc := 0, isRef := false, isLong := false, awaitOut := false, planes := ⟨2, 2, 8, [[0, 0], [0, 0]], [[0]], [[0]]⟩,
    colour := {}, checksum := 0 }

/-- The same device with a picture of the stream, whose last access unit ended 25 ms ago. -/
def cairnLive : Dev :=
  { cairn with ingest := [(5, { bound := true, lastEnd := some (100 * 10 ^ 9 - 25000000) })]
               ctxs := [(5, { state := .clean, slots := [picSlot] })] }

theorem wit_LiveIsInformed : let d := cairnLive; let desc := d.desc 3
    desc.kind = 0 ∧ desc.evaluated = true ∧
      (d.evalLayer 3 desc none (100 * 10 ^ 9 - 1000) 9000 4).map (·.state) = some .live := by decide +kernel

/-- A key of the cache over layer 3. -/
def aKey : CopyKey := ⟨0, 0, 0, [(3, {})], []⟩

/-- A waiting build on a head of 640 by 480. -/
def waitingBuild : Dev := set [(O.headHActive, 0, 640), (O.headVActive, 0, 480), (O.headEnable, 1, 0)] { base with bivouac := { builds := [⟨aKey, 7, false, false, [], false⟩] } }

theorem wit_BuildStarts : let d := at0 waitingBuild
    d.alive = true ∧ (∀ b ∈ d.bivouac.builds, b.running = true → d.keyPipe b.key ≠ (0 : Fin 18)) ∧ d.pipeFree (0 : Fin 18) = true ∧
      (d.nextBuild (0 : Fin 18)).isSome = true := by decide +kernel

theorem wit_BuildCompletes : let d := at0 { base with bivouac := { builds := [⟨aKey, 7, false, true, [], false⟩] } }
    d.alive = true ∧ (d.bivouac.builds.find? (fun b => b.running && d.keyPipe b.key == (0 : Fin 18))).isSome = true ∧
      d.blocksUsed + min 80 100 ≤ d.rn O.bivouacCapacity := by decide +kernel

theorem wit_ReadErrorTransient : let d := at0 cairn
    d.alive = true ∧ d.bivouac.retired.contains (67 : Fin 68).val = false ∧ d.transientOver 8 (67 : Fin 68) = false ∧
      d.evFree 3 = true ∧ (d.hd (0 : Fin 32)).inFrame = true := by decide +kernel

theorem wit_ReadErrorRetires : let d := at0 base
    d.alive = true ∧ d.bivouac.retired.contains (67 : Fin 68).val = false ∧
      d.bivouac.spares.filter (· != (67 : Fin 68).val) = 64 :: [65, 66] := by decide +kernel

/-- A head between frames whose next one is due and that emits on a running link. -/
def dueHead : Dev :=
  { base with heads := [(31, { nextStart := some (100 * 10 ^ 9), alive := some 4, emitting := true })]
              links := [(31, { state := .running })] }

theorem wit_FrameStarts : let d := at0 dueHead; let h : Fin 32 := 31
    d.alive = true ∧ d.headOn h = true ∧ (d.hd h).inFrame = false ∧ d.mayStart h = true ∧ (d.hd h).late = none ∧
      (d.hd h).remap = none ∧ d.power.phase ≠ .stoppingHeads ∧ (d.hd h).emitting = true ∧ (d.lk h).state = .running ∧
      d.mayEmit h = true := by decide +kernel

theorem wit_ActiveEnds : let d := at0 cairn; let h : Fin 32 := 0
    d.alive = true ∧ d.headOn h = true ∧ (d.hd h).inFrame = true := by decide +kernel

theorem wit_SealDropped : let d := at0 { base with heads := [(0, { sealPend := some [1] })] }; let h : Fin 32 := 0
    d.alive = true ∧ (d.hd h).sealPend.isSome = true := by decide +kernel

theorem wit_UnderflowMarks : let d := at0 cairn; let h : Fin 32 := 0
    d.alive = true ∧ d.composed h = true ∧ (d.hd h).inFrame = true ∧ (d.pp (d.rn O.headPipe h)).retry = none ∧
      d.evFree 2 = true ∧ (∃ l ∈ d.vlayers h, l.2.2.y0 ≤ 63 ∧ 63 < l.2.2.y1) := by decide +kernel

theorem wit_SelfCheckRetries : let d := at0 base; let k : Fin 18 := 15
    d.alive = true ∧ d.pipeState k = .active ∧ (d.pp k).retry = none ∧ (d.onPipe k).filter d.composed ≠ [] ∧
      d.evFree 32 = true := by decide +kernel

theorem wit_PostTaken : let d := at0 base
    d.alive = true ∧ d.postPinned (255 : Fin 256) (3 : Fin 4) = false := by decide +kernel

theorem wit_PostBusy : let d := at0 { base with bivouac := { builds :=
      [⟨⟨0, 0, 0, [(3, { kind := 1, source := 255 })], []⟩, 7, false, true, [(3, 3, 9)], false⟩] } }
    d.alive = true ∧ d.postPinned (255 : Fin 256) (3 : Fin 4) = true ∧ d.evFree 1 = true := by decide +kernel

theorem wit_WritebackCompletes :
    let w : WbBuf := ⟨0, 5, 6, none, [], ⟨0, 0, 8, [], [], []⟩⟩
    let d := at0 { base with heads := [(0, { wb := [w] })] }
    d.alive = true ∧ (d.hd (0 : Fin 32)).wb.filter (·.completion.isNone) = [w] := by decide +kernel

/-- A table that names one content layer, wholly on head 0. -/
def aTable : GTable :=
  { token := 7, descs := [(3, { head := 0, kind := 3, cls := 0, control := 0, srcW := 64, srcH := 64, dstW := 64, dstH := 64 })],
    objs := [] }

/-- The same device with the table in validation. -/
def validating (tb : GTable) : Dev := at0 { base with groups := [(0, { validating := some tb })] }

theorem wit_ValidationEnds_ok :
    let tb : GTable := { token := 7, descs := [], objs := [(O.groupDeadlineLines.key 7, .num 100)] }
    let d := at0 { base with groups := [(7, { validating := some tb })] }; let g : Fin 8 := 7
    d.alive = true ∧ (d.grp g).revalidate = false ∧ (d.grp g).validating = some tb ∧ (d.validate g tb).toOption.isSome = true := by
  decide +kernel

theorem wit_ValidationEnds_refused :
    let tb : GTable := { aTable with descs := [(3, { head := 0, kind := 9, control := 0x8000 })] }
    let d := validating tb; let g : Fin 8 := 0
    d.alive = true ∧ (d.grp g).revalidate = false ∧ (d.grp g).validating = some tb ∧ (d.validate g tb).toOption = none := by
  decide +kernel

/-- The same table armed now on a unit without a twin, the instant the last before its effect. -/
def armedNow : Dev := at0 { base with groups := [(0, { armed := some { aTable with armedAt := 100 * 10 ^ 9 - 16000000 } })] }

theorem wit_CommitFallsDue : let d := armedNow; let g : Fin 8 := 0
    let tb : GTable := { aTable with armedAt := 100 * 10 ^ 9 - 16000000 }
    d.alive = true ∧ (d.grp g).armed = some tb ∧ (d.grp g).due = none ∧ (d.grp g).revalidate = false ∧
      (d.twin.role ≠ .lead ∧ d.twin.role ≠ .second ∨ tb.carried.isSome = true) ∧
      six (d.applyAt g tb) ≤ six d.now + d.deadline6 g := by decide +kernel

theorem wit_CommitApplies :
    let tb : GTable := { aTable with due := some (100 * 10 ^ 9) }
    let d := at0 { base with groups := [(7, { due := some tb })] }; let g : Fin 8 := 7
    d.alive = true ∧ (d.grp g).due = some tb ∧ tb.due.getD 0 ≤ d.now ∧ tb.recheck = false ∧
      (∀ o ∈ tb.objs, o.1 ≠ O.groupCommits.key g) := by decide +kernel

/-! ### Ethernet, ingest, the time base -/

/-- A PTP frame to every station. -/
def ptpFrame : EthFrame := ⟨64, true, [], 0xFFFFFFFFFFFF, 0x88F7, none, []⟩

/-- A received frame. -/
def anRx : RxDesc := rxDescOf ptpFrame 0 ⟨0, 3, 0xFF⟩

theorem wit_FrameClassified_none : let d := at0 base; let p : Fin 4 := 3
    d.alive = true ∧ d.rn O.portMode p ≠ 0 ∧ d.classify p { ptpFrame with fcsOk := false } = none := by decide +kernel

theorem wit_FrameClassified_taken : let d := at0 base; let p : Fin 4 := 3
    d.alive = true ∧ d.rn O.portMode p ≠ 0 ∧ (∃ pl ∈ d.classify p ptpFrame, pl.ring < 4 ∧
      (d.ring (16 * p + pl.ring)).rx.length < d.rn O.ringSize (16 * p + pl.ring) ∧ (pl.ring ≠ 2 ∨ isAnswered ptpFrame = false)) := by
  decide +kernel

theorem wit_FrameClassified_full :
    let d := at0 (set [(O.ringSize, 48, 64)] { base with rings := [(48, { rx := List.replicate 64 anRx })] }); let p : Fin 4 := 3
    d.alive = true ∧ d.rn O.portMode p ≠ 0 ∧ (∃ pl ∈ d.classify p ptpFrame, pl.ring < 4 ∧
      d.rn O.ringSize (16 * p + pl.ring) ≤ (d.ring (16 * p + pl.ring)).rx.length) := by decide +kernel

/-- Port 3 up, with a frame at the head of its ring 8 and one in transmission. -/
def portUp : Dev :=
  { base with ports := [(3, { linkUp := true })], rings := [(56, { tx := [{ id := 7 }] })] }

theorem wit_LinkGoesDown : let d := at0 { base with ports := [(3, { linkUp := true, sending := some (8, {}, 0) })] }; let p : Fin 4 := 3
    d.alive = true ∧ (d.port p).linkUp = true ∧ (∀ x ∈ (d.port p).sending, x.1 < 16) ∧ d.evFree 1 = true := by decide +kernel

theorem wit_LinkComesUp : let d := at0 base; let p : Fin 4 := 3
    d.alive = true ∧ d.rn O.portMode p ≠ 0 ∧ (d.port p).linkUp = false ∧ tget 0 d.health.dmaFault (unitKey 14 p) = 0 ∧
      d.evFree 1 = true := by decide +kernel

theorem wit_TransmitStarts : let d := at0 portUp; let p : Fin 4 := 3
    d.alive = true ∧ (d.port p).linkUp = true ∧ (d.port p).sending = none ∧ d.gated = false ∧
      (∀ o ∈ d.txOrder p, ∀ y ∈ d.txHead (16 * p + o), y.launchEn = false) ∧
      d.nextTx p = some 8 ∧ (d.ring (16 * p + 8)).tx = [{ id := 7 }] := by decide +kernel

theorem wit_TransmitDone : let d := at0 { base with ports := [(3, { linkUp := true, sending := some (8, {}, 0) })] }; let p : Fin 4 := 3
    d.alive = true ∧ (d.port p).sending = some (8, {}, 0) := by decide +kernel

/-- Port 3 up with a launch of ring 63 that is a millisecond late. -/
def lateLaunch (drop : Bool) : Dev :=
  { base with ports := [(3, { linkUp := true })]
              rings := [(63, { tx := [{ id := 7, launchEn := true, launch := 100 * 10 ^ 9 - 1000000, dropLate := drop }] })] }

theorem wit_LaunchLate : ∀ drop : Bool, let d := at0 (lateLaunch drop); let ring : Fin 64 := 63
    d.alive = true ∧ (∃ x ∈ d.txHead ring, d.launchLate (ring / 16) x = true ∧ x.late = false ∧ x.dropLate = drop) ∧
      d.evFree 1 = true ∧ d.mayRaise (Code.netLaunchLate * 65536 + ring) sec = true := by decide +kernel

theorem wit_CompareFires : let d := at0 { base with triggers := [(15, 99 * 10 ^ 9)] }; let i : Fin 16 := 15
    d.alive = true ∧ (∃ x ∈ tfind d.triggers i, compareFires x d.now = true) := by decide +kernel

/-- An access unit of one packet, ended a second ago. -/
def anAu (starts : Bool) : Au :=
  { uid := 1, rtpTs := 0, first := 99 * 10 ^ 9, pkts := [⟨5, starts, [1]⟩], ended := true, marker := true, done := 99 * 10 ^ 9 }

theorem wit_AuReleases : ∀ starts : Bool, let d := at0 { base with ingest := [(127, { bound := true, jitter := [anAu starts] })] }
    let st : Fin 128 := 127; let a := anAu starts
    d.alive = true ∧ (d.ing st).jitter = [a] ∧ a.ended = true ∧ a.dead = false ∧
      a.done + 1000000 * d.rn O.streamJitter st ≤ d.now ∧ d.evFree 1 = true ∧ a.complete none = starts := by decide +kernel

theorem wit_SsrcAndSenderReport :
    let d := at0 { base with ingest := [(127, { bound := true, ssrc := some 9, ssrcLast := 100 * 10 ^ 9 - 200000000 })] }
    let st : Fin 128 := 127
    d.alive = true ∧ (d.ing st).ssrc = some 9 ∧ (d.ing st).ssrcLast + 200000000 ≤ d.now ∧ (d.ing st).bound = true := by
  decide +kernel

theorem wit_ReceiverReportSent :
    let d := at0 { base with ports := [(0, { linkUp := true })], ingest := [(127, { bound := true, peer := some ([1], 5005) })] }
    let st : Fin 128 := 127
    d.alive = true ∧ (d.ing st).bound = true ∧ (d.rtcpPeer st).isSome = true ∧ (d.port (d.rn O.streamPort st)).linkUp = true := by
  decide +kernel

/-- Stream 127 in a state of its RTSP session. -/
def rtspIn (n : Nat) : Dev :=
  set [(O.streamSourceMode, 127, 2)]
    { base with ports := [(0, { linkUp := true })], ingest := [(127, { bound := true })], rtsp := [(127, { state := n, step := 3, due := 5 })] }

theorem wit_RtspProceeds : ∀ n ∈ [1, 2, 3, 4], let d := at0 (rtspIn n); let st : Fin 128 := 127
    d.alive = true ∧ (d.ing st).bound = true ∧ d.rn O.streamSourceMode st = 2 ∧ (d.rts st).state = n ∧ 1 ≤ (d.rts st).state ∧
      (d.rts st).state ≤ 4 := by decide +kernel

theorem wit_RtspTimers : ∀ n ∈ [4, 5], let d := at0 (rtspIn n); let st : Fin 128 := 127
    d.alive = true ∧ (d.rts st).due ≤ d.now ∧ (d.port (d.rn O.streamPort st)).linkUp = true ∧
      (d.rb O.streamRtspUrl st).length ≤ 1000 ∧ (d.rts st).state = n := by decide +kernel

theorem wit_MembershipsReported : let d := at0 { base with ports := [(3, { linkUp := true, joins := [⟨0, [1], [2], true⟩] })] }
    let p : Fin 4 := 3
    d.alive = true ∧ (d.port p).linkUp = true ∧ (∀ j ∈ (d.port p).joins, j.group.length ≤ 64 ∧ j.src.length ≤ 64) := by decide +kernel

/-- The time base in a state, following grandmaster 5 on port 0. -/
def timeIn (st : TimeState) (ins out : Nat) : Dev :=
  { base with time := { state := st, gm := 5, port := 0, inBound := ins, outBound := out, holdFrom := 100 * 10 ^ 9 }
              ports := [(0, { linkUp := true })] }

/-- The premises that every clause about a Sync shares. -/
abbrev synced (d : Dev) : Prop :=
  d.alive = true ∧ d.ptpPorts.contains (0 : Fin 4).val = true ∧ d.time.port = (0 : Fin 4) ∧ d.time.gm = 5 ∧ d.evFree 2 = true

theorem wit_SyncMeasured_locks : let d := at0 (timeIn .acquiring 15 0)
    synced d ∧ d.time.state = .acquiring ∧ (1000 : Int).natAbs ≤ 1000 ∧ d.time.inBound = 15 := by decide +kernel

theorem wit_SyncMeasured_waits : let d := at0 (timeIn .acquiring 14 0)
    synced d ∧ d.time.state = .acquiring ∧ (1000 < (1001 : Int).natAbs ∨ d.time.inBound < 15) := by decide +kernel

theorem wit_SyncMeasured_unlocks : let d := at0 (timeIn .locked 0 3)
    synced d ∧ d.time.state = .locked ∧ 10000 < (-10001 : Int).natAbs ∧ d.time.outBound = 3 := by decide +kernel

theorem wit_SyncMeasured_stays : let d := at0 (timeIn .locked 0 2)
    synced d ∧ d.time.state = .locked ∧ ((10000 : Int).natAbs ≤ 10000 ∨ d.time.outBound < 3) := by decide +kernel

theorem wit_SyncMeasured_returns : let d := at0 (timeIn .holdover 0 0)
    synced d ∧ d.time.state = .holdover ∧ (10000 : Int).natAbs ≤ 10000 := by decide +kernel

theorem wit_AnnounceSelects : let d := at0 (timeIn .free 0 0)
    d.alive = true ∧ d.ptpPorts.contains (0 : Fin 4).val = true ∧ d.time.masters = [] ∧ d.rf O.timeGmCapable = false ∧
      d.time.state = .free := by decide +kernel

theorem wit_PdelayAnswered : let d := at0 (timeIn .free 0 0); let p : Fin 4 := 0
    d.alive = true ∧ d.ptpPorts.contains p.val = true ∧ (d.port p).linkUp = true := by decide +kernel

theorem wit_SyncLost : ∀ st ∈ [TimeState.locked, .acquiring], let d := at0 (timeIn st 0 0)
    d.alive = true ∧ d.evFree 2 = true ∧ d.time.state = st := by decide +kernel

theorem wit_SyncLost_limit :
    let d := at0 { timeIn .holdover 0 0 with time := { (timeIn .holdover 0 0).time with lastOffset := 100001 } }
    d.alive = true ∧ d.evFree 2 = true ∧ d.time.state = .holdover ∧ 1000 * d.rn O.timeHoldoverLimit < d.errorBound := by decide +kernel

theorem wit_GrandmasterSends : let d := at0 (timeIn .grandmaster 0 0)
    d.alive = true ∧ d.time.state = .grandmaster ∧ (∃ p ∈ d.ptpPorts, (d.port p).linkUp = true) := by decide +kernel

/-! ### The decode cluster -/

/-- A parameter set of 64 by 64 in H.264 High. -/
def aPs : ParamSet := ⟨false, 2, 10, false, true, 1, 8, false, 64, 64, 64, 64, 1, 0, 10000, 1, 1, 1, false⟩

/-- The header of an intra picture. -/
def aHdr : PicHeader := ⟨.idr, 0, 0, [], [], [], true, 1, 100, 0⟩

/-- Stream 127 with a released access unit, its context on engine 0, busy with another stream. -/
def parsing : Dev :=
  { base with ingest := [(127, { bound := true, releaseQ := [anAu true] })]
              ctxs := [(127, { state := .clean, engine := 0, ps := some aPs })]
              engines := [(0, { busy := some ⟨5, ⟨anAu true, aHdr, aPs, false⟩, 0, false⟩ })] }

theorem wit_AuParsedTaken : let d := at0 parsing; let st : Fin 128 := 127
    d.alive = true ∧ d.parses st = true ∧ (d.ing st).releaseQ = [anAu true] ∧ (d.cx st).state = .clean ∧
      (d.cx st).ps = some aPs ∧ d.limitCode st aPs aHdr = none ∧ (∀ p ∈ aHdr.refs, p ∈ d.heldPocs st) ∧
      (d.eng (d.cx st).engine).busy.isSome = true ∧ (d.haltCode st { aPs with level := 52 }).isSome = true := by decide +kernel

theorem wit_PictureCompletes : let d := at0 parsing; let n : Fin 9 := 0
    d.alive = true ∧ d.engState n = .active ∧ (d.eng n).busy.isSome = true := by decide +kernel

theorem wit_EngineFails_first : let d := at0 parsing; let n : Fin 9 := 0
    d.alive = true ∧ d.engState n = .active ∧ (∃ b ∈ (d.eng n).busy, b.tries = 0) ∧ d.evFree 1 = true := by decide +kernel

theorem wit_EngineFails_second :
    let d := at0 { parsing with engines := [(7, { busy := some ⟨5, ⟨anAu true, aHdr, aPs, false⟩, 1, false⟩ })] }; let n : Fin 9 := 7
    d.alive = true ∧ d.engState n = .active ∧ (∃ b ∈ (d.eng n).busy, b.tries ≠ 0) ∧ d.evFree 1 = true ∧ n.val < 8 ∧
      d.engState 8 = .spare := by decide +kernel

theorem wit_IntraRequested : ∀ st ∈ [CtxState.waiting, .tainted],
    let d := at0 { base with ctxs := [(127, { state := st, startTimer := some (100 * 10 ^ 9), firNext := some (100 * 10 ^ 9) })] }
    let n : Fin 128 := 127; let x := 100 * 10 ^ 9
    d.alive = true ∧ x ≤ d.now ∧ d.evFree 1 = true ∧ (d.cx n).startTimer = some x ∧ (d.cx n).firNext = some x ∧
      (d.cx n).state = st := by decide +kernel

/-! ### Head links, lanes, the rope -/

/-- Head 3 with a link in a state. -/
def linkIn (l : Link) : Dev := at0 { base with links := [(3, l)], heads := [(3, { emitting := true })] }

theorem wit_DisplayLeaves : ∀ st ∈ [LinkState.running, .down], let d := linkIn { state := st }; let h : Fin 32 := 3
    d.alive = true ∧ h.val < d.gradeHeads ∧ (d.lk h).state ≠ .disabled ∧ (d.lk h).state ≠ .absent ∧ (d.lk h).state = st ∧
      d.evFree 1 = true := by decide +kernel

theorem wit_DisplayArrives : let d := linkIn { state := .absent, countFrom := 100 * 10 ^ 9 - 10000000 }; let h : Fin 32 := 3
    d.alive = true ∧ h.val < d.gradeHeads ∧ (d.lk h).state = .absent ∧ (d.lk h).countFrom + 10000000 ≤ d.now ∧
      d.evFree 1 = true := by decide +kernel

theorem wit_LinkStatusHandled : ∀ st ∈ [LinkState.absent, .running],
    let d := linkIn { state := st, cur := some ⟨6, 2, false⟩ }; let h : Fin 32 := 3
    let out (locked : List Nat) : List Nat := (List.range 2).filter fun i => !locked.contains i
    d.alive = true ∧ h.val < d.gradeHeads ∧ (d.lk h).state = st ∧ (d.lk h).cur = some ⟨6, 2, false⟩ ∧ out [0] ≠ [] ∧
      out [0, 1] = [] ∧ d.rn O.headSymbolErrors h + sumL [1, 2] < 2 ^ 32 := by decide +kernel

theorem wit_ReadingEnds : let d := linkIn { state := .reading }; let h : Fin 32 := 3
    let caps : SinkCaps := ⟨[], [6], 2, false, false, []⟩
    d.alive = true ∧ (d.lk h).state = .reading ∧ (d.rf O.clockRefSpread = false ∨ caps.spread = true) ∧ d.evFree 1 = true ∧
      (∃ r ∈ caps.rates, ∃ n ∈ [1, 2, 4], r < 7 ∧ r ≤ d.rn O.headMaxRate h ∧ n ≤ caps.lanes ∧ n ≤ d.rn O.headLaneCount h ∧
        (d.lk h).failed = [] ∧ d.carriesMode h r n 1 = true) := by decide +kernel

theorem wit_TrainingProceeds : ∀ ph ∈ [0, 1],
    let d := linkIn { state := .training, phase := ph, cands := [⟨6, 2, false⟩, ⟨5, 2, false⟩] }; let h : Fin 32 := 3
    d.alive = true ∧ (d.lk h).state = .training ∧ (d.lk h).cands = ⟨6, 2, false⟩ :: [⟨5, 2, false⟩] ∧ (d.lk h).sameRetry = false ∧
      (∀ i ∈ (d.lk h).tookPart, i ∈ (d.lk h).lockSeen) ∧ d.evFree 4 = true ∧ (d.lk h).phase = ph ∧
      (List.range 2).all [0, 1].contains = true ∧ (List.range 2).all [0].contains = false := by decide +kernel

theorem wit_TrainingTimesOut : ∀ st ∈ [LinkState.reading, .training],
    let d := linkIn { state := st, retryStep := 3, tookPart := [0], lockSeen := [0] }; let h : Fin 32 := 3
    d.alive = true ∧ d.evFree 1 = true ∧ ((d.lk h).state = .reading ∨ (d.lk h).state = .training ∧ (d.lk h).sameRetry = false ∧
      (∀ i ∈ (d.lk h).tookPart, i ∈ (d.lk h).lockSeen)) := by decide +kernel

theorem wit_TrainingTimesOut_retry : let d := linkIn { state := .untrained, retryAt := some (100 * 10 ^ 9) }; let h : Fin 32 := 3
    d.alive = true ∧ d.evFree 1 = true ∧ (d.lk h).state = .untrained ∧ (d.lk h).retryAt.getD 0 ≤ d.now := by decide +kernel

theorem wit_LinkRestores :
    let l : Link := { state := .running, degraded := 1, runningSince := 90 * 10 ^ 9, sinkRates := [6], sinkLanes := 2 }
    let d := at0 (set [(O.headRestoreInterval, 3, 10)] { base with links := [(3, l)] })
    let h : Fin 32 := 3
    d.alive = true ∧ (d.lk h).state = .running ∧ (d.lk h).degraded ≠ 0 ∧ d.rn O.headRestoreInterval h ≠ 0 ∧
      (d.lk h).runningSince + d.rn O.headRestoreInterval h * sec ≤ d.now ∧
      (d.rf O.clockRefSpread = false ∨ (d.lk h).sinkSpread = true) ∧ d.candidates h ≠ [] := by decide +kernel

theorem wit_LaneCalibrates : ∀ lane ∈ [(63 : Fin 72), 64, 71],
    let d := at0 { base with lanes := [(63, ⟨20, 3, some (40, 9)⟩), (64, ⟨20, 3, some (40, 9)⟩), (71, ⟨20, 3, some (40, 9)⟩)] }
    let better (f1 f2 : Nat) : Prop := gapOf f1 f2 ≤ 8 ∧ 2 * (d.ln72 lane).fom < f1 + f2
    d.alive = true ∧ better 30 38 ∧ ¬ better 30 39 ∧ ¬ better 20 20 ∧ d.laneBlank lane = true ∧
      (d.ln72 lane).correction = some (40, 9) := by decide +kernel

theorem wit_ReferenceLost :
    let d := at0 (set [(O.clockRefSelect, 0, 1), (O.clockRefStatus, 0, 1)]
      { base with rope := { state := 2 }, links := [(3, { state := .running, cur := some ⟨6, 2, false⟩ })] })
    d.alive = true ∧ d.rn O.clockRefSelect = 1 ∧ d.rn O.clockRefStatus = 1 ∧ d.evFree 2 = true ∧ 3 ∈ d.allHeads ∧
      (d.lk 3).state = .running ∧ (∃ c ∈ (d.lk 3).cur, c.lanes ≠ 0) ∧ d.rope.state ≠ 0 := by decide +kernel

/-- A device with the rope in a state. -/
def ropeIn (r : Rope) : Dev := at0 (set [(O.ropeEnable, 0, 1)] { base with rope := r })

theorem wit_RopeStepEnds : ∀ step ∈ [3, 4], let d := ropeIn { state := 1, step := step, prevLanes := [0, 1] }
    let ok := [(0, 64), (1, 255)].filter fun p : Nat × Nat => p.1 < 4 && !d.rope.lostLanes.contains p.1
    let lanes := (List.range 4).filter fun l => ok.any fun p => p.1 == l
    d.alive = true ∧ d.rope.state = 1 ∧ lanes ≠ [] ∧ d.rope.lastStep = false ∧ d.rope.prevLanes.length ≤ lanes.length ∧
      (∀ p ∈ ok, d.rn O.ropeFomFloor ≤ p.2) ∧ d.evFree 8 = true ∧
      (d.rope.step < min (d.rn O.ropeMaxSpeed) 4 ∨ min (d.rn O.ropeMaxSpeed) 4 ≤ d.rope.step) := by decide +kernel

theorem wit_RopeRetries : let d := ropeIn { state := 1 }
    d.alive = true ∧ d.evFree 1 = true ∧ d.rope.state = 1 := by decide +kernel

theorem wit_RopeRetries_timer : let d := ropeIn { state := 0, retryAt := some (100 * 10 ^ 9) }
    d.alive = true ∧ d.evFree 1 = true ∧ d.rope.state = 0 ∧ d.rf O.ropeEnable = true ∧ (∃ x ∈ d.rope.retryAt, x ≤ d.now) := by
  decide +kernel

theorem wit_MarkerReceived :
    let d := ropeIn { state := 2, step := 4, rxLanes := [0, 3] }; let lane : Fin 4 := 3
    let b : Bytes := 0xE1 :: 1 :: 2 :: 4 :: zeros 12
    d.alive = true ∧ d.ropeIsUp = true ∧ b.length = 16 ∧ leAt b 0 1 = 0xE1 ∧ lane.val ∈ d.rope.rxLanes ∧ d.rope.rejoin = [] ∧
      d.evFree 2 = true ∧ markerFits b d.rope.step lane d.rope.rxLanes = true ∧ (∃ l ∈ d.rope.rxLanes, l ≠ lane.val) := by
  decide +kernel

theorem wit_RopeLaneLost : ∀ rx ∈ [[0, 3], [3]], let d := ropeIn { state := 2, rxLanes := rx }; let lane : Fin 4 := 3
    d.alive = true ∧ d.ropeIsUp = true ∧ lane.val ∈ d.rope.rxLanes ∧ d.evFree 1 = true ∧
      ((∃ l ∈ d.rope.rxLanes, l ≠ lane.val) ↔ rx = [0, 3]) := by decide +kernel

theorem wit_RopeLaneRetried : ∀ a ∈ [100 * 10 ^ 9 - 10000000, 100 * 10 ^ 9 - 9999999],
    let d := ropeIn { state := 2, rxLanes := [0], retrying := [(3, a)] }; let lane : Fin 4 := 3
    d.alive = true ∧ tfind d.rope.retrying lane = some a ∧ d.evFree 4 = true ∧ d.ropeIsUp = true ∧
      (a + 10000000 ≤ d.now ↔ a = 100 * 10 ^ 9 - 10000000) := by decide +kernel

/-- The bytes of a data flit of sequence 0. -/
def dataFlit : Bytes := flitBytes 1 0x20 0 0 244 0 []

theorem wit_FlitReceived : let d := ropeIn { state := 2 }
    let good (b : Bytes) : Prop := b.length = 256 ∧ crc32c (b.take 252) = beAt b 252 4
    d.alive = true ∧ d.ropeIsUp = true ∧ good dataFlit ∧ ¬ good (1 :: dataFlit) ∧ leAt dataFlit 0 1 = 1 ∧ leAt dataFlit 6 1 ≤ 244 ∧
      bit (leAt dataFlit 7 1) 1 = false ∧ seqDiff (beAt dataFlit 2 2) d.rope.expect = 0 := by decide +kernel

theorem wit_RopeReplays : ∀ n ∈ [3, 4],
    let d := ropeIn { state := 2, advanceAt := 100 * 10 ^ 9 - 20000, replayQ := [⟨1, 0x20, 0, [], true⟩], replays := n }
    d.alive = true ∧ d.ropeIsUp = true ∧ d.rope.advanceAt + 20000 ≤ d.now ∧ d.rope.replayQ ≠ [] ∧ d.evFree 1 = true ∧
      d.rope.replays = n := by decide +kernel

theorem wit_RopeTimers :
    let d := ropeIn { state := 2, unacked := 1, idleSince := 100 * 10 ^ 9 - 2000 }
    let d2 := ropeIn { state := 2, idleTx := true, sendQ := [⟨1, 0x20, 0, [], true⟩] }
    d.alive = true ∧ d.ropeIsUp = true ∧ d.rope.unacked ≠ 0 ∧ d.rope.idleTx = false ∧ d.rope.sendQ = [] ∧
      d.rn O.ropeIdleDelay ≠ 0 ∧ d.rope.idleSince + 1000 * d.rn O.ropeIdleDelay ≤ d.now ∧
      d2.alive = true ∧ d2.ropeIsUp = true ∧ d2.rope.idleTx = true ∧ d2.rope.sendQ ≠ [] ∧ d2.rope.replayQ.length < 128 := by
  decide +kernel

/-! ### The encode cluster -/

/-- An input of a frame. -/
def anInput : EncInput := .frame 0 1 5 4 0

/-- Encode context 31 takes head 0, whose written frame was complete 10 ms ago. -/
def encoding : Dev :=
  set [(O.encodeSourceMode, 31, 1), (O.encodeSource, 31, 0), (O.headWriteback, 0, 1)]
    { base with enc := [(31, { state := .running, engine := 0, lastPli := some (100 * 10 ^ 9), ltr := some 2 })]
                heads := [(0, { wb := [⟨0, 5, 6, some (99 * 10 ^ 9), zeros 64, ⟨0, 0, 8, [], [], []⟩⟩] })]
                ports := [(0, { linkUp := true })] }

theorem wit_InputTaken : let d := at0 encoding; let c : Fin 32 := 31
    d.alive = true ∧ (d.ec c).state = .running ∧ d.encSourceOk c = true ∧
      (∃ i ∈ d.encSelect c (d.encCutNow c), (d.ec c).last ≠ some i ∧ (∀ q ∈ (d.ec c).pend, q.input ≠ i)) ∧ d.evFree 1 = true := by
  decide +kernel

/-- Engine 3 codes a frame of context 31, tried so many times before. -/
def coding (tries : Nat) (discard : Bool) : Dev :=
  at0 { base with enc := [(31, { state := .running, engine := 3, discard := discard })]
                  encEngines := [(3, { busy := some (31, ⟨anInput, 5, false⟩, tries) })] }

theorem wit_FrameCoded : ∀ x : Bool, let d := coding 0 x; let n : Fin 5 := 3
    d.alive = true ∧ (d.ee n).state = .active ∧ (d.ee n).busy = some (31, ⟨anInput, 5, false⟩, 0) ∧ (d.ec 31).mirror = none ∧
      (d.ec 31).discard = x := by decide +kernel

theorem wit_EncEngineFails : ∀ k ∈ [0, 1], let d := coding k false; let n : Fin 5 := 3
    d.alive = true ∧ (d.ee n).state = .active ∧ (d.ee n).busy = some (31, ⟨anInput, 5, false⟩, k) ∧ d.evFree 1 = true ∧
      n.val < 4 ∧ (d.ee 4).state = .spare := by decide +kernel

theorem wit_RefreshAsked : ∀ p ∈ [none, some (99 * 10 ^ 9), some (99 * 10 ^ 9 + 1)],
    let d := at0 { encoding with enc := [(31, { state := .running, lastPli := p, ltr := some 2 })] }; let c : Fin 32 := 31
    d.alive = true ∧ d.encOn c = true ∧ d.relays = true ∧ (d.ec c).gdr = none ∧ (d.ec c).lastPli = p ∧
      ((∀ x ∈ (d.ec c).lastPli, x + sec ≤ d.now) ↔ p ≠ some (99 * 10 ^ 9 + 1)) ∧ d.rf O.encodeLtrEnable c = true ∧
      (d.ec c).ltr.isSome = true ∧ d.rn O.encodeRefreshInterval c ≠ 0 := by decide +kernel

theorem wit_SenderReportSent : let d := at0 encoding; let c : Fin 32 := 31
    d.alive = true ∧ d.encOn c = true ∧ d.relays = true ∧ (d.port (d.rn O.encodePort c)).linkUp = true := by decide +kernel

/-! ### Console touch -/

/-- Panel 3 in a state. -/
def panelIn (p : Panel) : Dev := at0 (set [(O.panelHead, 3, 0)] { base with panels := [(3, p)] })

theorem wit_ScanStarts : let d := panelIn { state := .active }; let n : Fin 4 := 3
    d.scanning n = true ∧ d.takesVertical n = true ∧ d.takesHorizontal n = true := by decide +kernel

theorem wit_ScanProcessed : let d := panelIn { state := .active, scan := some (0, 5) }; let n : Fin 4 := 3
    d.scanning n = true ∧ (d.pn n).scan = some (0, 5) ∧ (d.pn n).failed = false ∧ d.evFree 1 = true := by decide +kernel

theorem wit_HoldFires : let d := panelIn { state := .active, holds := [⟨255, 0, 0, 1, [], some 5⟩] }; let n : Fin 4 := 3
    d.alive = true ∧ d.actionRegion 255 = d.actionRegion (255 : Fin 256) ∧ (d.actionRegion 255).kind ≠ 1 ∧
      (d.pn n).holds.find? (fun x => x.region == (255 : Fin 256).val && x.doneAt.isSome) = some ⟨255, 0, 0, 1, [], some 5⟩ := by
  decide +kernel

/-- A contact that has been down for 30 s. -/
def oldContact : Contact := ⟨9, 0, 0, 70 * 10 ^ 9, [], false, 0, 0, false, 0, 0, 0, []⟩

theorem wit_ContactExpires :
    let d := panelIn { state := .active, contacts := [oldContact], lastScan := some (0, 100 * 10 ^ 9) }; let n : Fin 4 := 3
    d.scanning n = true ∧ (d.pn n).contacts.find? (fun x => x.id == (9 : Fin 10).val) = some oldContact ∧
      (d.pn n).lastScan = some (0, 100 * 10 ^ 9) ∧ oldContact.down + d.rn O.panelExpiry n * sec ≤ 100 * 10 ^ 9 := by decide +kernel

theorem wit_BaselineForced :
    let d := panelIn { state := .baselining, freqStart := 98 * 10 ^ 9, freqs := [(0, { recent := [[[5]]] })] }; let n : Fin 4 := 3
    d.scanning n = true ∧ (d.pn n).state = .baselining ∧ (d.pn n).freqStart + 2 * sec ≤ d.now ∧
      ((d.pn n).fr (d.pn n).cur).recent ≠ [] ∧ d.evFree 2 = true := by decide +kernel

theorem wit_PanelPresence : let d := panelIn { state := .absent }; let n : Fin 4 := 3
    d.alive = true ∧ (d.pn n).present = false ∧ (d.pn n).state = .absent ∧ (d.pn n).contacts = [] ∧
      (∀ k ∈ (d.pn n).holds, k.doneAt.isSome = true) ∧ d.evFree 1 = true := by decide +kernel

theorem wit_PanelPresence_leaves : ∀ st ∈ [PanelState.active, .baselining, .fault],
    let d := panelIn { state := st, present := true }; let n : Fin 4 := 3
    d.alive = true ∧ (d.pn n).present = true ∧ (d.pn n).state = st := by decide +kernel

theorem wit_ElectrodesTested_open : let d := at0 ({ base with panels := [(3, { state := .testing })] }.setV O.touchPinMap 0 (.raw [])); let n : Fin 4 := 3
    d.alive = true ∧ (d.pn n).state = .testing ∧ d.openOk n [] = true := by decide +kernel

theorem wit_ElectrodesTested_fault :
    let d := at0 ({ base with panels := [(3, { state := .testing })] }.setV O.touchPinMap 0 (.raw [0x43, 0])); let n : Fin 4 := 3
    let pins := ((d.drives n ++ d.senses n).map (·.2)).filter fun pin => [(0, 10)].any fun c => c.1 == pin && c.2 < 5000
    d.alive = true ∧ (d.pn n).state = .testing ∧ d.openOk n pins = false := by decide +kernel

/-! ### The memory subsystem -/

/-- A request to bank 2. -/
def aReq (tm : Nat) : MemReq := ⟨4, tm, 0, 2, 9, 0, false⟩

/-- Channel 15 in a state. -/
def chanIn (c : Channel) : Dev := at0 { base with chans := [(15, c)] }

theorem wit_SlotIssues :
    let picks (c : Channel) : Bool × Option Slot303 :=
      let d := chanIn c
      (d.memUp, ({ d.ch (15 : Fin 16) with drain := (d.ch (15 : Fin 16)).drainAfter } : Channel).pick d.now)
    picks { forced := [1], reads := [aReq 0] } = (true, some (.refresh 1)) ∧ picks { rfmDue := [18] } = (true, some (.rfm 18)) ∧
      picks { reads := [aReq (100 * 10 ^ 9)] } = (true, some (.req (aReq (100 * 10 ^ 9)))) ∧ picks {} = (true, none) := by
  decide +kernel

theorem wit_RefreshDue : let rank : Fin 2 := 1; let ch : Fin 16 := 15
    let d := chanIn {}
    let d2 := chanIn { reads := [aReq 0], owed := [(1, 7)] }
    d.memUp = true ∧ rank.val < d.mem.ranks ∧ (d.ch ch).busyNow d.now = false ∧ tget 0 (d.ch ch).owed rank + 1 = 1 ∧
      d2.memUp = true ∧ (d2.ch ch).busyNow d2.now = true ∧ d2.rn O.memoryRefreshPostpone ≤ tget 0 (d2.ch ch).owed rank + 1 := by
  decide +kernel

theorem wit_MemoryWindows : ∀ acts ∈ [[], [(2, 5)]], let d := chanIn { acts := acts }; let ch : Fin 16 := 15
    d.memUp = true ∧ (sumL ((d.ch ch).acts.map (·.2)) = 0 ↔ acts = []) := by decide +kernel

theorem wit_RefreshRate : ∀ m ∈ [1, 4], let d := chanIn { mult := m }; let ch : Fin 16 := 15
    d.memUp = true ∧ d.alive = true ∧ d.power.throttle = 0 ∧ ((d.ch ch).mult ≤ 2 ↔ m = 1) := by decide +kernel

theorem wit_MemoryDefers : let d := at0 base
    d.memUp = true ∧ (1 : Fin 2).val < d.mem.ranks ∧ 4 < (-5 : Int).natAbs ∧ d.mem.presented - 1 < d.mem.presented := by
  decide +kernel

theorem wit_RereadEnds :
    let d := at0 { base with chans := (List.range 16).map fun i => (i, { rereads := [(0x1000, 54)] }) }
    (d.ch (d.mem.place 0x1000).ch).rereads.find? (fun x => x.1 == 0x1000) = some (0x1000, 54) ∧ d.evFree 6 = true := by
  decide +kernel

theorem wit_RowSpared :
    let d := chanIn { remaps := [⟨1, 15, 65535, 0, [], false⟩] }
    (d.remapOf ⟨(15 : Fin 16), (1 : Fin 2), (15 : Fin 16), 65535, 0⟩ false).isSome = true ∧ d.evFree 1 = true := by decide +kernel

theorem wit_Scrubbed : let d := at0 base
    d.memUp = true ∧ 0x0DFFFFC0 % 64 = 0 ∧ d.eccAt 0x0DFFFFC0 = true ∧ tget 0 d.health.dmaFault (unitKey 18 0) = 0 := by
  decide +kernel

/-! ### Services -/

/-- A processor, which has failed before or not. -/
def procIn (c : Nat) (at_ : Option Nat) : Dev := at0 { base with procs := [(c, { tasks := [7], faultAt := at_ })] }

theorem wit_ProcessorFails : ∀ c ∈ [(0 : Fin 14), 12, 13], ∀ f ∈ [none, some (90 * 10 ^ 9)], let d := procIn c f
    d.alive = true ∧ (d.proc c).state ≠ 2 ∧ d.evFree 512 = true ∧ ((∃ k : Fin 13, k.val = c) ∨ c.val = 13) ∧
      (∀ x ∈ (d.proc c).faultAt, x + 10 * sec ≤ d.now) := by decide +kernel

theorem wit_ProcessorFails_again : let c : Fin 14 := 7; let d := procIn c (some (90 * 10 ^ 9 + 1))
    d.alive = true ∧ (d.proc c).state ≠ 2 ∧ d.evFree 512 = true ∧ (∃ x ∈ (d.proc c).faultAt, d.now < x + 10 * sec) ∧ c.val < 8 ∧
      (d.proc 8).state = 1 := by decide +kernel

theorem wit_ProcessorReturns :
    let d := at0 { base with procs := [(8, { state := 3 })] }; let c : Fin 14 := 8
    let d2 := procIn 13 (some (90 * 10 ^ 9)); let c2 : Fin 14 := 13
    d.alive = true ∧ (d.proc c).state = 3 ∧ d2.alive = true ∧ (∃ x ∈ (d2.proc c2).faultAt, x + 10 * sec ≤ d2.now) ∧
      (d2.proc c2).state ≠ 3 ∧ (d2.proc c2).state ≠ 2 ∧ d2.transientOver (procUnit c2).1 (procUnit c2).2 = false ∧
      d2.evFree 4 = true := by decide +kernel

/-- A map that grants the whole register window and the lowest 256 MiB of DRAM. -/
def fullMap : Prot := { active := [15 * 2 ^ 60 + 32 * 2 ^ 42 + 0xF000000000, 15 * 2 ^ 60 + 28 * 2 ^ 42] }

/-- Masters 0, 13 and 54 with that map, mailbox 15 with a direction as given. -/
def mboxIn (x : MbxDir) : Dev :=
  at0 { base with prots := [(0, fullMap), (13, fullMap), (54, fullMap)], mbx := [(15, { d0 := x, endA := 0, endB := 13 })] }

theorem wit_MessagePosted : ∀ o : Bool, let d := mboxIn { outstanding := o }; let m : Fin 32 := 15; let dir : Fin 2 := 0
    let master : Fin 55 := 0
    d.alive = true ∧ d.protCheck master .write (mbxAddr m dir 0x30) 4 = 0 ∧ master.val = (d.mb m).sender dir ∧
      ((d.mb m).dir dir).outstanding = o ∧ 48 ≤ 48 ∧ d.mbxBound m = true := by decide +kernel

theorem wit_MessageHandled : let d := mboxIn { full := true, outstanding := true, hdr := le 4 0 ++ le 4 9, hdrEpoch := 1 }
    let m : Fin 32 := 15; let dir : Fin 2 := 0; let x := (d.mb m).dir dir
    d.alive = true ∧ m.val < 16 ∧ x.full = true ∧ (13 : Fin 55).val = (d.mb m).receiver dir ∧
      d.protCheck (13 : Fin 55) .write (mbxAddr m dir 0x80) 4 = 0 ∧ x.outstanding = true ∧ leAt x.hdr 4 4 = 9 ∧
      x.hdrEpoch = (d.mb m).sendEpoch dir ∧ d.protCheck (13 : Fin 55) .write (mbxAddr m dir 0x88) (mbxRegBytes 0x88) = 0 ∧
      (0 : Fin 55).val = (d.mb m).sender dir ∧ d.protCheck (0 : Fin 55) .write (mbxAddr m dir 0x30) 4 = 0 ∧
      d.protCheck (0 : Fin 55) .write (mbxAddr m dir 0x34) 4 = 0 := by decide +kernel

theorem wit_MessageTimesOut : let d := mboxIn { outstanding := true, hdrEpoch := 1, posted := 100 * 10 ^ 9 - 50000000 }
    let m : Fin 32 := 15; let dir : Fin 2 := 0; let x := (d.mb m).dir dir
    d.alive = true ∧ x.outstanding = true ∧ x.posted + 1000000 * d.rn O.mbxAckTimeout m ≤ d.now ∧
      x.hdrEpoch = (d.mb m).sendEpoch dir := by decide +kernel

theorem wit_RegisterWritten : let d := mboxIn {}; let m : Fin 32 := 15; let k : Fin 2 := 0; let u : Fin 8 := 7
    d.alive = true ∧ d.protCheck (0 : Fin 55) .write (mbxAddr m k 44) 4 = 0 ∧ 44 + 4 ≤ 48 ∧ (0 : Fin 55).val = (d.mb m).sender k ∧
      (13 : Fin 55).val < 14 ∧ d.protCheck (13 : Fin 55) .write (cvuAddr u 4) 4 = 0 ∧
      d.protCheck (13 : Fin 55) .write (cvuAddr u 8) 4 = 0 ∧ d.protCheck (1 : Fin 55) .write (cvuAddr u 8) 4 ≠ 0 := by decide +kernel

theorem wit_AccessChecked : let s : State := ⟨mboxIn {}, [⟨5, 1⟩], []⟩; let d := s.dev; let master : Fin 55 := 0
    d.alive = true ∧ 0x0DFFFFF8 + 8 ≤ regWindow ∧ s.ok = true ∧ 0x0DFFFFF8 < regWindow ∧
      d.protCheck master .write 0x0DFFFFF8 8 = 0 ∧ (zeros 8).length = 8 ∧ d.protCheck master .read 0x0DFFFFF8 8 = 0 ∧
      (∀ i < 8, d.poisoned (0x0DFFFFF8 + i) = false) ∧ d.protCheck master .write 0x0DFFFFF9 8 ≠ 0 ∧
      d.protCheck master .read 0x10000000 8 ≠ 0 := by decide +kernel

theorem wit_MapCommitted : let d := at0 { base with prots := [(54, { cstate := 1 })] }; let n : Fin 55 := 54
    d.alive = true ∧ (d.prot n).cstate = 1 ∧ (d.prot n).held = false ∧ d.evFree 1 = true := by decide +kernel

theorem wit_CheckValueComputed : let d := mboxIn {}; let u : Fin 8 := 7; let master : Fin 55 := 13
    let ok (off n : Nat) : Prop := d.protCheck master .write (cvuAddr u off) n = 0
    d.alive = true ∧ master.val < 14 ∧ d.evFree 1 = true ∧ ok 0 4 ∧ ok (cvuDataOff 8) 1 ∧ ok (cvuDataOff 16) 2 ∧
      ok (cvuDataOff 32) 4 ∧ ok (cvuDataOff 32) 2 ∧ ok 0x1C 4 ∧ 6 % 4 ≠ 3 ∧ 7 % 4 = 3 := by decide +kernel

theorem wit_ResumedCheckValue :
    let c : Cvu := { alg := 2, aliveEn := true, alive := 255, running := 0xFFFF }
    let s : State := ⟨mboxIn {}, [], []⟩
    let s0 : State := ⟨{ mboxIn {} with cvus := [(7, c)] }, [], []⟩
    let u : Fin 8 := 7; let master : Fin 55 := 13
    let may (s : State) : Prop := (s.dev.tick 0).alive = true ∧
      ∀ off < 0x20, ∀ n < 5, (s.dev.tick 0).protCheck master .write (cvuAddr u off) n = 0
    may s ∧ may s0 ∧ master.val < 14 ∧ c.alg < 3 ∧ c.running < 2 ^ (if c.alg = 2 then 16 else 32) ∧ c.alive < 256 ∧
      (∀ x ∈ [(8, 1, 5), (16, 2, 9), (32, 4, 1)], (x.1, x.2.1) ∈ [(8, 1), (16, 2), (32, 4)]) ∧ (s0.dev.cvu u).alg = c.alg ∧
      (s0.dev.cvu u).aliveEn = c.aliveEn ∧ (s0.dev.cvu u).running = c.running ∧ (s0.dev.cvu u).alive = c.alive := by decide +kernel

/-! ### QDP -/

/-- A session with a tool, open, with a key. -/
def aSession : Session :=
  { id := 9, role := 0x4F, phase := 1, peer := false, port := 0, addr := [1], udp := 5000, nh := [], key := [1, 2, 3],
    time := 99 * 10 ^ 9, last := 99 * 10 ^ 9 }

/-- A device with that session, as given, and port 0 up. -/
def sessionIn (se : Session) : Dev := at0 { base with dict := { sessions := [se] }, ports := [(0, { linkUp := true })] }

/-- A datagram with a tag. -/
def tagged (typ id seq : Nat) (seg : Bool) (body : Bytes) (tag : Nat) : Bytes :=
  (qdpDatagram [] typ id seq seg body).take (16 + body.length) ++ be 16 tag

/-- A datagram of the session. -/
def dgram (typ : Nat) (body : Bytes) (tag : Nat) : Bytes := tagged typ 9 1 false body tag

theorem wit_WrongTagDropped_forms : ∀ x ∈ [(0x05, [1]), (0x06, []), (0x10, zeros 16), (0x12, zeros 16), (0x18, zeros 8),
      (0x20, zeros 4), (0x31, zeros 12)], let d := sessionIn aSession; let b := dgram x.1 x.2 7
    d.running = true ∧ d.qdpWell (0 : Fin 4) b x.1 = true ∧ d.dgramSession (parseDgram b) = some aSession := by decide +kernel

theorem wit_WrongTagDropped : let d := sessionIn aSession; let b := dgram 6 [] 7
    d.running = true ∧ d.qdpWell (0 : Fin 4) b 6 = true ∧ d.dgramSession (parseDgram b) = some aSession ∧
      tagOk (parseDgram b) aSession.key = false := by decide +kernel

/-- A session in its handshake. -/
def handshake (phase : Nat) (k : Bytes) (role : Nat) : Session :=
  { aSession with role := role, phase := phase, peer := phase != 0, nh := zeros 16, nd := zeros 16, key := k }

theorem wit_SessionOpens_hello :
    let d := at0 ({ base with ports := [(0, { linkUp := true })] }.setV O.qdpRoleKey 0 (.raw (zeros 32)))
    let b := qdpDatagram [] 1 0 0 false ([0x4F, 0, 0, 0] ++ zeros 16); let g := parseDgram b
    d.running = true ∧ (d.port 0).linkUp = true ∧ d.openSessions < 16 ∧ d.qdpWell 0 b 1 = true ∧ g.session = 0 ∧ g.seq = 0 ∧
      tagOk g [] = true ∧ (∀ l ∈ d.dict.locked, l.1 = [1] → l.2 + 60 * sec ≤ d.now) ∧
      (d.vendorOnly = false ∨ beAt g.body 0 1 = 0x56) ∧ (d.roleKey (beAt g.body 0 1)).isSome = true := by decide +kernel

/-- The proof of the host under a key of zeros, and the session key. -/
def aProof : Bytes := be 32 66173395416589400759300982348905118897077007718332874295876538591385567458374

theorem wit_SessionOpens_prove :
    let se := handshake 0 [] 0x4F; let d := at0 ((sessionIn se).setV O.qdpRoleKey 0 (.raw (zeros 32)))
    let b := tagged 3 9 0 false aProof 36261576714038955873913681110489581646
    let g := parseDgram b
    d.running = true ∧ (d.port 0).linkUp = true ∧ d.openSessions < 16 ∧ d.qdpWell 0 b 3 = true ∧ d.dgramSession g = some se ∧
      g.seq = 0 ∧ (let k := (d.roleKey se.role).getD []
        g.body = hsProof k se.role se.id se.nh se.nd ∧ tagOk g (hsKey k se.role se.id se.nh se.nd) = true) ∧
      d.evFree 1 = true := by decide +kernel

theorem wit_PeerSessionOpens_challenge :
    let se := handshake 2 [] 0x41; let d := sessionIn se
    let b := qdpDatagram [] 2 0 0 false (be 4 77 ++ zeros 16 ++ zeros 16); let g := parseDgram b
    d.running = true ∧ d.qdpWell 0 b 2 = true ∧ d.dgramSession g = some se ∧ tagOk g [] = true ∧ g.seq = 0 ∧ beAt g.body 0 4 ≠ 0 ∧
      d.sessionOf (beAt g.body 0 4) = none ∧ (d.port se.port).linkUp = true := by decide +kernel

theorem wit_PeerSessionOpens_accept :
    let se := handshake 3 [4] 0x41; let d := sessionIn se
    let b := tagged 4 9 0 false (zeros 8) 293508554230560952157984856542475275045; let g := parseDgram b
    d.running = true ∧ d.qdpWell 0 b 4 = true ∧ d.dgramSession g = some se ∧ tagOk g se.key = true ∧ g.seq = 0 ∧
      d.openSessions < 16 := by decide +kernel

theorem wit_PeerSessionOpens_retry :
    let d := at0 ({ base with dict := { peers := [(0, { step := 3, retryAt := some (100 * 10 ^ 9) })] }
                              ports := [(0, { linkUp := true })] }.setV O.witnessGatewayAddr 0 (.raw [0x31]))
    let peer : Fin 2 := 0
    d.running = true ∧ (∃ r ∈ (d.peerOf peer).retryAt, r ≤ d.now) ∧ (d.peerAddr peer).isSome = true ∧
      (d.port d.peerPort).linkUp = true := by decide +kernel

/-- KEEPALIVE, CLOSE and SUBSCRIBE of the session. -/
theorem wit_SessionServed : ∀ x ∈ [(6, [], 189908456994238132398298692821713603122), (5, [0], 245733611719434484068869558480083985712),
      (0x20, [0, 1, 0, 0], 118517715237810912382915978789347547422)], let d := sessionIn aSession
    d.running = true ∧ d.qdpTaken (0 : Fin 4) (dgram x.1 x.2.1 x.2.2) x.1 aSession = true ∧
      (d.port aSession.port).linkUp = true ∧ d.evFree 40 = true := by decide +kernel

/-- ACK of the gateway to record 5 of the device of serial number 77, which is forwarded, or to record 0, which is not. -/
theorem wit_SessionServed_ack :
    ∀ n ∈ [(0, 117578983175064535479596187435406406672), (5, 123746692684208566598099485881397888694)],
    let se := { aSession with role := 0x47 }
    let d := at0 (set [(O.identitySerialNumber, 0, 77)] { sessionIn se with witness := { forwards := [⟨5, [], 0, 0, none⟩] } })
    let b := dgram 0x31 (be 8 77 ++ be 4 n.1) n.2; let g := parseDgram b
    d.running = true ∧ d.qdpTaken (0 : Fin 4) b 0x31 se = true ∧ se.role = 0x47 ∧
      ((g.body.length = 12 ∧ beAt g.body 0 8 = d.serial ∧ ∃ f ∈ d.witness.forwards, f.seq % 2 ^ 32 = beAt g.body 8 4) ↔ n.1 = 5) := by
  decide +kernel

/-- A read of identity.product_code. -/
theorem wit_RequestsAnswered_read : let d := sessionIn aSession
    let b := dgram 0x10 ([1, 0, 0, 0] ++ be 2 0x1018 ++ [2, 0] ++ zeros 8) 198181740697050996249444398794109962411
    let g := parseDgram b
    d.running = true ∧ 0 < beAt g.body 0 1 ∧ beAt g.body 0 1 ≤ 32 ∧ d.qdpTaken (0 : Fin 4) b 0x10 aSession = true ∧
      (parseRead (beAt g.body 0 1) (g.body.drop 4)).isSome = true := by decide +kernel

/-- A write of time.holdover_limit to 50. -/
def aWrite : Bytes :=
  dgram 0x12 ([1, 0, 0, 0] ++ be 2 (O.timeHoldoverLimit.key 0 / 256) ++ [byteOf O.timeHoldoverLimit.sub, 0] ++ be 4 4 ++ le 4 50)
    162008078331109598569879502332097956050

theorem wit_RequestsAnswered_taken : let d := sessionIn { aSession with role := 0x49 }; let g := parseDgram aWrite
    d.running = true ∧ 0 < beAt g.body 0 1 ∧ beAt g.body 0 1 ≤ 32 ∧
      d.qdpTaken (0 : Fin 4) aWrite 0x12 { aSession with role := 0x49 } = true := by decide +kernel

/-- The write is kept in life-cycle state 3 and refused in state 2. -/
theorem wit_RequestsAnswered_write : ∀ life ∈ [2, 3],
    let se := { aSession with role := 0x49 }
    let d : Dev := { sessionIn se with power := { base.power with life := life } }; let g := parseDgram aWrite
    ∃ es ∈ parseWrite (beAt g.body 0 1) (g.body.drop 4), closedBy es = [] ∧ followsOf es = none ∧
      (let r := (d.setSession (se.took g.seq d.now)).writeAll { role := roleOf se.role, session := some se.id } es
       (r.2.1.isSome = true ↔ life = 2) ∧ (r.2.2 = [] ↔ life = 2)) := by decide +kernel

/-- The first segment of a write of 100 bytes. -/
theorem wit_SegmentsServed_first : let se := aSession; let d := sessionIn se
    let b := tagged 0x12 9 1 true (be 2 1 ++ [0, 0] ++ be 4 100 ++ be 4 0 ++ [1, 2, 3, 4]) 131751532599172793560774017101684086493
    let g := parseDgram b
    d.running = true ∧ bit (d.rn O.qdpPorts) (0 : Fin 4) = true ∧ 44 ≤ b.length ∧ beAt b 0 2 = 0x5144 ∧ beAt b 2 1 = 1 ∧
      (g.typ = 0x10 ∨ g.typ = 0x12) ∧ g.length = 0xFFFF ∧ d.dgramSession g = some se ∧ tagOk g se.key = true ∧
      se.accepts g.seq = true ∧ d.roomy = true ∧ g.seq < 2 ^ 31 ∧ se.inT = none ∧ beAt g.body 8 4 = 0 ∧
      (g.body.drop 12).length < beAt g.body 4 4 ∧ beAt g.body 4 4 ≤ 16777344 ∧ (d.port se.port).linkUp = true := by decide +kernel

/-- The session with a transfer of 20 bytes on its way. -/
def sending : Session :=
  { aSession with outT := some { num := 1, typ := 0x11, total := 20, parts := [], acked := 0, sent := 20, progress := 95 * 10 ^ 9,
                                 sentAt := 0 } }

theorem wit_SegmentsServed_ack : let d := sessionIn sending
    let b := dgram 0x18 (be 2 1 ++ [0, 0] ++ be 4 20) 306662142419451327205952253477937856179; let g := parseDgram b
    d.running = true ∧ d.qdpTaken (0 : Fin 4) b 0x18 sending = true ∧
      (∃ tr ∈ sending.outT, tr.num = beAt g.body 0 2 ∧ tr.acked < tr.total ∧ beAt g.body 4 4 = tr.total) := by decide +kernel

theorem wit_SegmentsServed_timeout : let d := sessionIn sending
    d.running = true ∧ d.sessionOf 9 = some sending ∧ (∃ tr ∈ sending.outT, tr.progress + 5 * sec ≤ d.now) ∧ d.evFree 1 = true := by
  decide +kernel

theorem wit_SessionTimers : let se := { aSession with last := 40 * 10 ^ 9 }; let d := sessionIn se
    d.running = true ∧ d.sessionOf 9 = some se ∧ se.phase = 1 ∧ se.last + d.rn O.qdpIdleTimeout * sec ≤ d.now ∧
      d.evFree 40 = true := by decide +kernel

/-! ### CANopen FD, witness records, the pitch -/

/-- CAN port 1 enabled, in a state of its NMT. -/
def canIn (c : CanPort) : Dev := at0 (set [(O.canEnable, 1, 1)] { base with canPorts := [(1, c)] })

theorem wit_NmtStateSet : let d := canIn {}; let p : Fin 2 := 1
    d.running = true ∧ d.rf O.canEnable p = true ∧ d.evFree 2 = true ∧ (d.can p).nmt ≠ 2 ∧ (d.can p).nmt ≠ 3 ∧
      (d.can p).nmt ≠ 1 ∧ (d.can p).bus ≠ 2 := by decide +kernel

theorem wit_UsdoServed_read : let d := canIn { nmt := 1 }; let p : Fin 2 := 1; let a : Asker := { role := d.rn O.canRole p }
    d.running = true ∧ d.canUp p = true ∧ (d.can p).nmt = 1 ∧ d.vendorOnly = false ∧ d.evFree 1 = true ∧
      (d.readOne a (0x1018 * 256 + 2) 0 0).1.toOption.map (·.length) = some 4 ∧ 4 ≤ usdoChunk ∧
      (d.readOne a (0x1018 * 256 + 255) 0 0).1.toOption = none := by decide +kernel

theorem wit_UsdoServed_refused : let d := canIn { nmt := 2 }; let p : Fin 2 := 1
    d.running = true ∧ d.canUp p = true ∧ (d.can p).nmt = 2 ∧ d.vendorOnly = false ∧
      (let r := (d.modCan p fun c => { c with usdo := none }).writeAll { role := d.rn O.canRole p } [(0x1018 * 256 + 2, [1, 2, 3, 4])]
       r.2.1.isSome = true) := by decide +kernel

/-- CAN port 1 with the role of a tool that may acknowledge touch events. -/
def canTool : Dev :=
  at0 (set [(O.canEnable, 1, 1), (O.canRole, 1, 2), (O.rpdoCount, 8, 1), (O.rpdoMap, 8, O.touchEventsNext.key 0 * 256 + 32)]
    { base with canPorts := [(1, { nmt := 2 })] })

theorem wit_UsdoServed_done : let d := canTool; let p : Fin 2 := 1; let es := [(O.touchEventsNext.key 0, zeros 4)]
    d.running = true ∧ d.canUp p = true ∧ d.vendorOnly = false ∧ closedBy es = [] ∧ followsOf es = none ∧
      (let r := (d.modCan p fun c => { c with usdo := none }).writeAll { role := d.rn O.canRole p } es
       r.2.1 = none ∧ r.2.2 = []) := by decide +kernel

/-- A transfer by segments on its way. -/
def aUsdo (up : Bool) : Usdo := ⟨7, 0x101802, up, [1], 20, 99 * 10 ^ 9⟩

theorem wit_UsdoServed_segments : ∀ up : Bool, let d := canIn { nmt := 1, usdo := some (aUsdo up) }; let p : Fin 2 := 1
    d.running = true ∧ d.canUp p = true ∧ (d.can p).nmt = 1 ∧ d.vendorOnly = false ∧ 65536 ≤ 65536 ∧
      (d.can p).usdo = some (aUsdo up) ∧ (aUsdo up).node = 7 ∧ (aUsdo up).up = up ∧
      (aUsdo up).data.length + [(5 : Byte)].length < (aUsdo up).total ∧ (aUsdo up).last + sec ≤ d.now ∧ d.evFree 1 = true := by
  decide +kernel

/-- CAN port 1 operational with a mapped RPDO 0 of one entry of 16 bits and a TPDO 7. -/
def pdos : Dev :=
  at0 (set [(O.canEnable, 1, 1), (O.rpdoCount, 8, 1), (O.rpdoMap, 8, 0x25801000 + 16), (O.tpdoCob, 15, 0x1A1), (O.tpdoPeriod, 15, 10)]
    { base with canPorts := [(1, { nmt := 2 })] })

theorem wit_PdosExchanged : let d := pdos; let p : Fin 2 := 1
    d.running = true ∧ d.vendorOnly = false ∧ d.pdoRuns true p (8 * p.val + (0 : Fin 8).val) = true ∧
      [(5 : Byte)].length ≠ sumL ((d.pdoNow true 8).map fun e => e % 256 / 8) ∧ d.evFree 1 = true ∧
      d.pdoRuns false p (8 * p.val + (7 : Fin 8).val) = true ∧ d.now % (d.rn O.tpdoPeriod 15 * 1000000) = 0 := by decide +kernel

theorem wit_PdosExchanged_write : let d := canTool; let p : Fin 2 := 1
    let ws := pdoEntries (d.pdoNow true 8) (zeros 4); let r := d.writeAll { role := d.rn O.canRole p } ws
    d.running = true ∧ d.vendorOnly = false ∧ d.pdoRuns true p 8 = true ∧
      (zeros 4).length = sumL ((d.pdoNow true 8).map fun e => e % 256 / 8) ∧ r.2.1 = none ∧ r.2.2 = [] ∧ followsOf ws = none := by
  decide +kernel

theorem wit_CanSupervised : let d := at0 ((set [(O.canEnable, 1, 1)] base).setN O.canHeartbeatConsumer 0 0x7F03E8 3); let p : Fin 2 := 1
    let v := d.rn O.canHeartbeatConsumer 0 3
    d.running = true ∧ d.rn O.canHeartbeatPeriod ≠ 0 ∧ d.rf O.canEnable p = true ∧ v / 65536 % 256 ≠ 0 ∧ v % 65536 ≠ 0 ∧
      d.evFree 1 = true := by decide +kernel

theorem wit_CanErrorStates : ∀ bus ∈ [0, 1, 2], let d := canIn { bus := bus }; let p : Fin 2 := 1
    d.running = true ∧ d.evFree 1 = true ∧ d.rf O.canEnable p = true ∧ (d.can p).bus = bus := by decide +kernel

/-- A request for a record. -/
def aRequest (kind : Nat) : Request := ⟨[], 0, kind, 0, 3, 255, 0, false, 0, 0, 0, none, 0, some (zeros 96), 0, 0⟩

theorem wit_RecordSigned : ∀ kind ∈ [1, 2], ∀ role ∈ [Role.alone, .second],
    let d := at0 { base with witness := { requests := [aRequest kind] }, twin := { role := role } }
    d.running = true ∧ d.gated = false ∧ d.witness.requests = [aRequest kind] ∧ (aRequest kind).content.isSome = true ∧
      (aRequest kind).tries = 0 ∧ (aRequest kind).kind = kind ∧ d.evFree 6 = true ∧ (d.holdsLead = true ↔ role = .alone) := by
  decide +kernel

theorem wit_RecordResent : ∀ n ∈ [3, 4],
    let f : Forward := ⟨5, [], n, 100 * 10 ^ 9 - 100000000, none⟩; let d := at0 { base with witness := { forwards := [f] } }
    d.running = true ∧ d.holdsLead = true ∧ d.evFree 1 = true ∧
      d.witness.forwards.find? (fun x => x.seq == f.seq && x.time + 1000000 * d.rn O.witnessAckTimeout ≤ d.now) = some f ∧
      (f.resends < d.rn O.witnessResends ↔ n = 3) := by decide +kernel

/-- Two writes of one object, accepted in cycles 5 and 6. -/
def pendTwo : Dev := { base with dict := { pend := [(2, [⟨7, .num 1, 5⟩, ⟨7, .num 2, 6⟩])] } }

theorem wit_PendingTakesEffect : let d := pendTwo; let own : Nat → Bool := fun _ => true
    d.pendOf 2 = [] ++ ⟨7, .num 1, 5⟩ :: [⟨7, .num 2, 6⟩] ∧ d.pendOf 2 = [⟨7, .num 1, 5⟩] ++ ⟨7, .num 2, 6⟩ :: [] ∧ own 7 = true ∧
      5 < 6 ∧ (∀ x ∈ [(⟨7, .num 2, 6⟩ : PendW)], x.key = 7 → 6 ≤ x.cycle) ∧ 5 = 5 ∧
      (∀ x ∈ ([] ++ [⟨7, .num 2, 6⟩] : List PendW), x.key = 7 → 5 ≤ x.cycle) := by decide +kernel

/-- A pitch grid due at 100 s, with a write of class PIT of an earlier cycle and one of the same cycle. -/
def pitchDue : Dev :=
  at0 { base with dict := { pend := [(2, [⟨O.streamJitter.key 5, .num 70, 5⟩, ⟨O.streamJitter.key 6, .num 80, cycleOf (100 * 10 ^ 9)⟩])] } }

theorem wit_PitchStarts : let d := pitchDue
    d.alive = true ∧ d.gridAt 0 (d.gridK 0 d.now) = (d.now : Int) ∧ d.twin.role = .alone ∧ d.twin.record = none ∧
      (∀ i < 128, d.rn O.streamPort i < 4) ∧ (∀ x ∈ d.pendOf 2, O.streamPort.has x.key = true → x.val.int.toNat < 4) ∧
      (∃ w ∈ d.pendOf 2, pitKey w.key = true ∧ O.streamRestart.has w.key = false ∧ w.cycle < cycleOf d.now ∧
        (∀ x ∈ d.pendOf 2, x.cycle < cycleOf d.now → x.key = w.key → x = w)) ∧
      (∃ w ∈ d.pendOf 2, cycleOf d.now ≤ w.cycle) := by decide +kernel

/-! ### Twin operation -/

/-- The body of an Anchor message of a unit, with a byte at 20 and a serial number at 24. -/
def anchorBody (serial epoch x other : Nat) : Bytes :=
  be 8 serial ++ be 4 3 ++ be 4 epoch ++ zeros 4 ++ [byteOf x, 1, 0, 0] ++ be 8 other ++ zeros 16

/-- The message over CAN 0 with a tag. -/
def anchorCan (id : Nat) (body : Bytes) (tag : Nat) : AnchorMsg := .can 0 id (body ++ be 16 tag)

/-- A unit of a twin pair of serial numbers 77 and 78 with the CAN path, in a role. -/
def twinDev (serial : Nat) (tw : Twin) (an : Anchor) : Dev :=
  at0 ((set [(O.canEnable, 0, 1), (O.twinAnchorPath, 0, 2), (O.identitySerialNumber, 0, serial), (O.twinUnitId, 0, 1)]
    { base with twin := tw, anchor := an }).setV O.twinPairSerials 0 (.raw (le 8 77 ++ le 8 78)))

theorem wit_AnchorHearsMembers :
    ∀ x ∈ [(0x40, 3, 333397705011923992092327377685393191314), (0x42, 1, 20700261720673327712785366908170078241),
      (0x44, 1, 248255938955777001343020104386107235640), (0x45, 1, 264339837066322384234169074077146157567)],
    let an : Anchor := { lead := if x.1 = 0x44 then 78 else 0, members := [(0, { present := true })] }
    let d := twinDev 99 { role := .anchor } an
    let b := anchorBody 78 1 x.2.1 0
    d.running = true ∧ d.twin.role = .anchor ∧ d.anchorTaken (anchorCan (anchorCanId 1 x.1 false) b x.2.2) x.1 = some b ∧
      d.unitOfSerial (beAt b 0 8) = some 1 ∧ (x.1 = 0x42 → beAt b 20 1 = 1 ∧ d.anchor.lead = 0 ∧ d.anchor.window = none) ∧
      (x.1 = 0x44 → d.anchor.lead = d.pairSerial 1 ∧ (d.member (1 - 1)).present = true ∧ d.anchor.e < 0xFFFFFFFE ∧
        (∀ y ∈ d.anchor.lastGrant, y.1 + 100000000 ≤ d.now)) := by decide +kernel

theorem wit_AnchorTimers_state : let d := twinDev 99 { role := .anchor } { members := [(0, { present := true })] }
    d.running = true ∧ d.twin.role = .anchor ∧ d.grantee = none ∧ d.anchor.granting = none ∧ (d.member 0).present = true ∧
      0 ∈ d.anchorCans := by decide +kernel

theorem wit_AnchorTimers_absent :
    let d := twinDev 99 { role := .anchor } { lead := 78, e := 4, lastGrant := some (100 * 10 ^ 9 - 100000000, 1)
                                              members := [(0, { present := true }), (1, { present := true, lastBeat := 100 * 10 ^ 9 - 30000000 })] }
    let m : Fin 2 := 1
    d.running = true ∧ d.twin.role = .anchor ∧ (d.member m).present = true ∧ (d.member m).lastBeat + 30000000 ≤ d.now ∧
      d.anchor.e < 0xFFFFFFFE ∧ d.anchor.lead ≠ 0 ∧ d.unitOfSerial d.anchor.lead = some m.val ∧ d.anchor.released = none ∧
      (d.member (1 - m)).present = true ∧ (∀ x ∈ d.anchor.lastGrant, x.1 + 100000000 ≤ d.now) := by decide +kernel

theorem wit_AnchorTimers_window :
    let d := twinDev 99 { role := .anchor } { window := some (100 * 10 ^ 9 - 100000000)
                                              members := [(1, { present := true, requested := some 5 })] }
    d.running = true ∧ d.twin.role = .anchor ∧ d.anchor.lead = 0 ∧ (∃ w ∈ d.anchor.window, w + 100000000 ≤ d.now) ∧
      d.anchor.e < 0xFFFFFFFE ∧ (∀ x ∈ d.anchor.lastGrant, x.1 + 100000000 ≤ d.now) ∧
      [0, 1].find? (fun u => (d.member u).present && (d.member u).requested.isSome) = some 1 := by decide +kernel

theorem wit_AnchorContact_state : let d := twinDev 78 { role := .second, anchorLast := some 5 } {}
    let b := anchorBody 99 1 1 0
    d.evFree 1 = true ∧ d.running = true ∧ d.isMember = true ∧
      d.anchorTaken (anchorCan (anchorCanId 1 0x41 true) b 302439072527231918035497416085028938425) 0x41 = some b ∧
      d.twin.anchorContact = false ∧ d.twin.anchorLast.isSome = true := by decide +kernel

theorem wit_AnchorContact_timeout : ∀ a ∈ [100 * 10 ^ 9 - 30000000, 100 * 10 ^ 9 - 29999999],
    let d := twinDev 78 { role := .second, anchorContact := true, anchorLast := some a } {}
    d.evFree 1 = true ∧ d.running = true ∧ d.isMember = true ∧ d.twin.anchorContact = true ∧ d.twin.anchorLast = some a ∧
      (a + 30000000 ≤ d.now ↔ a = 100 * 10 ^ 9 - 30000000) := by decide +kernel

theorem wit_MemberAndAnchor : let d := twinDev 78 { role := .second } {}
    let b := be 8 99 ++ be 4 3 ++ be 4 1 ++ be 4 6 ++ zeros 4 ++ be 8 78 ++ zeros 16
    d.running = true ∧ d.isMember = true ∧
      d.anchorTaken (anchorCan (anchorCanId 1 0x43 true) b 245844907424939941732124890743129911486) 0x43 = some b ∧
      beAt b 24 8 = d.serial ∧ d.twin.known < beAt b 16 4 ∧ d.inService = false ∧ 0 ∈ d.anchorCans := by decide +kernel

theorem wit_FenceWithdraws : ∀ x ∈ [(2, none), (1, some 1), (1, none)],
    let d := twinDev 78 { role := .lead, renewals := x.1, fenceRise := x.2, leadPin := true } {}
    d.alive = true ∧ d.twin.role = .lead ∧ d.twin.gate = false ∧ d.twin.grant = none ∧ d.twin.withdraw = none ∧ d.isolated = false ∧
      d.evFree 1 = true ∧ d.twin.renewals = x.1 ∧ d.twin.fenceRise = x.2 := by decide +kernel

theorem wit_RecordsTravel_close :
    let d := at0 { base with twin := { role := .lead }, groups := [(7, { armed := some { token := 7, descs := [], objs := [] } })] }
    d.running = true ∧ d.twin.role = .lead ∧ (∃ tb ∈ (d.grp 7).armed, tb.carried = none) := by decide +kernel

/-- A record of type 1 or 2 of epoch 6 for pitch 1 on base 0, with no section. -/
def aRecord (typ : Nat) : Bytes :=
  let b := be 2 1 ++ [byteOf typ, 0] ++ be 4 6 ++ be 4 1 ++ be 4 0 ++ be 4 68 ++ zeros 44
  b ++ be 4 (crc32c b)

theorem wit_RecordsTravel_received : let d := at0 { base with twin := { role := .second, known := 6 } }; let b := aRecord 1
    d.running = true ∧ d.twin.role = .second ∧ (∃ x ∈ parseRecord b, x.1 = 1 ∧ d.twin.known ≤ x.2.1 ∧
      (d.recordFault b).toOption = some x.2.2) ∧ beAt b 2 1 = 1 := by decide +kernel

theorem wit_RecordsTravel_discarded : let d := at0 { base with twin := { role := .second } }
    let b := (aRecord 1).take 64 ++ zeros 4
    d.running = true ∧ d.twin.role = .second ∧ parseRecord b = none ∧ (d.recordFault b).toOption = none ∧ d.evFree 1 = true := by
  decide +kernel

theorem wit_HeartbeatsTravel : let d := at0 { base with twin := { role := .second }, rope := { state := 2 }, pitchStarted := true }
    let b : Bytes := be 2 1 ++ zeros 2110
    d.running = true ∧ d.isMember = true ∧ d.ropeIsUp = true ∧ tget 0 d.health.dmaFault (unitKey 16 0) = 0 ∧ b.length = 2112 ∧
      beAt b 0 2 = 1 ∧ d.pitchStarted = true := by decide +kernel

theorem wit_RejoinProceeds_identity : ∀ u ∈ [(0, true), (1, false)], let d := twinDev 78 { role := .cold } {}
    let b := le 4 0 ++ le 4 0x3200 ++ [byteOf u.1] ++ zeros 39
    d.running = true ∧ d.isMember = true ∧ d.twin.role ≠ .lead ∧
      ((b.length = 48 ∧ b.take 8 = d.identityBody.take 8 ∧ b.drop 16 = d.identityBody.drop 16 ∧
        leAt b 8 1 ≠ leAt d.identityBody 8 1) ↔ u.2 = true) := by decide +kernel

theorem wit_RejoinProceeds_snapshot : let d := twinDev 78 { role := .cold, known := 6, identity := true } {}
    d.running = true ∧ d.isMember = true ∧ d.twin.role ≠ .lead ∧ d.twin.role ≠ .second ∧ d.twin.identity = true ∧
      (d.snapshotOf [aRecord 2]).isSome = true := by decide +kernel

/-! ### Health, power, start-up -/

theorem wit_SelfTestsRun : ∀ again : Bool,
    let b : Bist := ⟨8, 67, 2, 1, again⟩; let d := at0 { base with health := { tests := [b] } }
    d.alive = true ∧ d.health.tests.find? (fun x => x.kind == b.kind && x.inst == b.inst) = some b ∧ b.why ≠ 3 ∧
      b.again = again ∧ d.evFree 3 = true ∧ (∃ k ∈ rotationKinds, ∃ i < kindBuilt k, d.unitState k i = .spare) := by decide +kernel

theorem wit_EnginesFail : let d := at0 base
    d.alive = true ∧ (∀ x ∈ [(14, 3), (18, 0)], 14 ≤ x.1 ∧ x.1 ≤ 18 ∧ unitExists x.1 x.2 = true ∧ d.unitState x.1 x.2 = .active ∧
      d.transientOver x.1 x.2 = false) ∧ d.headOn (31 : Fin 32) = true ∧ d.unitState 20 (31 : Fin 32) = .active ∧
      d.transientOver 20 (31 : Fin 32) = false := by decide +kernel

theorem wit_JournalAppended :
    let x : JPend := { ticket := 4, entries := [⟨7, .num 1, []⟩], session := some (9, 1, []), can := some 1, body := [5] }
    let d := { sessionIn aSession with dict := { sessions := [aSession], jpend := [x] } }
    d.alive = true ∧ d.dict.jpend.find? (fun y => y.ticket == x.ticket) = some x ∧ x.close = [] ∧ x.after = none ∧
      d.sessionOf 9 = some aSession := by decide +kernel

theorem wit_ResetBegins :
    let d := at0 base
    let dm := at0 { base with power := { base.power with meshFails := [(1, 1)] } }
    let ds := at0 { base with power := { base.power with phase := .standby, wakeAt := some (100 * 10 ^ 9), nreset := true } }
    let dl := at0 { base with power := { base.power with phase := .standby, wakeAt := some (100 * 10 ^ 9), wakeLatched := some 1 } }
    d.powered = true ∧ d.power.pwrReq = true ∧ d.power.phase ≠ .stopped ∧ d.alive = true ∧ d.startingUp = false ∧
      dm.powered = true ∧ dm.power.phase ≠ .stopped ∧ dm.power.life ≠ 4 ∧ tget 0 dm.power.meshFails (1 : Fin 2) = 1 ∧
      ds.power.phase = .standby ∧ ds.power.wakeLatched = none ∧ ds.power.nreset = true ∧ (∃ a ∈ ds.power.wakeAt, a ≤ ds.now) ∧
      dl.power.phase = .standby ∧ dl.power.wakeLatched.isSome = true ∧ (∃ a ∈ dl.power.wakeAt, a ≤ dl.now) := by decide +kernel

/-- A device whose power is as given. -/
def powerIn (p : Power) : Dev := at0 { base with power := p }

theorem wit_HoldsReleased : ∀ x ∈ [(true, false, false), (false, true, false), (false, false, true)],
    let d := powerIn { phase := .reset, nreset := x.1, holdRail := x.2.1, holdHeat := x.2.2 }
    d.power.phase = .reset ∧ (d.power.nreset, d.power.holdRail, d.power.holdHeat) = x := by decide +kernel

theorem wit_HoldsReleased_wake : ∀ ph ∈ [Phase.stoppingHeads, .powerDown, .standby], let d := powerIn { phase := ph }
    d.power.phase = ph ∧ d.power.wakeLatched = none ∧ (at0 base).powered = true ∧ tget 0 (at0 base).power.meshFails (1 : Fin 2) = 0 := by
  decide +kernel

/-- Sixteen channels of 16 Gb in two ranks, the last of which passes or fails. -/
def trained (pass : Bool) (density : Nat) : List ChanTrain :=
  List.replicate 15 ⟨density, 2, 0, true, 350, 60, 350, 60, 400⟩ ++ [⟨density, 2, 0, pass, 350, 60, 350, 60, 400⟩]

theorem wit_StartupTrains : let d := powerIn { phase := .sequencing }; let d2 := powerIn { phase := .pllLocked }
    d.power.phase = .sequencing ∧ d2.power.phase = .pllLocked ∧ d2.power.trainFailed = [] ∧ configOk (trained true 16) = true ∧
      (trained true 16).all marginsOk = true ∧ configOk (trained false 16) = true ∧ (trained false 16).all marginsOk = false ∧
      configOk (trained true 12) = false := by decide +kernel

theorem wit_MemoryWiped : ∀ cold : Bool, ∀ tries ∈ [0, 1], let d := powerIn { phase := .trained, cold := cold, wipeTries := tries }
    d.power.phase = .trained ∧ d.keepsRetained = !cold ∧ d.power.wipeTries = tries := by decide +kernel

theorem wit_MemoryWiped_standby : let d := powerIn { phase := .stoppingHeads }
    let d2 := powerIn { phase := .powerDown, wakeLatched := some 1 }
    d.power.phase = .stoppingHeads ∧ d.allHeads.all (fun h => !(d.hd h).started) = true ∧ d2.power.phase = .powerDown ∧
      d2.power.wakeLatched.isSome = true := by decide +kernel

/-- A firmware image of one byte, with a signature of zeros. -/
def anImage : Bytes :=
  ascii "YETH" ++ be 2 1 ++ [1, 0] ++ be 4 7 ++ be 4 1 ++ zeros 16 ++ sha256 [5] ++ [5] ++ zeros 64

/-- A device that has wiped its memory and holds the image in slot A. -/
def imaged : Dev := at0 { base with power := { phase := .wiped }, flash := { fw := [(0, anImage)] } }

theorem wit_StartupEnds_none : let d := powerIn { phase := .wiped }; let d2 := powerIn { phase := .released }
    d.power.phase = .wiped ∧ d.pickImage 1 = none ∧ d2.power.phase = .released := by decide +kernel

/-- Whether a signature verifies is Config's (DESIGN CHOICE, log 10), so this witness says: when the image's does, start-up picks it. -/
theorem wit_StartupEnds_some
    (h : Config.ecdsaVerify (Config.imageKey 0) (anImage.take 64) (imageOf anImage).signature = true) :
    imaged.power.phase = .wiped ∧ imaged.pickImage 1 = some (0, anImage) := by
  have o : imaged.imageOrder 1 = [(0, anImage), (1, [])] := by decide +kernel
  have c : ∀ k, imaged.imageCheck 1 k anImage = 0 := by
    intro k
    simp only [Dev.imageCheck, if_true, h]
    decide +kernel
  exact ⟨rfl, by simp [Dev.pickImage, o, c]⟩

theorem wit_ThermalActs :
    let d := at0 base; let d2 := powerIn { base.power with throttle := 1, thSince := some (99 * 10 ^ 9), warned := true }
    d.alive = true ∧ d.evFree 2 = true ∧ (8 * d.rn O.thermalWarn : Int) ≤ 760 ∧ (719 + 40 : Int) ≤ (8 * d.rn O.thermalWarn : Int) ∧
      (8 * d.rn O.thermalThrottle : Int) ≤ 8 * 120 ∧ d.power.throttle = 0 ∧ d.power.thSince = none ∧ d.power.warned = false ∧
      d2.alive = true ∧ d2.power.throttle = 1 ∧ (∃ x ∈ d2.power.thSince, x + sec ≤ d2.now) := by decide +kernel

theorem wit_EnergyAndDebug : let d := at0 base
    d.alive = true ∧ (∃ r ∈ energyRows[4]?, bit (d.rn O.energyValid) 4 = true ∧ [0, 0, 0, 0, 5000].getD 4 0 % 1000 = 0 ∧
      d.rn r.1 + [0, 0, 0, 0, 5000].getD 4 0 / 1000 < 2 ^ 64) ∧ bit ((at0 (set [(O.energyValid, 0, 15)] base)).rn O.energyValid) 4 = false ∧
      d.power.life ≠ 0 ∧ d.mayRaise (Code.secDebugLocked * 65536) sec = true ∧ d.evFree 1 = true := by decide +kernel

/-! ### Well-formedness: each check refuses an ill-formed command -/

/-- Whether each of these is refused, and each of those accepted. -/
def checks (bad good : List Instr) : Bool := bad.all (fun c => !c.wellFormed) && good.all (fun c => c.wellFormed)

theorem test_wf_instant : checks [.pitchStart (2 ^ 48 * 10 ^ 9) false, .slotPost 0 0 0 (2 ^ 48 * 10 ^ 9)]
    [.pitchStart (2 ^ 48 * 10 ^ 9 - 1) false, .slotPost 0 0 0 5] = true := by decide

theorem test_wf_lines : checks
    [.scanoutUnderflow 0 0 4320 0 1, .scanoutUnderflow 0 0 0 5 5, .scanoutUnderflow 0 0 0 0 7681, .bivouacReadError 0 0 0 3 2 true,
     .bivouacReadError 0 0 0 3 4320 true]
    [.scanoutUnderflow 0 0 4319 0 7680, .bivouacReadError 0 0 0 3 3 true] = true := by decide

theorem test_wf_frame : checks
    [.frameReceived 0 0 { ptpFrame with dst := 2 ^ 48 }, .frameReceived 0 0 { ptpFrame with etherType := 65536 },
     .frameReceived 0 0 { ptpFrame with tags := [(8, 0)] }, .frameReceived 0 0 { ptpFrame with tags := [(0, 4096)] },
     .frameReceived 0 0 { ptpFrame with ip := some ⟨false, 256, [], [], false, none⟩ },
     .frameReceived 0 0 { ptpFrame with ip := some ⟨false, 17, [], [], false, some ⟨65536, 0, [], false, false⟩⟩ },
     .frameReceived 0 0 { ptpFrame with ip := some ⟨false, 17, [], [], false, some ⟨0, 65536, [], false, false⟩⟩ }]
    [.frameReceived 0 0 { ptpFrame with tags := [(7, 4095)] }] = true := by decide

theorem test_wf_ingest : checks
    [.rtcpSrReceived 0 0 (2 ^ 32) 0 0 0 none, .rtcpSrReceived 0 0 0 (2 ^ 32) 0 0 none, .rtcpSrReceived 0 0 0 0 (2 ^ 32) 0 none,
     .rtcpSrReceived 0 0 0 0 0 (2 ^ 32) none, .rtcpSrReceived 0 0 0 0 0 0 (some (2 ^ 64)),
     .rtspResponse 0 0 (.described (2 ^ 32) false false false false 0 none),
     .rtspResponse 0 0 (.described 90000 false false false false 0 (some (2 ^ 64))), .rtspResponse 0 0 (.playing (2 ^ 32))]
    [.rtcpSrReceived 0 0 (2 ^ 32 - 1) 0 0 0 none, .rtspResponse 0 0 (.playing 60)] = true := by decide

theorem test_wf_time : checks
    [.ptpSyncReceived 0 0 (2 ^ 64) 0 0, .ptpAnnounceReceived 0 0 (2 ^ 64) 0 0 37, .ptpAnnounceReceived 0 0 0 256 0 37,
     .ptpAnnounceReceived 0 0 0 0 256 37, .ptpAnnounceReceived 0 0 0 0 0 32768] [.ptpAnnounceReceived 0 0 (2 ^ 64 - 1) 255 255 37] = true := by decide

theorem test_wf_pictures : checks
    [.auParsed 0 0 (.picture (some { aPs with profile := 3 }) aHdr), .auParsed 0 0 (.picture (some { aPs with chroma := 4 }) aHdr),
     .auParsed 0 0 (.picture none { aHdr with keepShort := [1], keepLong := [1] }), .auParsed 0 0 (.headersOnly (some { aPs with profile := 3 })),
     .decodeComplete 0 0 ⟨2, 2, 8, [[0, 0]], [[0]], [[0]]⟩ false false, .decodeComplete 0 0 ⟨2, 2, 8, [[0], [0, 0]], [[0]], [[0]]⟩ false false,
     .decodeComplete 0 0 ⟨2, 2, 8, [[0, 256], [0, 0]], [[0]], [[0]]⟩ false false]
    [.auParsed 0 0 (.picture (some aPs) aHdr), .decodeComplete 0 0 ⟨2, 2, 8, [[0, 255], [0, 0]], [[0]], [[0]]⟩ false false] = true := by
  decide

theorem test_wf_links : checks
    [.irqHpd 0 0 500 [4], .linkStatusPoll 0 0 [4] [], .linkStatusPoll 0 0 [] [4], .trainingPhaseDone 0 0 [4] [],
     .readingComplete 0 0 ⟨zeros 256, [6], 2, false, false, []⟩, .readingComplete 0 0 ⟨zeros 257, [6], 3, false, false, []⟩,
     .readingComplete 0 0 ⟨zeros 257, [6], 2, false, false, zeros 127⟩, .laneCalibrationTimer 0 0 65536 0 0,
     .laneCalibrationTimer 0 0 0 65536 0, .laneCalibrationTimer 0 0 0 0 65536]
    [.irqHpd 0 0 500 [3], .readingComplete 0 0 ⟨zeros 257, [6], 2, false, false, zeros 128⟩] = true := by decide +kernel

theorem test_wf_rope : checks
    [.ropeStepComplete 0 [(4, 9)] 4, .ropeStepComplete 0 [] 5, .ropeLaneMarkerReceived 0 0 (zeros 15) 0, .ropeFlitReceived 0 (zeros 255),
     .ropeLaneRelock 0 0 65536]
    [.ropeStepComplete 0 [(3, 9)] 4, .ropeLaneMarkerReceived 0 0 (zeros 16) 0, .ropeFlitReceived 0 (zeros 256)] = true := by
  decide +kernel

theorem test_wf_touch : checks [.scanComplete 0 0 ⟨false, [256], [], []⟩, .electrodeTestComplete 0 0 [(256, 0)]]
    [.scanComplete 0 0 ⟨false, [255], [], []⟩, .electrodeTestComplete 0 0 [(255, 0)]] = true := by decide

theorem test_wf_memory : checks
    [.memUncorrectableRead 0 (2 ^ 36), .memRereadDone 0 (2 ^ 36) true, .scrubPass 0 (2 ^ 36) .good, .spareRowCopyDone 0 0 0 0 65536 [],
     .spareRowCopyDone 0 0 0 0 0 [32]] [.memUncorrectableRead 0 (2 ^ 36 - 1), .spareRowCopyDone 0 0 0 0 65535 [31]] = true := by decide

theorem test_wf_qdp : checks
    [.qdpHello 0 0 [] 5 [], .qdpRead 0 0 [1] 65536 [], .qdpWrite 0 0 [1] 5 (zeros 1473), .qdpLockoutExpiry 0 []]
    [.qdpHello 0 0 [1] 65535 (zeros 1472), .qdpLockoutExpiry 0 [1]] = true := by decide +kernel

theorem test_wf_can : checks
    [.canNmtCommand 0 0 256 0, .canNmtCommand 0 0 1 128, .canUsdoRequest 0 0 128 .readSegment, .canUsdoRequest 0 0 5 (.read 65536 0),
     .canUsdoRequest 0 0 5 (.write 0 256 []), .canUsdoRequest 0 0 5 (.writeStart 0 0 (2 ^ 32)), .canRpdo 0 0 0 (zeros 65)]
    [.canNmtCommand 0 0 255 127, .canUsdoRequest 0 0 127 (.read 65535 255), .canRpdo 0 0 0 (zeros 64)] = true := by decide +kernel

theorem test_wf_services : checks
    [.mbxPost 0 0 0 0 65536, .mbxAckIn 0 0 0 0 (2 ^ 32) 0, .mbxAckIn 0 0 0 0 0 65536, .registerWrite 0 0 (2 ^ 40) 32 0,
     .registerWrite 0 0 0 24 0, .registerWrite 0 0 0 8 256, .masterAccess 0 0 .read false (2 ^ 40) 1 [] .good,
     .masterAccess 0 0 .read false 0 0 [] .good, .masterAccess 0 0 .write false 0 2 [1] .good, .cvuCtrlWrite 0 0 0 (2 ^ 32),
     .cvuDataWrite 0 0 0 64 8 0, .cvuDataWrite 0 0 0 8 24 0, .cvuDataWrite 0 0 0 8 8 256]
    [.mbxAckIn 0 0 0 0 (2 ^ 32 - 1) 65535, .registerWrite 0 0 (2 ^ 40 - 1) 8 255, .masterAccess 0 0 .write false 0 1 [1] .good] = true := by
  decide

theorem test_wf_twin : checks
    [.anchorBeat 0 (.can 0 2048 []), .anchorState 0 (.can 0 0 (zeros 65)), .anchorGrant 0 (.qdp 0 [] [])]
    [.anchorBeat 0 (.can 0 2047 (zeros 64)), .anchorGrant 0 (.qdp 0 [1] [])] = true := by decide +kernel

theorem test_wf_health : checks
    [.bistComplete 0 0 0 true, .bistComplete 0 21 0 true, .dmaEngineFault 0 13 0 true, .dmaEngineFault 0 19 0 true,
     .memoryTrainingDone 0 [] [], .startupWipeDone 0 true (2 ^ 32) [], .startupWipeDone 0 true 0 [(21, 0)], .thermalCrossing 0 32768,
     .throttleStepTimer 0 (-32769), .energyPublish 0 [1] (List.replicate 4 0) [], .energyPublish 0 (List.replicate 5 0) [] [],
     .energyPublish 0 (List.replicate 5 0) (List.replicate 4 0) [5]]
    [.bistComplete 0 20 0 true, .dmaEngineFault 0 18 0 true, .thermalCrossing 0 32767,
     .energyPublish 0 (List.replicate 5 0) (List.replicate 4 0) [4]] = true := by decide +kernel

/-! ### Worked values -/

/-- An invariant's premises, at reset. -/
theorem wit_DramCanonicalKept : State.reset.ok = true ∧ (∃ u, step State.reset = .next u) := ⟨by decide +kernel, _, rfl⟩

/-- The check values of Table 13-13 over "123456789", and that of R79. -/
theorem test_checkValues :
    ([0, 1, 2].map fun a => (ascii "123456789").foldl (cvByte a) (cvInit a) ^^^ cvFinal a) = [0xE3069283, 0xCBF43926, 0x29B1] ∧
      crc32c (ascii "123456789") = 0xE3069283 := by decide +kernel

/-- FIPS 180-4: the digest of "abc" begins BA7816BF. -/
theorem test_sha256 : (sha256 (ascii "abc")).take 4 = [0xBA, 0x78, 0x16, 0xBF] := by decide +kernel

/-- The example of R135: the launch waits across the wrap and fires 50 ms after the write. -/
theorem test_compareWraps : compareFires 0x01FAF080 0xFFFFFF000000 = false ∧
    compareFires 0x01FAF080 (0xFFFFFF000000 + 49999999) = false ∧ compareFires 0x01FAF080 (0xFFFFFF000000 + 50000000) = true := by
  decide +kernel

/-- Table 12-8: the body of the WRITE is one entry, stream[41].age_bound with 300; the body of its WRITE_RESP. -/
theorem test_writeBody :
    parseWrite 1 [0x29, 0xA9, 0x01, 0, 0, 0, 0, 4, 0x2C, 1, 0, 0] = some [(O.streamAgeBound.key 41, le 4 300)] ∧
      writeResp 0x42 [(O.streamAgeBound.key 41, le 4 300)] none = [0, 0, 0, 0x42, 0, 0, 1, 0, 0x29, 0xA9, 1, 0, 0, 0] := by
  decide +kernel

/-- Table 8-7: head 6 at 3840 × 2160 and 60 Hz in RGB of 10 bits, divisor 2. UHBR10 × 2 carries the mode and HBR3 × 2 does not;
HBR2 × 2, HBR3 × 2 and UHBR10 × 1 carry the fallback, HBR3 × 1 does not. -/
theorem test_candidates : let d := at0 (set [(O.headEncoding, 6, 1)] base)
    d.carriesMode 6 4 2 1 = true ∧ d.carriesMode 6 3 2 1 = false ∧
      ([(2, 2), (3, 2), (4, 1), (3, 1)].map fun x => d.carriesMode 6 x.1 x.2 2) = [true, true, true, false] := by decide +kernel

/-- The next alive counter follows 0xFFFFFFFF by 1: 0 is kept for the first frame of an emission (R77). -/
theorem test_aliveWraps : aliveNext 0xFFFFFFFF = 1 ∧ aliveNext 0 = 1 := by decide +kernel

/-- A write of class GRP and one of PIT are told apart: head[h].h_active and stream[s].jitter. -/
theorem test_classes : O.headHActive.cls = .grp ∧ O.streamJitter.cls = .pit ∧ pitKey (O.streamJitter.key 7) = true ∧
    pitKey (O.headHActive.key 7) = false := by decide +kernel

/-- Memory reads what was written, and a write of what an unlisted byte reads as takes the entry away. -/
theorem test_memory : Memory.peek (Memory.poke [] 5 7) 5 = 7 ∧ Memory.poke (Memory.poke [] 5 7) 5 0 = [] ∧
    Memory.peek (Memory.poke [⟨4, 1⟩] 5 7) 4 = 1 := by decide +kernel

/-- A step takes the front command, here a wake pin in standby, and leaves the rest (R443). -/
theorem test_step : (match step ⟨{ power := { phase := .powerDown } }, [], [.wakePin 0, .powerOn 5]⟩ with
    | .next u => (u.pending, u.dev.power.wakeLatched)
    | _ => ([], none)) = ([.powerOn 5], some 1) := by decide +kernel

/-- R467's worked positions. -/
theorem test_ballNames : (ballName 2 28, ballAt 2 28) = ("B28", .lane 13 true true) ∧
    (ballName 10 20, ballAt 10 20) = ("K20", .aux 6 true) ∧ (ballName 12 47, ballAt 12 47) = ("M47", .mem 9 "WCK0_T") := by
  decide +kernel

/-- Table 17-7: how the balls divide. -/
theorem test_ballCounts :
    [ballCount fun b => match b with | .lane .. => true | _ => false, ballCount fun b => match b with | .aux .. | .hpd _ => true | _ => false,
     ballCount fun b => match b with | .mem .. | .mreset | .mzq _ => true | _ => false,
     ballCount fun b => match b with | .touch _ | .guard _ | .presence _ => true | _ => false,
     ballCount fun b => match b with | .pin _ => true | _ => false, ballCount fun b => match b with | .test _ => true | _ => false] =
    [288, 96, 601, 264, 35, 8] ∧
    [Ball.vcore, .vsram, .vphyMemAn, .vphyMemIo, .vlaneAn, .vlaneCore, .vio, .vafe, .vaon, .vss].map (fun b => ballCount (· == b)) =
    [252, 64, 16, 80, 24, 72, 12, 12, 2, 775] := by decide +kernel

/-- An idle cycle adds time.increment, 2.5 ns at its default (R127, DESIGN CHOICE, log 2). -/
theorem test_idle : (match step ⟨base, [], []⟩ with
    | .next u => u.dev.clock - base.clock
    | _ => 0) = 2 ^ 48 * 5 / 2 := by decide +kernel

end Sys2Proof.Tests
end

/-! PROOFS of the family '00_scope.md': when pending writes of the dictionary take effect (R16 to R18), and what a pitch start
does of them (R174). -/

namespace Sys2Proof.Machine

/-! ### The newest of several pending writes -/

theorem pendFind_append (l m : List PendW) (k : Nat) : pendFind (l ++ m) k = (pendFind m k).or (pendFind l k) := by
  simp only [pendFind, List.reverse_append, List.find?_append]
  cases m.reverse.find? fun w => w.key == k <;> rfl

@[simp] theorem pendFind_singleton (w : PendW) (k : Nat) : pendFind [w] k = if w.key = k then some w.val else none := by
  by_cases h : w.key = k <;> simp [pendFind, h]

theorem pendFind_eq_none {l : List PendW} {k : Nat} (h : ∀ x ∈ l, x.key ≠ k) : pendFind l k = none := by
  simpa [pendFind] using h

/-- R17: of several writes to one object the last one counts. -/
theorem pendFind_last {before after : List PendW} {w : PendW} (h : ∀ x ∈ after, x.key ≠ w.key) :
    pendFind (before ++ w :: after) w.key = some w.val := by
  rw [List.append_cons, pendFind_append, pendFind_eq_none h, pendFind_append, pendFind_singleton, if_pos rfl]
  rfl

/-! ### Writes taken one after another -/

theorem Dev.pendOf_foldl_setKey (l : List PendW) (d : Dev) (cls : Nat) :
    (l.foldl (fun d w => d.setKey w.key w.val) d).pendOf cls = d.pendOf cls := by
  induction l generalizing d with
  | nil => rfl
  | cons w l ih => exact ih _

theorem Dev.tfind_foldl_setKey (l : List PendW) (d : Dev) (k : Nat) :
    tfind (l.foldl (fun d w => d.setKey w.key w.val) d).dict.eff k = (pendFind l k).or (tfind d.dict.eff k) := by
  induction l generalizing d with
  | nil => rfl
  | cons w l ih =>
    rw [List.foldl_cons, ih, ← List.singleton_append, pendFind_append, pendFind_singleton, Option.or_assoc]
    by_cases h : w.key = k
    · subst h
      simp
    · simp [h, Dev.setKey_eff_ne _ _ (Ne.symm h)]

/-! ### The effecting event of a class -/

/-- The pending writes that an event in cycle `c` takes: those of its own objects that were accepted before the cycle (R18). -/
def PendW.due (own : Nat → Bool) (c : Nat) (w : PendW) : Bool := own w.key && w.cycle < c

theorem PendW.due_eq_false {own : Nat → Bool} {c : Nat} {w : PendW} (h : c ≤ w.cycle) : w.due own c = false := by
  simp [PendW.due, h]

@[simp] theorem Dev.pendOf_setPend (d : Dev) (cls : Nat) (l : List PendW) : (d.setPend cls l).pendOf cls = l := by
  simp [Dev.pendOf, Dev.setPend]

theorem Dev.pendOf_effect (d : Dev) (cls c : Nat) (own : Nat → Bool) :
    (d.effect cls c own).pendOf cls = (d.pendOf cls).filter fun w => !w.due own c := by
  unfold Dev.effect
  rw [Dev.pendOf_foldl_setKey, Dev.pendOf_setPend]
  rfl

theorem Dev.tfind_effect (d : Dev) (cls c : Nat) (own : Nat → Bool) (k : Nat) :
    tfind (d.effect cls c own).dict.eff k = (pendFind ((d.pendOf cls).filter (PendW.due own c)) k).or (tfind d.dict.eff k) :=
  Dev.tfind_foldl_setKey _ _ k

/-- A write waits past an event exactly if it was pending and the event did not take it. -/
theorem Dev.mem_pendOf_effect {d : Dev} {cls c : Nat} {own : Nat → Bool} {w : PendW} :
    w ∈ (d.effect cls c own).pendOf cls ↔ w ∈ d.pendOf cls ∧ w.due own c = false := by
  rw [Dev.pendOf_effect, List.mem_filter, Bool.not_eq_true']

/-- What still waits of the event's own objects was not accepted before the event's cycle. -/
theorem Dev.le_cycle_of_mem_effect {d : Dev} {cls c : Nat} {own : Nat → Bool} {w : PendW}
    (h : w ∈ (d.effect cls c own).pendOf cls) (hown : own w.key = true) : c ≤ w.cycle := by
  obtain ⟨-, hdue⟩ := Dev.mem_pendOf_effect.mp h
  simpa [PendW.due, hown] using hdue

/-- An object with no write accepted before the event's cycle keeps its value (R18). -/
theorem Dev.effect_keeps {d : Dev} {cls c k : Nat} (own : Nat → Bool) (h : ∀ x ∈ d.pendOf cls, x.key = k → c ≤ x.cycle) :
    tfind (d.effect cls c own).dict.eff k = tfind d.dict.eff k := by
  rw [Dev.tfind_effect, pendFind_eq_none, Option.none_or]
  intro x hx hk
  obtain ⟨hmem, hdue⟩ := List.mem_filter.mp hx
  rw [PendW.due_eq_false (h x hmem hk)] at hdue
  exact Bool.noConfusion hdue

/-- A write of the event's own object takes effect when it is due and no later one of the object is (R17). -/
theorem Dev.effect_takes_last {d : Dev} {cls c : Nat} {own : Nat → Bool} {w : PendW} {before after : List PendW}
    (hpend : d.pendOf cls = before ++ w :: after) (hown : own w.key = true) (hw : w.cycle < c)
    (hafter : ∀ x ∈ after, x.key = w.key → c ≤ x.cycle) : tfind (d.effect cls c own).dict.eff w.key = some w.val := by
  have hdue : w.due own c = true := by simp [PendW.due, hown, hw]
  rw [Dev.tfind_effect, hpend, List.filter_append, List.filter_cons_of_pos hdue, pendFind_last, Option.some_or]
  intro x hx hk
  obtain ⟨hmem, hx⟩ := List.mem_filter.mp hx
  rw [PendW.due_eq_false (hafter x hmem hk)] at hx
  exact Bool.noConfusion hx

/-- A write that one event leaves waiting takes effect at a later event of the kind when no later one of the object is due. -/
theorem Dev.effect_effect_takes {d : Dev} {cls c c' : Nat} {own : Nat → Bool} {w : PendW} {before after : List PendW}
    (hpend : d.pendOf cls = before ++ w :: after) (hown : own w.key = true) (hc : c ≤ w.cycle) (hc' : w.cycle < c')
    (hafter : ∀ x ∈ after, x.key = w.key → c' ≤ x.cycle) :
    tfind ((d.effect cls c own).effect cls c' own).dict.eff w.key = some w.val := by
  have hrest := Dev.pendOf_effect d cls c own
  rw [hpend, List.filter_append, List.filter_cons_of_pos (by rw [PendW.due_eq_false hc]; rfl)] at hrest
  exact Dev.effect_takes_last hrest hown hc' fun x hx => hafter x (List.mem_filter.mp hx).1

/-- Settles O50: a write due at the event is the newest of those the event takes (`Dev.effect_takes_last`); one of the event's
own cycle is none of them and is there for the event that follows. -/
theorem pendingTakesEffect : Obligations.PendingTakesEffect := by
  intro d cls c own w before after hpend hown
  have hmem : w ∈ d.pendOf cls := by simp [hpend]
  refine ⟨fun hw hafter => ⟨Dev.effect_takes_last hpend hown hw hafter, fun x hx hk => ?_⟩, fun hw => ⟨?_, fun hothers => ?_, ?_⟩⟩
  · exact Dev.le_cycle_of_mem_effect hx (hk ▸ hown)
  · exact Dev.mem_pendOf_effect.mpr ⟨hmem, PendW.due_eq_false (Nat.le_of_eq hw.symm)⟩
  · refine Dev.effect_keeps own fun x hx hk => ?_
    rw [hpend, List.mem_append, List.mem_cons] at hx
    rcases hx with hx | rfl | hx
    · exact hothers x (List.mem_append_left _ hx) hk
    · exact Nat.le_of_eq hw.symm
    · exact hothers x (List.mem_append_right _ hx) hk
  · exact fun c' hc' hafter => Dev.effect_effect_takes hpend hown (Nat.le_of_eq hw.symm) (hw ▸ hc') hafter

/-! ### A pitch start with an encode context on a port that is not there -/

/-- What a command that works on the device alone gives holds of the device it makes. -/
theorem State.of_gives_run {s : State} {c : Instr} {t : Nat} {f : Dev → Dev} {P : Dev → Prop} (h : exec c s = s.run t f)
    (g : s.gives c P) : P (f (s.dev.tick t)) := by
  obtain ⟨u, hu, -, hP⟩ := g
  rw [h] at hu
  injection hu with hu
  rwa [← hu] at hP

theorem exec_pitchStart (t : Nat) (fence : Bool) (s : State) : exec (.pitchStart t fence) s =
    s.run t fun d => d.when (d.alive && d.gridAt 0 (d.gridK 0 d.now) == (d.now : Int)) fun d => d.pitchStart fence := rfl

/-- At a grid instant of group 0, PITCH_START is the start of a pitch. -/
theorem pitchStart_of_gives {s : State} {t : Nat} {fence : Bool} {P : Dev → Prop} {d : Dev} (hd : s.dev.tick t = d)
    (halive : d.alive = true) (hgrid : d.gridAt 0 (d.gridK 0 d.now) = (d.now : Int))
    (g : s.gives (.pitchStart t fence) P) : P (d.pitchStart fence) := by
  have hP := State.of_gives_run (exec_pitchStart t fence s) g
  rwa [hd, Dev.when_pos _ (by rw [halive, hgrid, Bool.true_and, beq_iff_eq])] at hP

/-- Ring 10 of a port 28 has its count of frames where stream 10 has its port: the rings end at 63, and nothing keeps a ring
beyond them off the objects of other units. -/
theorem ringFrames_key_of_port28 : O.ringFrames.key (16 * 28 + 10) = O.streamPort.key 10 := by decide

/-- A write that sets the port of stream 10 to 3, accepted in the first cycle. -/
def portWrite : PendW := ⟨O.streamPort.key 10, .num 3, 0⟩

/-- A unit without a twin, one second after the epoch, whose encode context 0 is switched on with port 28 and finds no encode
engine; `portWrite` waits for the pitch. -/
def strayPort : Dev :=
  { clock := 10 ^ 9 * 2 ^ 48, pitchStarted := true, power := { phase := .released }
    dict := { eff := [(O.identityProductCode.key 0, .num 0x1600), (O.encodeSourceMode.key 0, .num 1),
                (O.encodePort.key 0, .num 28)]
              pend := [(2, [portWrite])] }
    encEngines := [0, 1, 2, 3].map fun e => (e, { state := .retired }) }

theorem strayPort_tick : strayPort.tick 0 = strayPort := by
  rw [Dev.tick, Nat.zero_mul, Nat.max_zero]

theorem strayPort_due : strayPort.alive = true ∧ strayPort.gridAt 0 (strayPort.gridK 0 strayPort.now) = (strayPort.now : Int) := by
  decide +kernel

theorem strayPort_streamPort : ∀ i < 128, strayPort.rn O.streamPort i < 4 := by decide +kernel

/-- Encode context 0 is shed; its BYE goes to ring 10 of port 28, which has no link, so the frame completes at once and is counted
(R111), on top of the 3 that `portWrite` has just set. -/
theorem strayPort_pitchStart : tfind (strayPort.pitchStart false).dict.eff (O.ringFrames.key (16 * 28 + 10)) = some (.num 4) := by
  decide +kernel

/-- Refutes O51: the premises keep the ports of the streams below 4, not those of the encode contexts. In `strayPort` the one due
write of class PIT sets the port of stream 10 to 3, and after the pitch starts the register holds 4. -/
theorem not_pitchStarts : ¬ Obligations.PitchStarts := by
  intro h
  have hpend : ∀ x ∈ strayPort.pendOf 2, x = portWrite := by decide
  obtain ⟨halive, hgrid⟩ := strayPort_due
  have hstart := h ⟨strayPort, [], []⟩ 0 false
  rw [strayPort_tick] at hstart
  obtain ⟨-, -, -, htaken, -⟩ := pitchStart_of_gives strayPort_tick halive hgrid <|
    hstart halive hgrid rfl rfl strayPort_streamPort fun x hx _ => by rw [hpend x hx]; decide
  obtain ⟨heff, -⟩ := htaken portWrite (by decide) (by decide) (by decide) (by decide) fun x hx _ _ => hpend x hx
  have hclash := strayPort_pitchStart
  rw [ringFrames_key_of_port28] at hclash
  exact absurd (heff.symm.trans hclash) (by decide)

end Sys2Proof.Machine

/-! PROOFS of the family '01_architecture.md': a late fetch and a failed pipe self-check (R35, R171); calibration of the lanes and
the loss of the common reference (R30, R235, R236). -/

namespace Sys2Proof.Machine

/-! ### What reporting appends to the events -/

/-- From `d` to `e` at most `n` records were appended to the events, and no time passed. -/
def Dev.records (n : Nat) (d e : Dev) : Prop :=
  e.clock = d.clock ∧ ∃ l, l.length ≤ n ∧ e.dict.events = d.dict.events ++ l

theorem Dev.records_of_events_eq {d e : Dev} (hc : e.clock = d.clock) (h : e.dict.events = d.dict.events) : Dev.records 0 d e :=
  ⟨hc, [], Nat.le_refl 0, by rw [h, List.append_nil]⟩

theorem Dev.records.trans {m n : Nat} {a b c : Dev} (h : Dev.records m a b) (g : Dev.records n b c) :
    Dev.records (m + n) a c := by
  obtain ⟨hc, l, hl, he⟩ := h
  obtain ⟨gc, k, hk, ge⟩ := g
  refine ⟨gc.trans hc, l ++ k, ?_, by rw [ge, he, List.append_assoc]⟩
  rw [List.length_append]
  exact Nat.add_le_add hl hk

/-- Room for `m` records more than were appended is room for `m` after them. -/
theorem Dev.records.evFree {m n : Nat} {d e : Dev} (h : Dev.records n d e) (hf : d.evFree (n + m) = true) :
    e.evFree m = true := by
  obtain ⟨-, l, hl, he⟩ := h
  simp only [Dev.evFree, decide_eq_true_eq] at hf ⊢
  rw [he, List.length_append]
  omega

theorem Dev.evFree_mono {d : Dev} {m n : Nat} (h : m ≤ n) (hf : d.evFree n = true) : d.evFree m = true := by
  simp only [Dev.evFree, decide_eq_true_eq] at hf ⊢
  omega

theorem Dev.evRoom_of_evFree {d : Dev} (hf : d.evFree 1 = true) : d.evRoom = true := by
  simp only [Dev.evFree, Dev.evRoom, decide_eq_true_eq] at hf ⊢
  omega

@[simp] theorem Dev.raise_clock (d : Dev) (c p0 p1 p2 p3 : Nat) : (d.raise c p0 p1 p2 p3).clock = d.clock :=
  Dev.of_bare (·.clock) (fun _ => rfl) (Dev.bare_raise d c p0 p1 p2 p3)

@[simp] theorem Dev.raise_heads (d : Dev) (c p0 p1 p2 p3 : Nat) : (d.raise c p0 p1 p2 p3).heads = d.heads :=
  Dev.of_bare (·.heads) (fun _ => rfl) (Dev.bare_raise d c p0 p1 p2 p3)

@[simp] theorem Dev.raise_layers (d : Dev) (c p0 p1 p2 p3 : Nat) : (d.raise c p0 p1 p2 p3).layers = d.layers :=
  Dev.of_bare (·.layers) (fun _ => rfl) (Dev.bare_raise d c p0 p1 p2 p3)

@[simp] theorem Dev.raise_pipes (d : Dev) (c p0 p1 p2 p3 : Nat) : (d.raise c p0 p1 p2 p3).pipes = d.pipes :=
  Dev.of_bare (·.pipes) (fun _ => rfl) (Dev.bare_raise d c p0 p1 p2 p3)

@[simp] theorem Dev.raise_links (d : Dev) (c p0 p1 p2 p3 : Nat) : (d.raise c p0 p1 p2 p3).links = d.links :=
  Dev.of_bare (·.links) (fun _ => rfl) (Dev.bare_raise d c p0 p1 p2 p3)

@[simp] theorem Dev.raise_rope (d : Dev) (c p0 p1 p2 p3 : Nat) : (d.raise c p0 p1 p2 p3).rope = d.rope :=
  Dev.of_bare (·.rope) (fun _ => rfl) (Dev.bare_raise d c p0 p1 p2 p3)

theorem Dev.records_raise {d : Dev} (c p0 p1 p2 p3 : Nat) (hf : d.evFree 1 = true) : Dev.records 1 d (d.raise c p0 p1 p2 p3) :=
  ⟨Dev.raise_clock d c p0 p1 p2 p3, [_], Nat.le_refl 1, Dev.raise_events d c p0 p1 p2 p3 (Dev.evRoom_of_evFree hf)⟩

theorem Dev.logs_raise {d : Dev} (c p0 p1 p2 p3 : Nat) (hf : d.evFree 1 = true) : d.logs (d.raise c p0 p1 p2 p3) c p0 p1 :=
  ⟨_, Dev.raise_events d c p0 p1 p2 p3 (Dev.evRoom_of_evFree hf), _, List.mem_singleton_self _, rfl, rfl, rfl,
    (Dev.raise_clock d c p0 p1 p2 p3).symm⟩

/-- What was logged stays logged. -/
theorem Dev.logs.then_records {n c p0 p1 : Nat} {d e f : Dev} (h : d.logs e c p0 p1) (g : Dev.records n e f) :
    d.logs f c p0 p1 := by
  obtain ⟨l, he, x, hx, hcode, h0, h1, ht⟩ := h
  obtain ⟨gc, k, -, ge⟩ := g
  exact ⟨l ++ k, by rw [ge, he, List.append_assoc], x, List.mem_append_left _ hx, hcode, h0, h1, ht.trans gc.symm⟩

/-- What is logged after other records is logged. -/
theorem Dev.records.then_logs {n c p0 p1 : Nat} {d e f : Dev} (h : Dev.records n d e) (g : e.logs f c p0 p1) :
    d.logs f c p0 p1 := by
  obtain ⟨-, l, -, he⟩ := h
  obtain ⟨k, ge, x, hx, hx'⟩ := g
  exact ⟨l ++ k, by rw [ge, he, List.append_assoc], x, List.mem_append_right _ hx, hx'⟩

/-! ### Registers that reporting keeps -/

theorem Dev.quiet.regsBut {d e : Dev} (h : d.quiet e) (ks : List Nat) : d.regsBut ks e := fun k _ hk => h k hk

theorem Dev.quiet.rn {d e : Dev} (h : d.quiet e) {o : Obj} {i j : Nat} (hk : reportKey (o.key i j) = false) :
    e.rn o i j = d.rn o i j := Dev.rn_congr (h _ hk)

theorem Dev.gradeHeads_le (d : Dev) : d.gradeHeads ≤ 32 := by
  unfold Dev.gradeHeads
  repeat' split
  all_goals decide

/-- The grade is read from the product code alone. -/
theorem Dev.allHeads_congr {d e : Dev} (h : e.rn O.identityProductCode = d.rn O.identityProductCode) : e.allHeads = d.allHeads := by
  rw [Dev.allHeads, Dev.allHeads, Dev.gradeHeads, Dev.gradeHeads, h]

/-! ### A command whose condition holds -/

/-- What a command that works on the device alone gives where its condition holds of the device at its instant. -/
theorem State.gives_when {s : State} {c : Instr} {t : Nat} {b : Dev → Bool} {f : Dev → Dev} {P : Dev → Prop} {d : Dev}
    (hd : s.dev.tick t = d) (h : exec c s = s.run t fun d => d.when (b d) f) (hb : b d = true) (p : P (f d)) : s.gives c P := by
  subst hd
  exact State.gives_run h (by rwa [Dev.when_pos f hb])

/-! ### A fault of a pipe without a retry open (R171) -/

/-- PIPE_FAULT is raised for each of some heads of a pipe. -/
def Dev.reportPipe (d : Dev) (k : Nat) (hs : List Nat) : Dev := hs.foldl (fun d h => d.raise Code.pipeFault k h) d

theorem Dev.reportPipe_cons (d : Dev) (k h : Nat) (hs : List Nat) :
    d.reportPipe k (h :: hs) = (d.raise Code.pipeFault k h).reportPipe k hs := rfl

@[simp] theorem Dev.bare_reportPipe (d : Dev) (k : Nat) (hs : List Nat) : (d.reportPipe k hs).bare = d.bare :=
  Dev.bare_foldl _ (fun _ _ => Dev.bare_raise ..) hs d

theorem Dev.quiet_reportPipe (d : Dev) (k : Nat) (hs : List Nat) : d.quiet (d.reportPipe k hs) :=
  Dev.quiet_foldl _ (fun d h => Dev.quiet_raise d Code.pipeFault k h 0 0) hs d

theorem Dev.records_reportPipe {d : Dev} (k : Nat) {hs : List Nat} (hf : d.evFree hs.length = true) :
    Dev.records hs.length d (d.reportPipe k hs) := by
  induction hs generalizing d with
  | nil => exact Dev.records_of_events_eq rfl rfl
  | cons h hs ih =>
    rw [List.length_cons, Nat.add_comm] at hf ⊢
    have hraise := Dev.records_raise Code.pipeFault k h 0 0 (Dev.evFree_mono (Nat.le_add_right 1 _) hf)
    exact hraise.trans (ih (hraise.evFree hf))

theorem Dev.logs_reportPipe {d : Dev} (k : Nat) {hs : List Nat} (hf : d.evFree hs.length = true) {h : Nat} (hh : h ∈ hs) :
    d.logs (d.reportPipe k hs) Code.pipeFault k h := by
  induction hs generalizing d with
  | nil => exact absurd hh List.not_mem_nil
  | cons a hs ih =>
    rw [List.length_cons, Nat.add_comm] at hf
    have hroom := Dev.evFree_mono (Nat.le_add_right 1 _) hf
    have hraise := Dev.records_raise Code.pipeFault k a 0 0 hroom
    rw [Dev.reportPipe_cons]
    rcases List.mem_cons.mp hh with rfl | hh
    · exact (Dev.logs_raise Code.pipeFault k h 0 0 hroom).then_records (Dev.records_reportPipe k (hraise.evFree hf))
    · exact hraise.then_logs (ih (hraise.evFree hf) hh)

/-- The first fault of a pipe opens its retry, with each head reported. -/
def Dev.openRetry (d : Dev) (k : Nat) (hs faulted : List Nat) (bank : Option Nat) : Dev :=
  (d.reportPipe k hs).modPp k fun p => { p with retry := some ⟨faulted, hs, bank, hs.headD 0xFF⟩ }

theorem Dev.pipeFault_eq_openRetry {d : Dev} {k : Nat} {hs : List Nat} (faulted : List Nat) (bank : Option Nat)
    (hretry : (d.pp k).retry = none) (hhs : hs ≠ []) : d.pipeFault k hs faulted bank = d.openRetry k hs faulted bank := by
  have hne : hs.isEmpty = false := by simpa using hhs
  simp only [Dev.pipeFault, hretry, hne, Bool.false_eq_true, if_false]
  rfl

@[simp] theorem Dev.bare_openRetry (d : Dev) (k : Nat) (hs faulted : List Nat) (bank : Option Nat) :
    (d.openRetry k hs faulted bank).bare = { d.bare with pipes := (d.openRetry k hs faulted bank).pipes } := by
  rw [← Dev.bare_reportPipe d k hs]
  rfl

@[simp] theorem Dev.heads_openRetry (d : Dev) (k : Nat) (hs faulted : List Nat) (bank : Option Nat) :
    (d.openRetry k hs faulted bank).heads = d.heads := by
  rw [Dev.openRetry, Dev.modPp_heads]
  exact Dev.of_bare (·.heads) (fun _ => rfl) (Dev.bare_reportPipe d k hs)

@[simp] theorem Dev.layers_openRetry (d : Dev) (k : Nat) (hs faulted : List Nat) (bank : Option Nat) :
    (d.openRetry k hs faulted bank).layers = d.layers := by
  rw [Dev.openRetry, Dev.modPp_layers]
  exact Dev.of_bare (·.layers) (fun _ => rfl) (Dev.bare_reportPipe d k hs)

theorem Dev.retry_openRetry (d : Dev) (k : Nat) (hs faulted : List Nat) (bank : Option Nat) :
    ((d.openRetry k hs faulted bank).pp k).retry = some ⟨faulted, hs, bank, hs.headD 0xFF⟩ := by
  rw [Dev.openRetry, Dev.pp_modPp]

theorem Dev.quiet_openRetry (d : Dev) (k : Nat) (hs faulted : List Nat) (bank : Option Nat) :
    d.quiet (d.openRetry k hs faulted bank) := Dev.quiet_reportPipe d k hs

theorem Dev.records_openRetry {d : Dev} (k : Nat) {hs : List Nat} (faulted : List Nat) (bank : Option Nat)
    (hf : d.evFree hs.length = true) : Dev.records hs.length d (d.openRetry k hs faulted bank) := Dev.records_reportPipe k hf

theorem Dev.logs_openRetry {d : Dev} (k : Nat) {hs : List Nat} (faulted : List Nat) (bank : Option Nat)
    (hf : d.evFree hs.length = true) {h : Nat} (hh : h ∈ hs) : d.logs (d.openRetry k hs faulted bank) Code.pipeFault k h :=
  Dev.logs_reportPipe k hf hh

/-! ### A late fetch (R35) -/

/-- Every layer of a list is marked late. -/
def Dev.layersLate (d : Dev) (ls : List VLayer) : Dev :=
  ls.foldl (fun (d : Dev) l => d.modLy l.1 fun y => { y with underflow := true }) d

theorem Dev.layersLate_eq (d : Dev) (ls : List VLayer) : d.layersLate ls = { d with layers := (d.layersLate ls).layers } := by
  induction ls generalizing d with
  | nil => rfl
  | cons l ls ih => exact (ih (d.modLy l.1 fun y => { y with underflow := true })).trans rfl

theorem Dev.dict_layersLate (d : Dev) (ls : List VLayer) : (d.layersLate ls).dict = d.dict :=
  (congrArg Dev.dict (Dev.layersLate_eq d ls) :)

theorem Dev.heads_layersLate (d : Dev) (ls : List VLayer) : (d.layersLate ls).heads = d.heads :=
  (congrArg Dev.heads (Dev.layersLate_eq d ls) :)

theorem Dev.underflow_layersLate {d : Dev} {ls : List VLayer} {n : Nat}
    (h : (d.ly n).underflow = true ∨ ∃ l ∈ ls, l.1 = n) : ((d.layersLate ls).ly n).underflow = true := by
  induction ls generalizing d with
  | nil => exact h.resolve_right fun ⟨l, hl, _⟩ => List.not_mem_nil hl
  | cons l ls ih =>
    refine ih ?_
    by_cases hn : n = l.1
    · subst hn
      exact .inl (by rw [Dev.ly_modLy])
    · rw [Dev.ly_modLy_ne _ _ hn]
      refine h.imp_right fun ⟨m, hm, hmn⟩ => ⟨m, ?_, hmn⟩
      exact (List.mem_cons.mp hm).resolve_left fun e => hn (by rw [← hmn, e])

/-- The marks of a late fetch: the run of pixels on the head, and every layer of the head on the line. -/
def Dev.markLate (d : Dev) (h line x0 x1 : Nat) : Dev :=
  (d.modHd h fun x => { x with under := x.under ++ [(line, x0, x1)] }).layersLate
    ((d.vlayers h).filter fun l => l.2.2.y0 ≤ line && line < l.2.2.y1)

theorem exec_scanoutUnderflow (t : Nat) (h : Fin 32) (line x0 x1 : Nat) (s : State) :
    exec (.scanoutUnderflow t h line x0 x1) s =
      s.run t fun d => d.when (d.alive && d.composed h && (d.hd h).inFrame) fun d =>
        let m := d.markLate h line x0 x1
        (m.raise Code.scanoutUnderflow h).pipeFault (m.rn O.headPipe h) [h] [h.val] none := rfl

theorem Dev.markLate_eq (d : Dev) (h line x0 x1 : Nat) :
    d.markLate h line x0 x1 =
      { d with heads := (d.markLate h line x0 x1).heads, layers := (d.markLate h line x0 x1).layers } := by
  unfold Dev.markLate
  rw [Dev.heads_layersLate]
  exact Dev.layersLate_eq _ _

theorem Dev.dict_markLate (d : Dev) (h line x0 x1 : Nat) : (d.markLate h line x0 x1).dict = d.dict := Dev.dict_layersLate _ _

theorem Dev.bare_markLate (d : Dev) (h line x0 x1 : Nat) :
    (d.markLate h line x0 x1).bare =
      { d.bare with heads := (d.markLate h line x0 x1).heads, layers := (d.markLate h line x0 x1).layers } :=
  (congrArg Dev.bare (Dev.markLate_eq d h line x0 x1) :)

theorem Dev.hd_markLate (d : Dev) (h line x0 x1 : Nat) :
    (d.markLate h line x0 x1).hd h = { d.hd h with under := (d.hd h).under ++ [(line, x0, x1)] } := by
  rw [Dev.hd, Dev.markLate, Dev.heads_layersLate]
  exact Dev.hd_modHd d h _

theorem Dev.ly_markLate {d : Dev} {h line : Nat} (x0 x1 : Nat) {l : VLayer} (hl : l ∈ d.vlayers h) (h0 : l.2.2.y0 ≤ line)
    (h1 : line < l.2.2.y1) : ((d.markLate h line x0 x1).ly l.1).underflow = true :=
  Dev.underflow_layersLate (.inr ⟨l, List.mem_filter.mpr ⟨hl, by simp [h0, h1]⟩, rfl⟩)

/-- What a late fetch does while the head's pipe has no retry open. -/
def Dev.lateFetch (d : Dev) (h line x0 x1 : Nat) : Dev :=
  ((d.markLate h line x0 x1).raise Code.scanoutUnderflow h).openRetry (d.rn O.headPipe h) [h] [h] none

theorem Dev.pipeFault_markLate {d : Dev} {h : Nat} (line x0 x1 : Nat) (hretry : (d.pp (d.rn O.headPipe h)).retry = none) :
    ((d.markLate h line x0 x1).raise Code.scanoutUnderflow h).pipeFault ((d.markLate h line x0 x1).rn O.headPipe h) [h] [h] none
      = d.lateFetch h line x0 x1 := by
  have hpipe : (d.markLate h line x0 x1).rn O.headPipe h = d.rn O.headPipe h :=
    Dev.rn_congr (by rw [Dev.dict_markLate])
  have hpp : ((d.markLate h line x0 x1).raise Code.scanoutUnderflow h).pp (d.rn O.headPipe h) = d.pp (d.rn O.headPipe h) := by
    rw [Dev.pp, Dev.raise_pipes, Dev.markLate_eq]
    rfl
  rw [hpipe]
  exact Dev.pipeFault_eq_openRetry [h] none (by rw [hpp, hretry]) (List.cons_ne_nil h [])

theorem Dev.heads_lateFetch (d : Dev) (h line x0 x1 : Nat) :
    (d.lateFetch h line x0 x1).heads = (d.markLate h line x0 x1).heads := by
  rw [Dev.lateFetch, Dev.heads_openRetry, Dev.raise_heads]

theorem Dev.layers_lateFetch (d : Dev) (h line x0 x1 : Nat) :
    (d.lateFetch h line x0 x1).layers = (d.markLate h line x0 x1).layers := by
  rw [Dev.lateFetch, Dev.layers_openRetry, Dev.raise_layers]

theorem Dev.bare_lateFetch (d : Dev) (h line x0 x1 : Nat) :
    (d.lateFetch h line x0 x1).bare = { d.bare with
      heads := (d.lateFetch h line x0 x1).heads, layers := (d.lateFetch h line x0 x1).layers
      pipes := (d.lateFetch h line x0 x1).pipes } := by
  rw [Dev.heads_lateFetch, Dev.layers_lateFetch]
  refine (Dev.bare_openRetry _ _ _ _ _).trans ?_
  rw [Dev.bare_raise, Dev.bare_markLate]
  rfl

theorem Dev.quiet_lateFetch (d : Dev) (h line x0 x1 : Nat) : d.quiet (d.lateFetch h line x0 x1) := by
  have hmark : d.quiet (d.markLate h line x0 x1) := fun k _ => by rw [Dev.dict_markLate]
  exact (hmark.trans (Dev.quiet_raise _ _ _ _ _ _)).trans (Dev.quiet_openRetry _ _ _ _ _)

/-- Both codes of a late fetch are logged. -/
theorem Dev.logs_lateFetch {d : Dev} (h line x0 x1 : Nat) (hfree : d.evFree 2 = true) :
    d.logs (d.lateFetch h line x0 x1) Code.scanoutUnderflow h 0 ∧
      d.logs (d.lateFetch h line x0 x1) Code.pipeFault (d.rn O.headPipe h) h := by
  have hmark : Dev.records 0 d (d.markLate h line x0 x1) :=
    Dev.records_of_events_eq (congrArg Dev.clock (Dev.markLate_eq d h line x0 x1) :) (by rw [Dev.dict_markLate])
  have hmfree : (d.markLate h line x0 x1).evFree (1 + 1) = true := hmark.evFree hfree
  have hroom := Dev.evFree_mono (Nat.le_succ 1) hmfree
  have hraise := Dev.records_raise Code.scanoutUnderflow h 0 0 0 hroom
  have hrfree := hraise.evFree hmfree
  refine ⟨hmark.then_logs ?_, hmark.then_logs (hraise.then_logs ?_)⟩
  · exact (Dev.logs_raise Code.scanoutUnderflow h 0 0 0 hroom).then_records
      (Dev.records_openRetry (hs := [h]) _ [h] none hrfree)
  · exact Dev.logs_openRetry _ [h] none hrfree (List.mem_singleton_self h)

theorem underflowMarks : Claims.UnderflowMarks := by
  intro s t h line x0 x1 d halive hcomp hframe hretry hfree
  refine State.gives_when (d := d) rfl (exec_scanoutUnderflow t h line x0 x1 s) (by simp [halive, hcomp, hframe]) ?_
  rw [Dev.pipeFault_markLate line x0 x1 hretry]
  obtain ⟨hunder, hfault⟩ := Dev.logs_lateFetch h line x0 x1 hfree
  refine ⟨?_, fun l hl h0 h1 => ?_, hunder, hfault, ?_, Dev.bare_lateFetch d h line x0 x1, ?_⟩
  · rw [Dev.hd, Dev.heads_lateFetch]
    exact Dev.hd_markLate d h line x0 x1
  · rw [Dev.ly, Dev.layers_lateFetch]
    exact Dev.ly_markLate x0 x1 hl h0 h1
  · exact Dev.retry_openRetry _ _ _ _ _
  · exact (Dev.quiet_lateFetch d h line x0 x1).regsBut []

/-! ### A failed self-check of a pipe (R171) -/

/-- The heads of a failed pipe are overdrawn from the line in production, or from their next frame on. -/
def Dev.overdrawHeads (d : Dev) (hs : List Nat) : Dev :=
  hs.foldl (fun (d : Dev) h => d.modHd h fun x => match d.lineNow h with
    | some y => { x with faultLine := some (match x.faultLine with
        | some z => min y z
        | none => y) }
    | none => { x with faultNext := true }) d

theorem exec_pipeSelfCheckFail (t : Nat) (k : Fin 18) (bank : Option (Fin 17)) (s : State) :
    exec (.pipeSelfCheckFail t k bank) s =
      s.run t fun d => d.when (d.alive && d.pipeState k == .active) fun d =>
        let hs := (d.onPipe k).filter d.composed
        (d.overdrawHeads hs).pipeFault k hs hs (bank.map (·.val)) := rfl

theorem Dev.overdrawHeads_eq (d : Dev) (hs : List Nat) :
    d.overdrawHeads hs = { d with heads := (d.overdrawHeads hs).heads } := by
  induction hs generalizing d with
  | nil => rfl
  | cons h hs ih => exact (ih _).trans rfl

theorem Dev.dict_overdrawHeads (d : Dev) (hs : List Nat) : (d.overdrawHeads hs).dict = d.dict :=
  (congrArg Dev.dict (Dev.overdrawHeads_eq d hs) :)

theorem Dev.bare_overdrawHeads (d : Dev) (hs : List Nat) :
    (d.overdrawHeads hs).bare = { d.bare with heads := (d.overdrawHeads hs).heads } :=
  (congrArg Dev.bare (Dev.overdrawHeads_eq d hs) :)

theorem Dev.records_overdrawHeads (d : Dev) (hs : List Nat) : Dev.records 0 d (d.overdrawHeads hs) :=
  Dev.records_of_events_eq (congrArg Dev.clock (Dev.overdrawHeads_eq d hs) :) (by rw [Dev.dict_overdrawHeads])

theorem Dev.pipeFault_overdrawHeads {d : Dev} {k : Nat} {hs : List Nat} (faulted : List Nat) (bank : Option Nat)
    (hretry : (d.pp k).retry = none) (hhs : hs ≠ []) :
    (d.overdrawHeads hs).pipeFault k hs faulted bank = (d.overdrawHeads hs).openRetry k hs faulted bank := by
  refine Dev.pipeFault_eq_openRetry faulted bank ?_ hhs
  rw [Dev.overdrawHeads_eq]
  exact hretry

/-- A pipe has no more heads than the device has. -/
theorem Dev.length_onPipe_le (d : Dev) (k : Nat) (p : Nat → Bool) : ((d.onPipe k).filter p).length ≤ 32 :=
  calc ((d.onPipe k).filter p).length
    _ ≤ (d.onPipe k).length := List.length_filter_le _ _
    _ ≤ d.allHeads.length := List.length_filter_le _ _
    _ = d.gradeHeads := List.length_range
    _ ≤ 32 := d.gradeHeads_le

theorem selfCheckRetries : Claims.SelfCheckRetries := by
  intro s t k bank d halive hactive hretry hheads hfree
  refine State.gives_when (d := d) rfl (exec_pipeSelfCheckFail t k bank s) (by simp [halive, hactive]) ?_
  rw [Dev.pipeFault_overdrawHeads _ _ hretry hheads]
  have hdict := Dev.dict_overdrawHeads d ((d.onPipe k).filter d.composed)
  have hrec := Dev.records_overdrawHeads d ((d.onPipe k).filter d.composed)
  have hroom := hrec.evFree (by rw [Nat.zero_add]; exact Dev.evFree_mono (d.length_onPipe_le k d.composed) hfree)
  refine ⟨fun h hh hcomp => ?_, ⟨_, Dev.retry_openRetry _ _ _ _ _, rfl, rfl, rfl⟩, ?_, ?_⟩
  · exact hrec.then_logs (Dev.logs_openRetry _ _ _ hroom (List.mem_filter.mpr ⟨hh, hcomp⟩))
  · rw [Dev.heads_openRetry, Dev.bare_openRetry, Dev.bare_overdrawHeads]
  · have hquiet : d.quiet (d.overdrawHeads ((d.onPipe k).filter d.composed)) := fun _ _ => by rw [hdict]
    exact (hquiet.trans (Dev.quiet_openRetry _ _ _ _ _)).regsBut []

/-- Settles O11: neither fault finds a retry open, so each opens one on its pipe (`Dev.pipeFault_eq_openRetry`); what it marks
before stays on the heads and the layers. -/
theorem scanoutFaults : Obligations.ScanoutFaults := ⟨underflowMarks, selfCheckRetries⟩

/-! ### Calibration of the lanes (R235, R236) -/

/-- What a calibration measurement does to a lane. -/
def Dev.calibrateLane (d : Dev) (lane f1 f2 eye : Nat) : Dev :=
  if lane < 64 then d.modLn lane fun l => { l with correction := some (0, 0) }
  else if gapOf f1 f2 ≤ 8 && 2 * (d.ln72 lane).fom < f1 + f2 then
    (d.modLn lane fun l => { l with correction := some ((f1 + f2) / 2 % 256, min 128 eye) }).bump O.laneCalAccepted lane
  else d.bump O.laneCalRejected lane

theorem exec_laneCalibrationTimer (t : Nat) (lane : Fin 72) (f1 f2 eye : Nat) (s : State) :
    exec (.laneCalibrationTimer t lane f1 f2 eye) s =
      s.run t fun d => d.when d.alive fun d => d.calibrateLane lane f1 f2 eye := rfl

/-- A lane takes the correction that waits for blanking. -/
def Dev.applyCorrection (d : Dev) (lane : Nat) : Dev :=
  match (d.ln72 lane).correction with
  | some (fom, eye) => d.modLn lane fun _ => { fom := fom, eye := eye, correction := none }
  | none => d

theorem exec_laneCorrectionApply (t : Nat) (lane : Fin 72) (s : State) : exec (.laneCorrectionApply t lane) s =
    s.run t fun d => d.when (d.alive && d.laneBlank lane) fun d => d.applyCorrection lane := rfl

theorem Dev.applyCorrection_some {d : Dev} {lane fom eye : Nat} (h : (d.ln72 lane).correction = some (fom, eye)) :
    d.applyCorrection lane = d.modLn lane fun _ => ⟨fom, eye, none⟩ := by
  rw [Dev.applyCorrection, h]

theorem Dev.calibrateLane_transmit {d : Dev} {lane : Nat} (f1 f2 eye : Nat) (h : lane < 64) :
    d.calibrateLane lane f1 f2 eye = d.modLn lane fun l => { l with correction := some (0, 0) } := if_pos h

theorem Dev.calibrateLane_better {d : Dev} {lane f1 f2 : Nat} (eye : Nat) (h : 64 ≤ lane) (hgap : gapOf f1 f2 ≤ 8)
    (hfom : 2 * (d.ln72 lane).fom < f1 + f2) :
    d.calibrateLane lane f1 f2 eye =
      (d.modLn lane fun l => { l with correction := some ((f1 + f2) / 2 % 256, min 128 eye) }).bump O.laneCalAccepted lane := by
  simp [Dev.calibrateLane, Nat.not_lt.mpr h, hgap, hfom]

theorem Dev.calibrateLane_rejected {d : Dev} {lane f1 f2 : Nat} (eye : Nat) (h : 64 ≤ lane)
    (hworse : ¬(gapOf f1 f2 ≤ 8 ∧ 2 * (d.ln72 lane).fom < f1 + f2)) :
    d.calibrateLane lane f1 f2 eye = d.bump O.laneCalRejected lane := by
  simp only [Dev.calibrateLane, Nat.not_lt.mpr h, if_false, ← Bool.decide_and, decide_eq_true_eq, hworse]

@[simp] theorem Dev.bump_lanes (d : Dev) (o : Obj) (i : Nat) : (d.bump o i).lanes = d.lanes :=
  Dev.of_bare (·.lanes) (fun _ => rfl) (Dev.bare_bump d o i)

/-- From `d` to `e` one lane may have changed with its counts of calibrations, and nothing else. -/
def Dev.laneOnly (lane : Nat) (d e : Dev) : Prop :=
  (∀ o, o ≠ lane → e.ln72 o = d.ln72 o) ∧ e.bare = { d.bare with lanes := e.lanes } ∧
    d.regsJust [O.laneCalAccepted.key lane, O.laneCalRejected.key lane] e

theorem Dev.laneOnly_self (lane : Nat) (d : Dev) : Dev.laneOnly lane d d := ⟨fun _ _ => rfl, rfl, fun _ _ => rfl⟩

theorem Dev.laneOnly_modLn (d : Dev) (lane : Nat) (f : Lane → Lane) : Dev.laneOnly lane d (d.modLn lane f) :=
  ⟨fun _ ho => Dev.ln72_modLn_ne d f ho, rfl, fun _ _ => rfl⟩

theorem Dev.laneOnly.bump {lane : Nat} {d e : Dev} (h : Dev.laneOnly lane d e) {o : Obj}
    (ho : o.key lane ∈ [O.laneCalAccepted.key lane, O.laneCalRejected.key lane]) : Dev.laneOnly lane d (e.bump o lane) := by
  obtain ⟨hlanes, hbare, hregs⟩ := h
  refine ⟨fun n hn => ?_, ?_, fun k hk => ?_⟩
  · rw [Dev.ln72, Dev.bump_lanes]
    exact hlanes n hn
  · rw [Dev.bare_bump, Dev.bump_lanes, hbare]
  · exact (Dev.bump_regs _ _ _ fun heq => hk (by rwa [heq])).trans (hregs k hk)

theorem Dev.laneOnly_calibrateLane (d : Dev) (lane f1 f2 eye : Nat) : Dev.laneOnly lane d (d.calibrateLane lane f1 f2 eye) := by
  unfold Dev.calibrateLane
  split
  · exact d.laneOnly_modLn lane _
  · split
    · exact (d.laneOnly_modLn lane _).bump (by simp)
    · exact (Dev.laneOnly_self lane d).bump (by simp)

theorem laneCalibrates : Claims.LaneCalibrates := by
  intro s t lane f1 f2 eye d better halive
  refine ⟨?_, fun fom w hblank hcorr => ?_⟩
  · refine State.gives_when (d := d) rfl (exec_laneCalibrationTimer t lane f1 f2 eye s) halive ?_
    refine ⟨fun h => ?_, fun h ⟨hgap, hfom⟩ => ?_, fun h hworse => ?_, Dev.laneOnly_calibrateLane d lane f1 f2 eye⟩
    · rw [Dev.calibrateLane_transmit f1 f2 eye h]
      exact ⟨rfl, rfl⟩
    · rw [Dev.calibrateLane_better eye h hgap hfom, Dev.ln72, Dev.bump_lanes, ← Dev.ln72, Dev.ln72_modLn]
      exact ⟨rfl, rfl, Dev.rn_bump _ _ _ (by decide)⟩
    · rw [Dev.calibrateLane_rejected eye h hworse]
      exact ⟨Dev.bump_lanes _ _ _, Dev.rn_bump _ _ _ (by decide)⟩
  · refine State.gives_when (d := d) rfl (exec_laneCorrectionApply t lane s) (by simp [halive, hblank]) ?_
    rw [Dev.applyCorrection_some hcorr]
    exact ⟨Dev.ln72_modLn _ _ _, fun o ho => Dev.ln72_modLn_ne _ _ ho, rfl⟩

/-! ### Loss of lock of a link in use (R232) -/

theorem Dev.linkTo_eq (d : Dev) (h : Nat) (st : LinkState) :
    d.linkTo h st = { d with heads := (d.linkTo h st).heads, links := (d.linkTo h st).links } := by
  unfold Dev.linkTo
  dsimp only
  split <;> rfl

theorem Dev.lk_linkTo (d : Dev) (h : Nat) (st : LinkState) : (d.linkTo h st).lk h = { d.lk h with state := st } := by
  unfold Dev.linkTo
  dsimp only
  rw [Dev.lk_modLk]
  split <;> rfl

/-- The stream of a link that leaves RUNNING stops. -/
theorem Dev.emitting_linkTo {d : Dev} {h : Nat} {st : LinkState} (hrun : (d.lk h).state = .running) (hst : st ≠ .running) :
    ((d.linkTo h st).hd h).emitting = false := by
  have hleaves : ((d.lk h).state == .running && st != .running) = true := by simp [hrun, hst]
  rw [Dev.linkTo, if_pos hleaves, Dev.hd, Dev.modLk_heads, ← Dev.hd, Dev.hd_modHd]

theorem Dev.linkTo_other (d : Dev) {h j : Nat} (st : LinkState) (hj : j ≠ h) :
    (d.linkTo h st).lk j = d.lk j ∧ (d.linkTo h st).hd j = d.hd j := by
  unfold Dev.linkTo
  dsimp only
  rw [Dev.lk_modLk_ne _ _ hj, Dev.hd, Dev.modLk_heads, ← Dev.hd]
  split
  · exact ⟨rfl, Dev.hd_modHd_ne d _ hj⟩
  · exact ⟨rfl, rfl⟩

/-- A loss of lock changes nothing, or the link leaves RUNNING to train again. -/
theorem Dev.lockLoss_cases (d : Dev) (h : Nat) (out : List Nat) :
    d.lockLoss h out = d ∨ ∃ f, d.lockLoss h out = (d.linkTo h .training).modLk h f := by
  unfold Dev.lockLoss
  split
  · split
    · exact .inl rfl
    · exact .inr ⟨_, rfl⟩
  · exact .inl rfl

theorem Dev.lockLoss_eq (d : Dev) (h : Nat) (out : List Nat) :
    d.lockLoss h out = { d with heads := (d.lockLoss h out).heads, links := (d.lockLoss h out).links } := by
  rcases Dev.lockLoss_cases d h out with hkeep | ⟨f, hretry⟩
  · rw [hkeep]
  · rw [hretry, Dev.linkTo_eq]
    rfl

theorem Dev.lockLoss_other (d : Dev) {h j : Nat} (out : List Nat) (hj : j ≠ h) :
    (d.lockLoss h out).lk j = d.lk j ∧ (d.lockLoss h out).hd j = d.hd j := by
  rcases Dev.lockLoss_cases d h out with hkeep | ⟨f, hretry⟩
  · rw [hkeep]
    exact ⟨rfl, rfl⟩
  · rw [hretry, Dev.lk_modLk_ne _ _ hj, Dev.hd, Dev.modLk_heads]
    exact Dev.linkTo_other d .training hj

/-- A link in use that loses lanes starts the retry of the same candidate, and its stream stops. -/
theorem Dev.lockLoss_retries {d : Dev} {h : Nat} {out : List Nat} {c : Cand} (hrun : (d.lk h).state = .running)
    (hcur : (d.lk h).cur = some c) (hout : out ≠ []) :
    ((d.lockLoss h out).lk h).state = .training ∧ ((d.lockLoss h out).lk h).sameRetry = true ∧
      ((d.lockLoss h out).hd h).emitting = false := by
  have hne : out.isEmpty = false := by simpa using hout
  have hretry : d.lockLoss h out = (d.linkTo h .training).modLk h fun l => { l with
      cands := [c], phase := 0, tookPart := [], lockSeen := [], sameRetry := true, lossOf := out } := by
    simp [Dev.lockLoss, hrun, hcur, hne]
  rw [hretry, Dev.lk_modLk, Dev.lk_linkTo, Dev.hd, Dev.modLk_heads]
  exact ⟨rfl, rfl, Dev.emitting_linkTo hrun (by decide)⟩

/-! ### Loss of the common reference (R30) -/

/-- The lanes a link runs on. -/
def Dev.lanesInUse (d : Dev) (h : Nat) : List Nat := List.range (((d.lk h).cur.map (·.lanes)).getD 0)

/-- Every lane in use of some heads loses lock. -/
def Dev.loseLocks (d : Dev) (hs : List Nat) : Dev := hs.foldl (fun (d : Dev) h => d.lockLoss h (d.lanesInUse h)) d

/-- The quads run from the device's own reference, and the loss of REFIN100 is reported. -/
def Dev.ownReference (d : Dev) : Dev := (d.setN O.clockRefStatus 0 2).raise Code.clkRefinLost

/-- What the loss of REFIN100 does before the rope goes down. -/
def Dev.refinLost (d : Dev) : Dev := d.ownReference.loseLocks d.ownReference.allHeads

theorem exec_refin100Lost (t : Nat) (s : State) : exec (.refin100Lost t) s =
    s.run t fun d => d.when (d.alive && d.rn O.clockRefSelect == 1 && d.rn O.clockRefStatus == 1) fun d =>
      d.refinLost.ropeFail := rfl

theorem Dev.loseLocks_eq (d : Dev) (hs : List Nat) :
    d.loseLocks hs = { d with heads := (d.loseLocks hs).heads, links := (d.loseLocks hs).links } := by
  induction hs generalizing d with
  | nil => rfl
  | cons h hs ih =>
    have hfirst := Dev.lockLoss_eq d h (d.lanesInUse h)
    have hrest := ih (d.lockLoss h (d.lanesInUse h))
    exact hrest.trans (congrArg (fun x : Dev => { x with
      heads := (d.loseLocks (h :: hs)).heads, links := (d.loseLocks (h :: hs)).links }) hfirst :)

theorem Dev.loseLocks_cons (d : Dev) (h : Nat) (hs : List Nat) :
    d.loseLocks (h :: hs) = (d.lockLoss h (d.lanesInUse h)).loseLocks hs := rfl

theorem Dev.loseLocks_other (d : Dev) {hs : List Nat} {j : Nat} (hj : j ∉ hs) :
    (d.loseLocks hs).lk j = d.lk j ∧ (d.loseLocks hs).hd j = d.hd j := by
  induction hs generalizing d with
  | nil => exact ⟨rfl, rfl⟩
  | cons h hs ih =>
    obtain ⟨hne, hj⟩ := not_or.mp (mt List.mem_cons.mpr hj)
    obtain ⟨hlk, hhd⟩ := d.lockLoss_other (d.lanesInUse h) hne
    obtain ⟨ihlk, ihhd⟩ := ih (d.lockLoss h (d.lanesInUse h)) hj
    exact ⟨ihlk.trans hlk, ihhd.trans hhd⟩

theorem Dev.loseLocks_retries {d : Dev} {hs : List Nat} (hnodup : hs.Nodup) {h : Nat} (hh : h ∈ hs) {c : Cand}
    (hrun : (d.lk h).state = .running) (hcur : (d.lk h).cur = some c) (hlanes : c.lanes ≠ 0) :
    ((d.loseLocks hs).lk h).state = .training ∧ ((d.loseLocks hs).lk h).sameRetry = true ∧
      ((d.loseLocks hs).hd h).emitting = false := by
  induction hs generalizing d with
  | nil => exact absurd hh List.not_mem_nil
  | cons a hs ih =>
    obtain ⟨ha, hrest⟩ := List.nodup_cons.mp hnodup
    rw [Dev.loseLocks_cons]
    by_cases hne : h = a
    · subst hne
      obtain ⟨hlk, hhd⟩ := Dev.loseLocks_other (d.lockLoss h (d.lanesInUse h)) ha
      have hlost : d.lanesInUse h ≠ [] := by simp [Dev.lanesInUse, hcur, hlanes]
      rw [hlk, hhd]
      exact Dev.lockLoss_retries hrun hcur hlost
    · obtain ⟨hlk, hhd⟩ := d.lockLoss_other (d.lanesInUse a) hne
      exact ih hrest ((List.mem_cons.mp hh).resolve_left hne) (by rw [hlk, hrun]) (by rw [hlk, hcur])

theorem Dev.dict_loseLocks (d : Dev) (hs : List Nat) : (d.loseLocks hs).dict = d.dict :=
  (congrArg Dev.dict (Dev.loseLocks_eq d hs) :)

theorem Dev.rope_loseLocks (d : Dev) (hs : List Nat) : (d.loseLocks hs).rope = d.rope :=
  (congrArg Dev.rope (Dev.loseLocks_eq d hs) :)

theorem Dev.bare_loseLocks (d : Dev) (hs : List Nat) :
    (d.loseLocks hs).bare = { d.bare with heads := (d.loseLocks hs).heads, links := (d.loseLocks hs).links } :=
  (congrArg Dev.bare (Dev.loseLocks_eq d hs) :)

theorem Dev.records_loseLocks (d : Dev) (hs : List Nat) : Dev.records 0 d (d.loseLocks hs) :=
  Dev.records_of_events_eq (congrArg Dev.clock (Dev.loseLocks_eq d hs) :) (by rw [Dev.dict_loseLocks])

theorem Dev.bare_ownReference (d : Dev) : d.ownReference.bare = d.bare := by
  rw [Dev.ownReference, Dev.bare_raise, Dev.bare_setN]

theorem Dev.quiet_ownReference (d : Dev) : (d.setN O.clockRefStatus 0 2).quiet d.ownReference := Dev.quiet_raise _ _ _ _ _ _

theorem Dev.allHeads_ownReference (d : Dev) : d.ownReference.allHeads = d.allHeads :=
  Dev.allHeads_congr ((d.quiet_ownReference.rn (by decide)).trans (Dev.rn_congr (Dev.setN_regs _ _ _ _ _ (by decide))))

theorem Dev.bare_refinLost (d : Dev) :
    d.refinLost.bare = { d.bare with heads := d.refinLost.heads, links := d.refinLost.links } := by
  rw [Dev.refinLost, Dev.bare_loseLocks, Dev.bare_ownReference]

theorem Dev.rope_refinLost (d : Dev) : d.refinLost.rope = d.rope := by
  rw [Dev.refinLost, Dev.rope_loseLocks]
  exact Dev.of_bare (·.rope) (fun _ => rfl) d.bare_ownReference

theorem Dev.quiet_refinLost (d : Dev) : (d.setN O.clockRefStatus 0 2).quiet d.refinLost :=
  d.quiet_ownReference.trans fun k _ => by rw [Dev.refinLost, Dev.dict_loseLocks]

/-- One record tells of the loss. -/
theorem Dev.logs_refinLost {d : Dev} (hfree : d.evFree 1 = true) :
    d.logs d.refinLost Code.clkRefinLost 0 0 ∧ Dev.records 1 d d.refinLost := by
  have hset : Dev.records 0 d (d.setN O.clockRefStatus 0 2) := Dev.records_of_events_eq rfl rfl
  have hroom : (d.setN O.clockRefStatus 0 2).evFree 1 = true := hset.evFree hfree
  have hlose := Dev.records_loseLocks d.ownReference d.ownReference.allHeads
  exact ⟨hset.then_logs ((Dev.logs_raise _ _ _ _ _ hroom).then_records hlose),
    (hset.trans (Dev.records_raise _ _ _ _ _ hroom)).trans hlose⟩

theorem Dev.refinLost_retries {d : Dev} {h : Nat} (hh : h ∈ d.allHeads) {c : Cand} (hrun : (d.lk h).state = .running)
    (hcur : (d.lk h).cur = some c) (hlanes : c.lanes ≠ 0) :
    (d.refinLost.lk h).state = .training ∧ (d.refinLost.lk h).sameRetry = true ∧ (d.refinLost.hd h).emitting = false := by
  have hlk : d.ownReference.lk h = d.lk h := Dev.of_bare (Dev.lk · h) (fun _ => rfl) d.bare_ownReference
  rw [Dev.refinLost, Dev.allHeads_ownReference]
  exact Dev.loseLocks_retries List.nodup_range hh (by rw [hlk, hrun]) (by rw [hlk, hcur]) hlanes

/-! ### The rope goes down (R240) -/

theorem Dev.quiet_modRope (d : Dev) (f : Rope → Rope) : d.quiet (d.modRope f) := fun _ _ => rfl

theorem Dev.records_modRope (d : Dev) (f : Rope → Rope) : Dev.records 0 d (d.modRope f) := Dev.records_of_events_eq rfl rfl

theorem Dev.ropeFail_down {d : Dev} (h : d.rope.state = 0) : d.ropeFail = d := if_pos h

theorem Dev.ropeFail_up {d : Dev} (h : d.rope.state ≠ 0) : d.ropeFail = d.ropeDown := if_neg h

theorem Dev.state_ropeFail (d : Dev) : d.ropeFail.rope.state = 0 := by
  by_cases h : d.rope.state = 0
  · rw [Dev.ropeFail_down h, h]
  · rw [Dev.ropeFail_up h, Dev.ropeDown, Dev.raise_rope]
    rfl

theorem Dev.bare_ropeFail (d : Dev) : d.ropeFail.bare = { d.bare with rope := d.ropeFail.rope } := by
  by_cases h : d.rope.state = 0
  · rw [Dev.ropeFail_down h]
    rfl
  · rw [Dev.ropeFail_up h, Dev.ropeDown, Dev.bare_raise, Dev.raise_rope]
    rfl

theorem Dev.quiet_ropeFail (d : Dev) : d.quiet d.ropeFail := by
  by_cases h : d.rope.state = 0
  · rw [Dev.ropeFail_down h]
    exact Dev.quiet.refl d
  · rw [Dev.ropeFail_up h]
    exact (d.quiet_modRope _).trans (Dev.quiet_raise _ _ _ _ _ _)

theorem Dev.logs_ropeFail {d : Dev} (hfree : d.evFree 1 = true) :
    Dev.records 1 d d.ropeFail ∧ (d.rope.state ≠ 0 → d.logs d.ropeFail Code.ropeDown 0 0) := by
  by_cases h : d.rope.state = 0
  · rw [Dev.ropeFail_down h]
    exact ⟨⟨rfl, [], Nat.zero_le 1, by rw [List.append_nil]⟩, fun hup => absurd h hup⟩
  · rw [Dev.ropeFail_up h]
    have hcleared := d.records_modRope
    exact ⟨(hcleared _).trans (Dev.records_raise _ _ _ _ _ hfree),
      fun _ => (hcleared _).then_logs (Dev.logs_raise _ _ _ _ _ hfree)⟩

theorem Dev.heads_links_ropeFail (d : Dev) : d.ropeFail.heads = d.heads ∧ d.ropeFail.links = d.links := by
  by_cases h : d.rope.state = 0
  · rw [Dev.ropeFail_down h]
    exact ⟨rfl, rfl⟩
  · rw [Dev.ropeFail_up h, Dev.ropeDown, Dev.raise_heads, Dev.raise_links]
    exact ⟨rfl, rfl⟩

theorem referenceLost : Claims.ReferenceLost := by
  intro s t d halive hselect hstatus hfree
  refine State.gives_when (d := d) rfl (exec_refin100Lost t s) (by simp [halive, hselect, hstatus]) ?_
  have hquiet := d.quiet_refinLost.trans d.refinLost.quiet_ropeFail
  obtain ⟨hlost, hrec⟩ := Dev.logs_refinLost (Dev.evFree_mono (Nat.le_succ 1) hfree)
  obtain ⟨hdown, hropeLogs⟩ := Dev.logs_ropeFail (hrec.evFree (m := 1) hfree)
  obtain ⟨hheads, hlinks⟩ := d.refinLost.heads_links_ropeFail
  refine ⟨?_, hlost.then_records hdown, fun h hh c hrun hcur hlanes => ?_, d.refinLost.state_ropeFail, fun hup => ?_, ?_,
    fun k hk hreport => ?_⟩
  · rw [hquiet.rn (by decide), Dev.rn_setN]
    rfl
  · rw [Dev.lk, hlinks, Dev.hd, hheads]
    exact Dev.refinLost_retries hh hrun hcur hlanes
  · exact hrec.then_logs (hropeLogs (by rwa [Dev.rope_refinLost]))
  · rw [hheads, hlinks, Dev.bare_ropeFail, Dev.bare_refinLost]
  · exact (hquiet k hreport).trans (Dev.setN_regs d _ _ _ _ fun e => hk (List.mem_singleton.mpr e))

/-- Settles O25: a measurement takes one of three ways, none of which reaches past its lane and the lane's counts
(`Dev.laneOnly_calibrateLane`); the loss of REFIN100 makes every link in use lose its lanes, head by head
(`Dev.loseLocks_retries`), and takes the rope down. -/
theorem lanesAndReference : Obligations.LanesAndReference := ⟨laneCalibrates, referenceLost⟩

end Sys2Proof.Machine

/-! PROOFS of the family '03_seals_witness.md': a witness record is appended, signed and chained (R92, R93, R97), forwarded by a
unit with lead (R94, R96) and sent again until it is acknowledged or given up (R95). -/

namespace Sys2Proof.Machine

/-! ### What stays when the witness path and the touch ring move -/

/-- Past the reporting, from `d` to `e` nothing but the witness path and the touch ring moved. -/
def Dev.movesRecords (d e : Dev) : Prop := e.bare = { d.bare with witness := e.witness, touch := e.touch }

theorem Dev.movesRecords.trans {a b c : Dev} (h : a.movesRecords b) (g : b.movesRecords c) : a.movesRecords c := by
  unfold Dev.movesRecords at *
  rw [g, h]

theorem Dev.movesRecords_of_eq {d e : Dev} {w : Witness} {t : Touch} (h : e.bare = { d.bare with witness := w, touch := t }) :
    d.movesRecords e := by
  have hw : e.witness = w := congrArg Dev.witness h
  have ht : e.touch = t := congrArg Dev.touch h
  rw [Dev.movesRecords, h, hw, ht]

theorem Dev.movesRecords.holdsLead {d e : Dev} (h : d.movesRecords e) : e.holdsLead = d.holdsLead :=
  (congrArg Dev.holdsLead h :)

theorem Dev.records.mono {m n : Nat} {d e : Dev} (h : Dev.records m d e) (hmn : m ≤ n) : Dev.records n d e := by
  obtain ⟨hc, l, hl, he⟩ := h
  exact ⟨hc, l, Nat.le_trans hl hmn, he⟩

theorem Dev.records_of_bare {d e : Dev} (h : e.bare = d.bare) (he : e.dict.events = d.dict.events) : Dev.records 0 d e :=
  Dev.records_of_events_eq (Dev.of_bare Dev.clock (fun _ => rfl) h) he

@[simp] theorem Dev.raise_witness (d : Dev) (c p0 p1 p2 p3 : Nat) : (d.raise c p0 p1 p2 p3).witness = d.witness :=
  Dev.of_bare Dev.witness (fun _ => rfl) (Dev.bare_raise d c p0 p1 p2 p3)

@[simp] theorem Dev.bump_witness (d : Dev) (o : Obj) (i : Nat) : (d.bump o i).witness = d.witness :=
  Dev.of_bare Dev.witness (fun _ => rfl) (Dev.bare_bump d o i)

theorem Dev.records_raiseOnce {d : Dev} (n u c p0 p1 p2 p3 : Nat) (hfree : d.evFree 1 = true) :
    Dev.records 1 d (d.raiseOnce n u c p0 p1 p2 p3) := by
  unfold Dev.raiseOnce
  extract_lets key
  split
  · have hnoted : Dev.records 0 d (d.noteRaise key) := Dev.records_of_events_eq rfl rfl
    exact hnoted.trans (Dev.records_raise _ _ _ _ _ (hnoted.evFree hfree))
  · exact (Dev.records_of_events_eq rfl rfl).mono (Nat.zero_le 1)

/-! ### A touch record -/

/-- A touch record is posted to the touch ring alone; at most one code tells that an old one was lost. -/
theorem Dev.postTouch_keeps (d : Dev) (r : Bytes) (event reason : Nat) :
    (d.postTouch r event reason).bare = { d.bare with touch := (d.postTouch r event reason).touch } ∧
      (d.evFree 1 = true → Dev.records 1 d (d.postTouch r event reason)) := by
  unfold Dev.postTouch
  extract_lets r t full lost d1
  have hposted : Dev.records 0 d d1 := Dev.records_of_events_eq rfl rfl
  split
  · have hbare : ((d1.bump O.touchEventsLost).raiseOnce sec 0 Code.touchEventsLost).bare = d1.bare := by simp
    have hcounted := hposted.trans (Dev.records_of_bare (d1.bare_bump O.touchEventsLost 0) (Dev.bump_events _ _ _))
    refine ⟨?_, fun hfree => hcounted.trans (Dev.records_raiseOnce _ _ _ _ _ _ _ (hcounted.evFree hfree))⟩
    rw [hbare, Dev.of_bare Dev.touch (fun _ => rfl) hbare]
    rfl
  · exact ⟨rfl, fun _ => hposted.mono (Nat.zero_le 1)⟩

/-! ### A record is appended (R97, R99) -/

/-- The figures of the register change nothing of the witness path but whether the register is nearly full; at most one code
tells of it. -/
theorem Dev.summitPublish_keeps (d : Dev) :
    d.summitPublish.bare = { d.bare with witness := { d.witness with nearFull := d.summitPublish.witness.nearFull } } ∧
      (d.evFree 1 = true → Dev.records 1 d d.summitPublish) := by
  unfold Dev.summitPublish
  extract_lets w d1 d2 high src d3
  have hpublished : Dev.records 0 d d3 := Dev.records_of_events_eq rfl rfl
  split
  · refine ⟨?_, fun hfree => hpublished.trans (Dev.records_raise _ _ _ _ _ (hpublished.evFree hfree))⟩
    rw [Dev.bare_raise, Dev.raise_witness]
    rfl
  · exact ⟨rfl, fun _ => hpublished.mono (Nat.zero_le 1)⟩

/-- The entry that a content becomes (R92, R93, R97): under the next sequence, chained to the last record, signed. -/
def Dev.entryOf (d : Dev) (c : Bytes) : Entry :=
  let w := d.witness
  let full := withChain c w.nextSeq w.chainHead
  ⟨w.nextSeq, full ++ d.signRecord full, chainHash w.chainHead (full ++ d.signRecord full)⟩

/-- The register with the entry of a content in it, its figures not yet published. -/
def Dev.withEntry (d : Dev) (c : Bytes) : Dev :=
  let w := d.witness
  { d with witness := { w with
      ring := (if w.capacity ≤ w.ring.length then w.ring.drop 1 else w.ring) ++ [d.entryOf c]
      nextSeq := w.nextSeq + 1, chainHead := (d.entryOf c).hash } }

theorem Dev.witness_appendRecord (d : Dev) (c : Bytes) : (d.appendRecord c).witness =
    { (d.withEntry c).witness with nearFull := (d.appendRecord c).witness.nearFull } :=
  congrArg Dev.witness (Dev.summitPublish_keeps (d.withEntry c)).1

theorem Dev.movesRecords_appendRecord (d : Dev) (c : Bytes) : d.movesRecords (d.appendRecord c) :=
  Dev.movesRecords_of_eq (t := d.touch) (Dev.summitPublish_keeps (d.withEntry c)).1

theorem Dev.records_appendRecord {d : Dev} (c : Bytes) (hfree : d.evFree 1 = true) : Dev.records 1 d (d.appendRecord c) := by
  have hentered : Dev.records 0 d (d.withEntry c) := Dev.records_of_events_eq rfl rfl
  exact hentered.trans ((Dev.summitPublish_keeps _).2 (hentered.evFree hfree))

/-! ### A record is forwarded (R94, R95) -/

/-- A forward sends at most one datagram, on ring 9 of the session's port. -/
theorem Dev.sendForward_sends {P : Dev → Prop} (d : Dev) (f : Forward) (hnone : P d)
    (hagain : ∀ r a p b, r < 64 → P (d.sendUdp r a p b)) (hnew : ∀ se typ b, P (d.sendQdp se 9 typ b)) :
    P (d.sendForward f).1 := by
  unfold Dev.sendForward
  extract_lets f
  split
  · exact hnone
  next se _ =>
    have hring : 16 * (se.port : Nat) + 9 < 64 := by have := se.port.isLt; omega
    split
    · split
      · exact hagain _ _ _ _ hring
      · exact hnew _ _ _
    · exact hnew _ _ _

theorem Dev.sendForward_snd (d : Dev) (f : Forward) :
    (d.sendForward f).2 = { f with time := d.now, sentIn := (d.sendForward f).2.sentIn } := by
  unfold Dev.sendForward
  dsimp only
  repeat' split
  all_goals rfl

@[simp] theorem Dev.bare_sendForward (d : Dev) (f : Forward) : (d.sendForward f).1.bare = d.bare :=
  d.sendForward_sends (P := fun e => e.bare = d.bare) f rfl
    (fun _ _ _ _ _ => Dev.bare_sendUdp _ _ _ _ _) fun _ _ _ => Dev.bare_sendQdp _ _ _ _ _

theorem Dev.quiet_sendForward (d : Dev) (f : Forward) : d.quiet (d.sendForward f).1 :=
  d.sendForward_sends f (Dev.quiet.refl d) (fun _ _ _ _ hr => Dev.quiet_sendUdp _ _ _ _ _ hr)
    fun _ _ _ => Dev.quiet_sendQdp _ _ _ _ _ (by decide)

theorem Dev.records_sendForward (d : Dev) (f : Forward) : Dev.records 0 d (d.sendForward f).1 :=
  Dev.records_of_bare (d.bare_sendForward f) <|
    d.sendForward_sends (P := fun e => e.dict.events = d.dict.events) f rfl
      (fun _ _ _ _ _ => Dev.sendUdp_events _ _ _ _ _) fun _ _ _ => Dev.sendQdp_events _ _ _ _ _

@[simp] theorem Dev.witness_sendForward (d : Dev) (f : Forward) : (d.sendForward f).1.witness = d.witness :=
  Dev.of_bare Dev.witness (fun _ => rfl) (d.bare_sendForward f)

/-! ### WITNESS_SIGNED -/

/-- The request at the head of the queue leaves it. -/
def Dev.takeRequest (d : Dev) : Dev := { d with witness := { d.witness with requests := d.witness.requests.drop 1 } }

/-- An accepted request is counted, told and posted to the touch ring. -/
def Dev.tellIssued (d : Dev) (r : Request) (seq : Nat) : Dev :=
  (((d.bump O.witnessIssued).bumpAction r.region 0).raise Code.witnessIssued r.panel r.region seq).postTouch r.record 4 0

/-- The newest record of the register is sent, and waits for its acknowledgement. -/
def Dev.forwardNewest (d : Dev) (seq : Nat) : Dev :=
  let fw := d.sendForward ⟨seq, ((d.witness.ring.getLast?).map (·.record)).getD [], 0, d.now, none⟩
  { fw.1 with witness := { fw.1.witness with forwards := fw.1.witness.forwards ++ [fw.2] } }

/-- A record of kind 1 leaves a unit with lead; without lead it stays in the register (R96). -/
def Dev.issueNewest (d : Dev) (seq : Nat) : Dev :=
  if d.holdsLead then d.forwardNewest seq else d.raise Code.witnessNotForwarded 0 0 seq

theorem Dev.signed_first {d : Dev} {r : Request} (c : Bytes) (htries : r.tries = 0) : d.signed r c =
    if r.kind = 1 then ((d.takeRequest.appendRecord c).tellIssued r d.witness.nextSeq).issueNewest d.witness.nextSeq
    else d.takeRequest.appendRecord c := by
  unfold Dev.signed Dev.issueNewest Dev.forwardNewest Dev.tellIssued Dev.takeRequest
  simp only [if_pos htries]

/-- What tells of an accepted request leaves the register alone. -/
theorem Dev.bare_tellIssued (d : Dev) (r : Request) (seq : Nat) :
    (d.tellIssued r seq).bare = { d.bare with touch := (d.tellIssued r seq).touch } := by
  rw [Dev.tellIssued, (Dev.postTouch_keeps _ _ _ _).1, Dev.bare_raise, ← Dev.bare_bump d O.witnessIssued 0]
  rfl

theorem Dev.witness_tellIssued (d : Dev) (r : Request) (seq : Nat) : (d.tellIssued r seq).witness = d.witness :=
  (congrArg Dev.witness (d.bare_tellIssued r seq) :)

theorem Dev.logs_tellIssued {d : Dev} (r : Request) (seq : Nat) (hfree : d.evFree 2 = true) :
    d.logs (d.tellIssued r seq) Code.witnessIssued r.panel r.region ∧ Dev.records 2 d (d.tellIssued r seq) := by
  have hcounted : Dev.records 0 d ((d.bump O.witnessIssued).bumpAction r.region 0) :=
    Dev.records_of_bare (d.bare_bump O.witnessIssued 0) (Dev.bump_events _ _ _) |>.trans (Dev.records_of_events_eq rfl rfl)
  have hroom := hcounted.evFree (m := 2) hfree
  have hraise := Dev.records_raise Code.witnessIssued r.panel r.region seq 0 (Dev.evFree_mono (Nat.le_succ 1) hroom)
  have hpost := (Dev.postTouch_keeps _ r.record 4 0).2 (hraise.evFree (m := 1) hroom)
  exact ⟨hcounted.then_logs ((Dev.logs_raise _ _ _ _ _ (Dev.evFree_mono (Nat.le_succ 1) hroom)).then_records hpost),
    (hcounted.trans hraise).trans hpost⟩

theorem Dev.forwards_forwardNewest (d : Dev) (seq : Nat) :
    ∃ f ∈ (d.forwardNewest seq).witness.forwards, f.seq = seq ∧ f.resends = 0 :=
  ⟨_, List.mem_append_right _ (List.mem_singleton_self _), by rw [Dev.sendForward_snd], by rw [Dev.sendForward_snd]⟩

theorem Dev.issueNewest_lead {d : Dev} (seq : Nat) (h : d.holdsLead = true) : d.issueNewest seq = d.forwardNewest seq := if_pos h

theorem Dev.issueNewest_notLead {d : Dev} (seq : Nat) (h : d.holdsLead = false) :
    d.issueNewest seq = d.raise Code.witnessNotForwarded 0 0 seq := if_neg (Bool.eq_false_iff.mp h)

/-- Of the device, past the reporting, an issue changes the forwards alone; at most one code tells of it. -/
theorem Dev.issueNewest_keeps (d : Dev) (seq : Nat) :
    (d.issueNewest seq).bare =
        { d.bare with witness := { d.witness with forwards := (d.issueNewest seq).witness.forwards } } ∧
      (d.evFree 1 = true → Dev.records 1 d (d.issueNewest seq)) := by
  cases h : d.holdsLead with
  | true =>
    rw [Dev.issueNewest_lead seq h, Dev.forwardNewest]
    generalize (⟨seq, _, 0, d.now, none⟩ : Forward) = f
    refine ⟨?_, fun _ => (d.records_sendForward f).mono (Nat.zero_le 1)⟩
    rw [← d.bare_sendForward f, ← d.witness_sendForward f]
    rfl
  | false =>
    rw [Dev.issueNewest_notLead seq h, Dev.raise_witness, Dev.bare_raise]
    exact ⟨rfl, Dev.records_raise _ _ _ _ _⟩

theorem Dev.witness_issueNewest (d : Dev) (seq : Nat) :
    (d.issueNewest seq).witness = { d.witness with forwards := (d.issueNewest seq).witness.forwards } :=
  congrArg Dev.witness (d.issueNewest_keeps seq).1

/-- The witness path after the first signature: the entry is in the register, the request has left the queue. -/
theorem Dev.witness_signed {d : Dev} {r : Request} (c : Bytes) (htries : r.tries = 0) :
    (d.signed r c).witness = { (d.takeRequest.withEntry c).witness with
      nearFull := (d.takeRequest.appendRecord c).witness.nearFull, forwards := (d.signed r c).witness.forwards } := by
  rw [Dev.signed_first c htries]
  split
  · rw [Dev.witness_issueNewest, Dev.witness_tellIssued, Dev.witness_appendRecord]
  · rw [Dev.witness_appendRecord]

theorem Dev.movesRecords_signed {d : Dev} {r : Request} (c : Bytes) (htries : r.tries = 0) : d.movesRecords (d.signed r c) := by
  have htaken : d.movesRecords d.takeRequest := Dev.movesRecords_of_eq (w := d.takeRequest.witness) (t := d.touch) rfl
  have happended := htaken.trans (d.takeRequest.movesRecords_appendRecord c)
  rw [Dev.signed_first c htries]
  split
  · exact (happended.trans (Dev.movesRecords_of_eq (w := Dev.witness _) (Dev.bare_tellIssued _ r _))).trans
      (Dev.movesRecords_of_eq (t := Dev.touch _) (Dev.issueNewest_keeps _ _).1)
  · exact happended

/-- A request that is not an accepted one is recorded and not forwarded. -/
theorem Dev.forwards_signed_unissued {d : Dev} {r : Request} (c : Bytes) (hkind : r.kind ≠ 1) (htries : r.tries = 0) :
    (d.signed r c).witness.forwards = d.witness.forwards := by
  rw [Dev.signed_first c htries, if_neg hkind, Dev.witness_appendRecord]
  rfl

/-- An accepted request is told of; a unit with lead forwards its record, another one tells that it does not. -/
theorem Dev.signed_issues {d : Dev} {r : Request} (c : Bytes) (hkind : r.kind = 1) (htries : r.tries = 0)
    (hfree : d.evFree 4 = true) :
    d.logs (d.signed r c) Code.witnessIssued r.panel r.region ∧
      (d.holdsLead = true → ∃ f ∈ (d.signed r c).witness.forwards, f.seq = d.witness.nextSeq ∧ f.resends = 0) ∧
      (d.holdsLead = false → d.logs (d.signed r c) Code.witnessNotForwarded 0 0 ∧
        (d.signed r c).witness.forwards = d.witness.forwards) := by
  rw [Dev.signed_first c htries, if_pos hkind]
  have htaken : Dev.records 0 d d.takeRequest := Dev.records_of_events_eq rfl rfl
  have happend := htaken.trans (Dev.records_appendRecord c (Dev.evFree_mono (by decide) (htaken.evFree (m := 4) hfree)))
  obtain ⟨htold, htell⟩ := Dev.logs_tellIssued r d.witness.nextSeq <|
    Dev.evFree_mono (Nat.le_succ 2) (happend.evFree (m := 3) hfree)
  have hbefore := happend.trans htell
  have hroom := hbefore.evFree (m := 1) hfree
  have hlead : ((d.takeRequest.appendRecord c).tellIssued r d.witness.nextSeq).holdsLead = d.holdsLead := by
    rw [(Dev.movesRecords_of_eq (w := Dev.witness _) (Dev.bare_tellIssued _ r _)).holdsLead,
      (d.takeRequest.movesRecords_appendRecord c).holdsLead]
    rfl
  refine ⟨happend.then_logs (htold.then_records ((Dev.issueNewest_keeps _ _).2 hroom)), fun h => ?_, fun h => ?_⟩
  · rw [Dev.issueNewest_lead _ (hlead.trans h)]
    exact Dev.forwards_forwardNewest _ _
  · rw [Dev.issueNewest_notLead _ (hlead.trans h)]
    refine ⟨hbefore.then_logs (Dev.logs_raise _ _ _ _ _ hroom), ?_⟩
    rw [Dev.raise_witness, Dev.witness_tellIssued, Dev.witness_appendRecord]
    rfl

/-- A first failed signature: the request stays at the head of the queue, to be signed once more (R91). -/
def Dev.retrySigning (d : Dev) (r : Request) (rest : List Request) : Dev :=
  { d with witness := { d.witness with requests := { r with tries := 1 } :: rest } }

/-- What WITNESS_SIGNED does of a request that waits for its first signature. -/
theorem gives_witnessSigned {s : State} {t : Nat} {ok : Bool} {r : Request} {rest : List Request} {c : Bytes} {P : Dev → Prop}
    {d : Dev} (hd : s.dev.tick t = d) (hrun : d.running = true) (hgate : d.gated = false) (hreq : d.witness.requests = r :: rest)
    (hcontent : r.content = some c) (htries : r.tries = 0) (p : P (if ok then d.signed r c else d.retrySigning r rest)) :
    s.gives (.witnessSigned t ok) P := by
  refine State.gives_when (b := fun d => d.running && !d.gated) hd rfl (by rw [hrun, hgate]; rfl) ?_
  simpa only [hreq, hcontent, if_pos htries, Dev.retrySigning] using p

theorem recordSigned : Claims.RecordSigned := by
  intro s t r rest c d w full hrun hgate hreq hcontent htries hfree
  refine ⟨gives_witnessSigned rfl hrun hgate hreq hcontent htries ?_,
    gives_witnessSigned rfl hrun hgate hreq hcontent htries ⟨rfl, rfl⟩⟩
  rw [if_pos rfl]
  have hw := Dev.witness_signed (d := d) c htries
  have hring : (d.signed r c).witness.ring.getLast? = some (d.entryOf c) := by
    rw [hw]
    exact List.getLast?_concat
  have hrequests : (d.signed r c).witness.requests = rest := by
    rw [hw]
    exact congrArg (List.drop 1) hreq
  refine ⟨⟨d.entryOf c, hring, rfl, rfl, rfl, congrArg Witness.chainHead hw⟩, congrArg Witness.nextSeq hw, hrequests,
    fun hkind => Dev.signed_issues c hkind htries (Dev.evFree_mono (by decide) hfree),
    fun hkind => Dev.forwards_signed_unissued c hkind htries, Dev.movesRecords_signed c htries⟩

/-! ### WITNESS_ACK_TIMEOUT -/

/-- A forward is sent once more, and waits anew. -/
def Dev.resend (d : Dev) (f : Forward) : Dev :=
  let r := d.sendForward { f with resends := f.resends + 1 }
  { r.1 with witness := { r.1.witness with forwards := r.1.witness.forwards.map fun g => if g.seq = f.seq then r.2 else g } }

/-- A forward waits no longer. -/
def Dev.dropForward (d : Dev) (seq : Nat) : Dev :=
  { d with witness := { d.witness with forwards := d.witness.forwards.filter fun x => x.seq != seq } }

/-- A forward is given up, counted and reported. -/
def Dev.giveUpForward (d : Dev) (seq : Nat) : Dev :=
  ((d.dropForward seq).bump O.witnessUnacked).raise Code.witnessUnacked 0 0 seq

/-- What WITNESS_ACK_TIMEOUT does of a forward whose acknowledgement is overdue, on a unit with lead. -/
theorem gives_witnessAckTimeout {s : State} {t : Nat} {f : Forward} {P : Dev → Prop} {d : Dev} (hd : s.dev.tick t = d)
    (hrun : d.running = true) (hlead : d.holdsLead = true)
    (hfind : d.witness.forwards.find? (fun x => x.seq == f.seq && x.time + 1000000 * d.rn O.witnessAckTimeout ≤ d.now) = some f)
    (p : P (if f.resends < d.rn O.witnessResends then d.resend f else d.giveUpForward f.seq)) :
    s.gives (.witnessAckTimeout t f.seq) P := by
  refine State.gives_when hd rfl hrun ?_
  simp only [hfind, hlead, Bool.not_true, Bool.false_eq_true, if_false]
  exact p

theorem Dev.witness_resend (d : Dev) (f : Forward) : (d.resend f).witness = { d.witness with
    forwards := d.witness.forwards.map fun g =>
      if g.seq = f.seq then (d.sendForward { f with resends := f.resends + 1 }).2 else g } := by
  rw [Dev.resend, Dev.witness_sendForward]

theorem Dev.bare_resend (d : Dev) (f : Forward) : (d.resend f).bare = { d.bare with witness := (d.resend f).witness } := by
  rw [← d.bare_sendForward { f with resends := f.resends + 1 }]
  rfl

theorem Dev.mem_forwards_resend {d : Dev} {f : Forward} (hf : f ∈ d.witness.forwards) :
    ∃ x ∈ (d.resend f).witness.forwards, x.seq = f.seq ∧ x.record = f.record ∧ x.resends = f.resends + 1 ∧ x.time = d.now := by
  have hsnd := d.sendForward_snd { f with resends := f.resends + 1 }
  rw [Dev.witness_resend]
  exact ⟨_, List.mem_map.mpr ⟨f, hf, if_pos rfl⟩, (congrArg Forward.seq hsnd :), (congrArg Forward.record hsnd :),
    (congrArg Forward.resends hsnd :), (congrArg Forward.time hsnd :)⟩

theorem Dev.witness_giveUpForward (d : Dev) (seq : Nat) : (d.giveUpForward seq).witness = (d.dropForward seq).witness := by
  rw [Dev.giveUpForward, Dev.raise_witness, Dev.bump_witness]

theorem Dev.bare_giveUpForward (d : Dev) (seq : Nat) :
    (d.giveUpForward seq).bare = { d.bare with witness := (d.giveUpForward seq).witness } := by
  rw [Dev.witness_giveUpForward, Dev.giveUpForward, Dev.bare_raise, Dev.bare_bump]
  rfl

theorem Dev.rn_giveUpForward (d : Dev) (seq : Nat) :
    (d.giveUpForward seq).rn O.witnessUnacked = upTo O.witnessUnacked (d.rn O.witnessUnacked) := by
  rw [Dev.giveUpForward, (Dev.quiet_raise _ _ _ _ _ _).rn (by decide), Dev.rn_bump _ _ _ (by decide)]
  rfl

theorem Dev.logs_giveUpForward {d : Dev} (seq : Nat) (hfree : d.evFree 1 = true) :
    d.logs (d.giveUpForward seq) Code.witnessUnacked 0 0 := by
  have hdropped : Dev.records 0 d (d.dropForward seq) := Dev.records_of_events_eq rfl rfl
  have hcounted := hdropped.trans (Dev.records_of_bare (Dev.bare_bump _ O.witnessUnacked 0) (Dev.bump_events _ _ _))
  exact hcounted.then_logs (Dev.logs_raise _ _ _ _ _ (hcounted.evFree hfree))

theorem Dev.regsBut_giveUpForward (d : Dev) (seq : Nat) : d.regsBut [O.witnessUnacked.key 0] (d.giveUpForward seq) := by
  intro k hk hreport
  exact (Dev.quiet_raise _ _ _ _ _ _ k hreport).trans (Dev.bump_regs _ _ _ (List.ne_of_not_mem_cons hk))

theorem recordResent : Claims.RecordResent := by
  intro s t f d hrun hlead hfind
  refine ⟨fun hless => gives_witnessAckTimeout rfl hrun hlead hfind ?_,
    fun hspent hfree => gives_witnessAckTimeout rfl hrun hlead hfind ?_⟩
  · rw [if_pos hless]
    refine ⟨Dev.mem_forwards_resend (List.mem_of_find?_eq_some hfind), ?_, d.bare_resend f,
      (d.quiet_sendForward _).regsBut []⟩
    rw [Dev.witness_resend, List.length_map]
  · rw [if_neg (Nat.not_lt.mpr hspent)]
    exact ⟨d.witness_giveUpForward f.seq, d.rn_giveUpForward f.seq, Dev.logs_giveUpForward f.seq hfree,
      d.bare_giveUpForward f.seq, d.regsBut_giveUpForward f.seq⟩

/-- Settles O49: a first signature takes the request off the queue, puts its entry into the register (`Dev.witness_signed`) and, for
an accepted request, issues it (`Dev.signed_issues`); an overdue forward is sent once more under the same sequence
(`Dev.mem_forwards_resend`) or given up. -/
theorem witnessRecords : Obligations.WitnessRecords := ⟨recordSigned, recordResent⟩

end Sys2Proof.Machine

/-! PROOFS of the family '05_decode.md': a decode engine fails its self-check, reruns its picture or is retired for the spare
(R162, R415, R416); full intra requests while a context waits or is tainted (R124, R147, R161). -/

namespace Sys2Proof.Machine

/-! ### A lasting fault enters the health record (R413 to R416, R424) -/

/-- Past the reporting, from `d` to `e` nothing but the log of faults moved. -/
def Dev.movesLog (d e : Dev) : Prop :=
  e.bare = { d.bare with health := { d.health with log := e.health.log, logSeq := e.health.logSeq } }

theorem Dev.movesLog.of_bare {d e f : Dev} (h : d.movesLog e) (g : f.bare = e.bare) : d.movesLog f := by
  rw [Dev.movesLog, g, Dev.of_bare Dev.health (fun _ => rfl) g]
  exact h

theorem Dev.movesLog.retired {d e : Dev} (h : d.movesLog e) : e.health.retired = d.health.retired :=
  (congrArg (fun x : Dev => x.health.retired) h :)

theorem Dev.movesLog.lasting {d e : Dev} (h : d.movesLog e) : e.health.lasting = d.health.lasting :=
  (congrArg (fun x : Dev => x.health.lasting) h :)

theorem Dev.movesLog.engines {d e : Dev} (h : d.movesLog e) : e.engines = d.engines := (congrArg Dev.engines h :)

theorem Dev.movesLog.ctxs {d e : Dev} (h : d.movesLog e) : e.ctxs = d.ctxs := (congrArg Dev.ctxs h :)

theorem Dev.movesLog_logFault (d : Dev) (cls kind inst : Nat) (own : Own) (reason action spare : Nat) :
    d.movesLog (d.logFault cls kind inst own reason action spare) := by
  unfold Dev.logFault
  extract_lets hs r all full d1 d2
  have hlogged : d.movesLog d2 := rfl
  split
  · exact hlogged.of_bare (Dev.bare_raiseOnce _ _ _ _ _ _ _ _)
  · exact hlogged

/-- One more lasting fault, the last of a code. -/
def Dev.countLasting (d : Dev) (code : Nat) : Dev :=
  { d with health := { d.health with lasting := d.health.lasting + 1, lastLasting := code } }

theorem Dev.engines_countLasting (d : Dev) (code : Nat) : (d.countLasting code).engines = d.engines := rfl

theorem Dev.retired_countLasting (d : Dev) (code : Nat) : (d.countLasting code).health.retired = d.health.retired := rfl

theorem Dev.lasting_countLasting (d : Dev) (code : Nat) : (d.countLasting code).health.lasting = d.health.lasting + 1 := rfl

theorem Dev.movesLog_noteLasting (d : Dev) (kind inst : Nat) (own : Own) (reason : Nat) (spare : Option Nat)
    (left action : Nat) : (d.countLasting own.code).movesLog (d.noteLasting kind inst own reason spare left action) := by
  have hlogged := (d.countLasting own.code).movesLog_logFault 1 kind inst own reason action (spare.getD 0xFFFF)
  unfold Dev.noteLasting
  extract_lets hs d1 d2 d3
  have htold := hlogged.of_bare (Dev.bare_raise d2 Code.healthLasting kind inst own.code (spare.getD 0xFFFFFFFF))
  split
  next engaged =>
    have hengaged := htold.of_bare (Dev.bare_raise d3 Code.healthSpareEngaged kind inst engaged 0)
    split
    · exact hengaged.of_bare (Dev.bare_raise _ _ _ _ _ _)
    · exact hengaged
  · exact htold.of_bare (Dev.bare_raise _ _ _ _ _ _)

/-! ### Contexts move to an engine (R163) -/

/-- Some contexts are given an engine, one after another. -/
def Dev.moveContexts (d : Dev) (cs : List Nat) (e : Nat) : Dev := cs.foldl (fun (d : Dev) s => d.setEngine s e) d

theorem Dev.bare_moveContexts (d : Dev) (cs : List Nat) (e : Nat) :
    (d.moveContexts cs e).bare = { d.bare with ctxs := (d.moveContexts cs e).ctxs } := by
  induction cs generalizing d with
  | nil => rfl
  | cons s cs ih => exact (ih (d.setEngine s e)).trans rfl

theorem Dev.engines_moveContexts (d : Dev) (cs : List Nat) (e : Nat) : (d.moveContexts cs e).engines = d.engines :=
  (congrArg Dev.engines (d.bare_moveContexts cs e) :)

theorem Dev.health_moveContexts (d : Dev) (cs : List Nat) (e : Nat) : (d.moveContexts cs e).health = d.health :=
  (congrArg Dev.health (d.bare_moveContexts cs e) :)

theorem Dev.cx_setEngine (d : Dev) (s e : Nat) : (d.setEngine s e).cx s = { d.cx s with engine := e } := by
  rw [← Dev.cx_modCx d s fun c => { c with engine := e }]
  rfl

theorem Dev.cx_setEngine_ne (d : Dev) {s j : Nat} (e : Nat) (hj : j ≠ s) : (d.setEngine s e).cx j = d.cx j :=
  Dev.cx_modCx_ne d (fun c => { c with engine := e }) hj

theorem Dev.engine_moveContexts {d : Dev} {cs : List Nat} {e s : Nat} (h : (d.cx s).engine = e ∨ s ∈ cs) :
    ((d.moveContexts cs e).cx s).engine = e := by
  induction cs generalizing d with
  | nil => exact h.resolve_right List.not_mem_nil
  | cons a cs ih =>
    refine ih (d := d.setEngine a e) ?_
    by_cases hs : s = a
    · subst hs
      exact .inl (by rw [Dev.cx_setEngine])
    · rw [Dev.cx_setEngine_ne d e hs]
      exact h.imp_right fun hmem => (List.mem_cons.mp hmem).resolve_left hs

/-! ### What stays when the decode cluster moves -/

/-- Past the reporting, from `d` to `e` nothing but the engines, their contexts and the health record moved. -/
def Dev.movesDecode (d e : Dev) : Prop := e.bare = { d.bare with engines := e.engines, ctxs := e.ctxs, health := e.health }

theorem Dev.movesDecode.trans {a b c : Dev} (h : a.movesDecode b) (g : b.movesDecode c) : a.movesDecode c := by
  unfold Dev.movesDecode at *
  rw [g, h]

theorem Dev.movesDecode_of_eq {d e : Dev} {es : List (Nat × Engine)} {cs : List (Nat × Ctx)} {h : Health}
    (heq : e.bare = { d.bare with engines := es, ctxs := cs, health := h }) : d.movesDecode e := by
  have hes : e.engines = es := congrArg Dev.engines heq
  have hcs : e.ctxs = cs := congrArg Dev.ctxs heq
  have hh : e.health = h := congrArg Dev.health heq
  rw [Dev.movesDecode, heq, hes, hcs, hh]

theorem Dev.movesDecode.of_bare {d e f : Dev} (h : d.movesDecode e) (g : f.bare = e.bare) : d.movesDecode f :=
  Dev.movesDecode_of_eq (g.trans h)

theorem Dev.movesDecode_modEng (d : Dev) (e : Nat) (f : Engine → Engine) : d.movesDecode (d.modEng e f) := rfl

theorem Dev.movesDecode_recordRetired (d : Dev) (kind inst : Nat) : d.movesDecode (d.recordRetired kind inst) := rfl

theorem Dev.movesDecode_abandonTest (d : Dev) (kind inst : Nat) : d.movesDecode (d.abandonTest kind inst) := rfl

theorem Dev.movesDecode_moveContexts (d : Dev) (cs : List Nat) (e : Nat) : d.movesDecode (d.moveContexts cs e) :=
  Dev.movesDecode_of_eq (es := d.engines) (h := d.health) (d.bare_moveContexts cs e)

theorem Dev.movesDecode_countLasting (d : Dev) (code : Nat) : d.movesDecode (d.countLasting code) := rfl

theorem Dev.movesLog.movesDecode {d e : Dev} (h : d.movesLog e) : d.movesDecode e :=
  Dev.movesDecode_of_eq (es := d.engines) (cs := d.ctxs) h

/-! ### An engine is retired while engine 8 is a spare (R162, R416) -/

/-- An engine drops its picture and is entered as retired. -/
def Dev.withdrawEngine (d : Dev) (e : Nat) : Dev :=
  (d.modEng e fun x => { x with state := .retired, busy := none }).recordRetired 4 e

/-- Engine 8 takes the place of engine `e`, with its picture as if it had never failed. -/
def Dev.engageSpare (d : Dev) (e : Nat) (b : Option Busy) : Dev :=
  ((d.modEng 8 fun x => { x with
      state := .active, busy := b.map fun y => { y with tries := 0, bad := false }, since := d.now }).modEng e
    fun x => { x with replacedBy := some 8 }).abandonTest 4 8

/-- What a retirement makes of the engines and their health, without its reporting. -/
def Dev.swapEngine (d : Dev) (e : Nat) : Dev := (d.withdrawEngine e).engageSpare e (d.eng e).busy

/-- The event of a retirement. -/
def Dev.retirement (d : Dev) (e : Nat) : Own :=
  { code := Code.decEngineRetired, p0 := e, p1 := ((d.eng e).busy.map (·.stream)).getD 0xFFFF }

/-- The swap of the engines as it is reported. -/
def Dev.tellSwap (d : Dev) (e : Nat) : Dev :=
  ((((d.withdrawEngine e).raiseOwn (d.retirement e)).engageSpare e (d.eng e).busy).setN O.decodeSpareState 0 0).raise
    Code.decSpareEngaged 8 e

theorem Dev.bare_tellSwap (d : Dev) (e : Nat) : (d.tellSwap e).bare = (d.swapEngine e).bare := by
  have hcomm (x : Dev) : (x.engageSpare e (d.eng e).busy).bare = x.bare.engageSpare e (d.eng e).busy := rfl
  rw [Dev.tellSwap, Dev.bare_raise, Dev.bare_setN, hcomm, Dev.bare_raiseOwn, ← hcomm, ← Dev.swapEngine]

theorem Dev.movesDecode_withdrawEngine (d : Dev) (e : Nat) : d.movesDecode (d.withdrawEngine e) :=
  (d.movesDecode_modEng e _).trans (Dev.movesDecode_recordRetired _ 4 e)

theorem Dev.movesDecode_engageSpare (d : Dev) (e : Nat) (b : Option Busy) : d.movesDecode (d.engageSpare e b) :=
  ((d.movesDecode_modEng 8 _).trans (Dev.movesDecode_modEng _ e _)).trans (Dev.movesDecode_abandonTest _ 4 8)

theorem Dev.movesDecode_swapEngine (d : Dev) (e : Nat) : d.movesDecode (d.swapEngine e) :=
  (d.movesDecode_withdrawEngine e).trans (Dev.movesDecode_engageSpare _ e _)

theorem Dev.eng_withdrawEngine_ne (d : Dev) {e j : Nat} (hj : j ≠ e) : (d.withdrawEngine e).eng j = d.eng j :=
  Dev.eng_modEng_ne d (fun x => { x with state := .retired, busy := none }) hj

/-- The spare has no fuse: its state is the one it is held in. -/
theorem Dev.engState_spare (d : Dev) : d.engState 8 = (d.eng 8).state := by simp [Dev.engState]

/-- With the spare there, a retirement swaps the engines, moves the contexts and notes a lasting fault. -/
theorem Dev.retireEngine_spare {d : Dev} {e : Nat} (reason : Nat) (he : e < 8) (hspare : d.engState 8 = .spare) :
    d.retireEngine e reason = ((d.tellSwap e).moveContexts (d.engCtxs e) 8).noteLasting 4 e (d.retirement e) reason (some 8) 0
      (if (d.eng e).busy.isSome then 7 else 3) := by
  have hstill : ((d.withdrawEngine e).raiseOwn (d.retirement e)).engState 8 = .spare := by
    rw [Dev.engState_spare, Dev.of_bare (Dev.eng · 8) (fun _ => rfl) (Dev.bare_raiseOwn _ _),
      Dev.eng_withdrawEngine_ne d (Nat.ne_of_gt he), ← Dev.engState_spare, hspare]
  exact if_pos (by rw [decide_eq_true he, Bool.true_and, beq_iff_eq]; exact hstill)

/-- What a retirement leaves of the swap of the engines, past the reporting: one more lasting fault, and contexts moved. -/
theorem Dev.retireEngine_spare_keeps {d : Dev} {e : Nat} (reason : Nat) (he : e < 8) (hspare : d.engState 8 = .spare) :
    d.movesDecode (d.retireEngine e reason) ∧ (d.retireEngine e reason).engines = (d.swapEngine e).engines ∧
      (d.retireEngine e reason).health.retired = (d.swapEngine e).health.retired ∧
      (d.retireEngine e reason).health.lasting = (d.swapEngine e).health.lasting + 1 ∧
      ∀ st ∈ d.engCtxs e, ((d.retireEngine e reason).cx st).engine = 8 := by
  rw [Dev.retireEngine_spare reason he hspare]
  have hswapped := d.bare_tellSwap e
  have hswap := d.movesDecode_swapEngine e |>.of_bare hswapped
  have hengines : (d.tellSwap e).engines = (d.swapEngine e).engines := (congrArg Dev.engines hswapped :)
  have hhealth : (d.tellSwap e).health = (d.swapEngine e).health := Dev.of_bare Dev.health (fun _ => rfl) hswapped
  rw [← hengines, ← hhealth]
  generalize d.tellSwap e = w at *
  have hmoved := w.movesDecode_moveContexts (d.engCtxs e) 8
  have hnoted := Dev.movesLog_noteLasting (w.moveContexts (d.engCtxs e) 8) 4 e (d.retirement e) reason (some 8) 0
    (if (d.eng e).busy.isSome then 7 else 3)
  have hcounted := hmoved.trans (Dev.movesDecode_countLasting _ (d.retirement e).code)
  refine ⟨hswap.trans (hcounted.trans hnoted.movesDecode), ?_, ?_, ?_, fun st hst => ?_⟩
  · rw [hnoted.engines, Dev.engines_countLasting, Dev.engines_moveContexts]
  · rw [hnoted.retired, Dev.retired_countLasting, Dev.health_moveContexts]
  · rw [hnoted.lasting, Dev.lasting_countLasting, Dev.health_moveContexts]
  · rw [Dev.cx, hnoted.ctxs]
    exact Dev.engine_moveContexts (.inr hst)

theorem Dev.eng_recordRetired (d : Dev) (kind inst e : Nat) : (d.recordRetired kind inst).eng e = d.eng e := rfl
theorem Dev.eng_abandonTest (d : Dev) (kind inst e : Nat) : (d.abandonTest kind inst).eng e = d.eng e := rfl

theorem Dev.eng_swapEngine_retired (d : Dev) {e : Nat} (he : e < 8) :
    (d.swapEngine e).eng e = { d.eng e with state := .retired, busy := none, replacedBy := some 8 } := by
  rw [Dev.swapEngine, Dev.engageSpare, Dev.eng_abandonTest, Dev.eng_modEng, Dev.eng_modEng_ne _ _ (Nat.ne_of_lt he),
    Dev.withdrawEngine, Dev.eng_recordRetired, Dev.eng_modEng]

theorem Dev.eng_swapEngine_spare (d : Dev) {e : Nat} (he : e < 8) :
    (d.swapEngine e).eng 8 = { d.eng 8 with
      state := .active, busy := (d.eng e).busy.map fun y => { y with tries := 0, bad := false }, since := d.now } := by
  have h8 : 8 ≠ e := Nat.ne_of_gt he
  rw [Dev.swapEngine, Dev.engageSpare, Dev.eng_abandonTest, Dev.eng_modEng_ne _ _ h8, Dev.eng_modEng,
    Dev.withdrawEngine, Dev.eng_recordRetired, Dev.eng_modEng_ne _ _ h8]
  rfl

theorem Dev.retired_recordRetired (d : Dev) (kind inst : Nat) :
    (kind, inst) ∈ (d.recordRetired kind inst).health.retired := by
  unfold Dev.recordRetired
  dsimp only
  split
  next h => exact List.contains_iff_mem.mp h
  · exact List.mem_append_right _ (List.mem_singleton_self _)

/-! ### DEC_ENGINE_SELF_CHECK_FAIL -/

/-- The streams of an engine are read from the grade and the contexts. -/
theorem Dev.engCtxs_congr {x y : Dev} (e : Nat) (h : y.rn O.identityProductCode = x.rn O.identityProductCode)
    (hctxs : y.ctxs = x.ctxs) : y.engCtxs e = x.engCtxs e := by
  simp only [Dev.engCtxs, Dev.allStreams, Dev.gradeStreams, Dev.gradeHeads, Dev.cx, h, hctxs]

theorem Dev.engCtxs_raise (d : Dev) (c p0 p1 p2 p3 e : Nat) : (d.raise c p0 p1 p2 p3).engCtxs e = d.engCtxs e :=
  Dev.engCtxs_congr e ((d.quiet_raise c p0 p1 p2 p3).rn (by decide))
    (Dev.of_bare Dev.ctxs (fun _ => rfl) (d.bare_raise c p0 p1 p2 p3))

theorem Dev.eng_raise (d : Dev) (c p0 p1 p2 p3 e : Nat) : (d.raise c p0 p1 p2 p3).eng e = d.eng e :=
  Dev.of_bare (Dev.eng · e) (fun _ => rfl) (d.bare_raise c p0 p1 p2 p3)

/-- The fault of an engine is reported; its picture is run once more, or the engine is retired. -/
def Dev.engineFails (d : Dev) (e : Nat) (b : Busy) : Dev :=
  if b.tries = 0 then
    (d.raise Code.decEngineFault e b.stream).modEng e fun x => { x with busy := some { b with tries := 1 } }
  else (d.raise Code.decEngineFault e b.stream).retireEngine e 1

/-- What DEC_ENGINE_SELF_CHECK_FAIL does of an active engine with a picture. -/
theorem gives_decEngineSelfCheckFail {s : State} {t : Nat} {n : Fin 9} {b : Busy} {P : Dev → Prop} {d : Dev}
    (hd : s.dev.tick t = d) (halive : d.alive = true) (hactive : d.engState n = .active) (hbusy : (d.eng n).busy = some b)
    (p : P (d.engineFails n b)) : s.gives (.decEngineSelfCheckFail t n) P := by
  refine State.gives_when (b := fun d => d.alive && d.engState n == .active) hd rfl (by simp [halive, hactive]) ?_
  simpa only [hbusy, Dev.engineFails] using p

/-- The first failure: the picture is run again on the same engine. -/
theorem Dev.engineFails_first {d : Dev} {e : Nat} {b : Busy} (htries : b.tries = 0) (hfree : d.evFree 1 = true) :
    (d.engineFails e b).eng e = { d.eng e with busy := some { b with tries := 1 } } ∧
      (∀ o, o ≠ e → (d.engineFails e b).eng o = d.eng o) ∧
      d.logs (d.engineFails e b) Code.decEngineFault e b.stream ∧
      (d.engineFails e b).bare = { d.bare with engines := (d.engineFails e b).engines } ∧
      d.regsBut [] (d.engineFails e b) := by
  rw [Dev.engineFails, if_pos htries]
  refine ⟨?_, fun o ho => ?_, Dev.logs_raise _ _ _ _ _ hfree, ?_, (Dev.quiet_raise _ _ _ _ _ _).regsBut []⟩
  · rw [Dev.eng_modEng, Dev.eng_raise]
  · rw [Dev.eng_modEng_ne _ _ ho, Dev.eng_raise]
  · rw [← Dev.bare_raise d Code.decEngineFault e b.stream 0 0]
    rfl

/-- A second failure while engine 8 is a spare: the engine is retired, and the spare takes its picture and its contexts. -/
theorem Dev.engineFails_again {d : Dev} {e : Nat} {b : Busy} (hbusy : (d.eng e).busy = some b) (htries : b.tries ≠ 0)
    (he : e < 8) (hspare : d.engState 8 = .spare) :
    (d.engineFails e b).eng e = { d.eng e with state := .retired, busy := none, replacedBy := some 8 } ∧
      (d.engineFails e b).eng 8 =
        { d.eng 8 with state := .active, busy := some { b with tries := 0, bad := false }, since := d.now } ∧
      (4, e) ∈ (d.engineFails e b).health.retired ∧ (d.engineFails e b).health.lasting = d.health.lasting + 1 ∧
      (∀ st ∈ d.engCtxs e, ((d.engineFails e b).cx st).engine = 8) ∧ d.movesDecode (d.engineFails e b) := by
  have htold := d.bare_raise Code.decEngineFault e b.stream 0 0
  have heng := d.eng_raise Code.decEngineFault e b.stream 0 0
  have hctxs := d.engCtxs_raise Code.decEngineFault e b.stream 0 0 e
  rw [Dev.engineFails, if_neg htries]
  generalize d.raise Code.decEngineFault e b.stream = f at *
  have hspare : f.engState 8 = .spare := by rw [Dev.engState_spare, heng, ← Dev.engState_spare, hspare]
  obtain ⟨hmoves, hengines, hretired, hlasting, hmoved⟩ := Dev.retireEngine_spare_keeps 1 he hspare
  refine ⟨?_, ?_, ?_, ?_, hctxs ▸ hmoved, ?_⟩
  · rw [Dev.eng, hengines, ← Dev.eng, Dev.eng_swapEngine_retired f he, heng]
  · rw [Dev.eng, hengines, ← Dev.eng, Dev.eng_swapEngine_spare f he, heng, heng, hbusy,
      Dev.of_bare Dev.now (fun _ => rfl) htold]
    rfl
  · rw [hretired]
    exact Dev.retired_recordRetired _ 4 e
  · rw [hlasting, ← Dev.of_bare Dev.health (fun _ => rfl) htold]
    rfl
  · exact (Dev.movesDecode_of_eq htold).trans hmoves

theorem engineFails : Claims.EngineFails := by
  intro s t n b d halive hactive hbusy hfree
  refine ⟨fun htries => gives_decEngineSelfCheckFail rfl halive hactive hbusy (Dev.engineFails_first htries hfree),
    fun htries hn hspare => gives_decEngineSelfCheckFail rfl halive hactive hbusy ?_⟩
  obtain ⟨hold, hnew, hretired, hlasting, hctxs, hmoves⟩ := Dev.engineFails_again hbusy htries hn hspare
  rw [hold, hnew]
  exact ⟨rfl, rfl, rfl, rfl, rfl, hretired, hlasting, hctxs, hmoves⟩

/-! ### A full intra request (R124, R147, R161) -/

/-- A posted descriptor changes no register but the count of its ring and the count of late triggers. -/
theorem Dev.post_regs (d : Dev) (r : Nat) (x : TxDesc) {k : Nat} (hframes : k ≠ O.ringFrames.key r)
    (hlate : k ≠ O.timeTriggersLate.key 0) : tfind (d.post r x).dict.eff k = tfind d.dict.eff k := by
  have hcomplete (y : Dev) (s t : Nat) : tfind (y.complete r x s t).dict.eff k = tfind y.dict.eff k :=
    Dev.bump_regs (y.modRing r _) _ _ hframes
  unfold Dev.post
  extract_lets d1
  have hcounted : tfind d1.dict.eff k = tfind d.dict.eff k := by
    unfold d1
    split
    · exact Dev.bump_regs d _ _ hlate
    · rfl
  split
  · exact (hcomplete _ _ _).trans hcounted
  · split
    · exact (hcomplete _ _ _).trans hcounted
    · exact hcounted

theorem Dev.sendUdp_regs (d : Dev) (r : Nat) (a : Bytes) (p : Nat) (b : Bytes) {k : Nat} (hframes : k ≠ O.ringFrames.key r)
    (hlate : k ≠ O.timeTriggersLate.key 0) : tfind (d.sendUdp r a p b).dict.eff k = tfind d.dict.eff k :=
  Dev.post_regs d.fresh.2 r _ hframes hlate

/-- An intra request is counted and reported. -/
def Dev.countFir (d : Dev) (st : Nat) : Dev := (d.bump O.streamFirSent st).raise Code.decIntraRequested st

/-- Where there is nobody to ask, an intra request is counted and reported; else one datagram asks too. -/
theorem Dev.requestFir_cases (d : Dev) (st : Nat) : d.requestFir st = d.countFir st ∨ ∃ f q a p b,
    d.requestFir st = ((d.countFir st).fresh.2.modIng st f).sendUdp (16 * q + 10) a p b := by
  unfold Dev.requestFir
  dsimp only
  split
  · exact .inl rfl
  · exact .inr ⟨_, _, _, _, _, rfl⟩

theorem Dev.bare_countFir (d : Dev) (st : Nat) : (d.countFir st).bare = d.bare := by
  rw [Dev.countFir, Dev.bare_raise, Dev.bare_bump]

theorem Dev.bare_modIng (d : Dev) (st : Nat) (f : Ingest → Ingest) :
    (d.modIng st f).bare = { d.bare with ingest := (d.modIng st f).ingest } := rfl

theorem Dev.bare_requestFir (d : Dev) (st : Nat) :
    (d.requestFir st).bare = { d.bare with ingest := (d.requestFir st).ingest } := by
  rcases d.requestFir_cases st with h | ⟨f, q, a, p, b, h⟩
  · rw [h, Dev.of_bare Dev.ingest (fun _ => rfl) (d.bare_countFir st), Dev.bare_countFir]
    rfl
  · have hsent := Dev.bare_sendUdp ((d.countFir st).fresh.2.modIng st f) (16 * q + 10) a p b
    rw [h, Dev.of_bare Dev.ingest (fun _ => rfl) hsent, hsent, Dev.bare_modIng, Dev.bare_fresh, Dev.bare_countFir]

/-- Nothing of reporting falls on the count of intra requests, whatever port a stream is given. -/
theorem reportKey_streamFirSent (st : Nat) : reportKey (O.streamFirSent.key st) = false := by
  refine Bool.eq_false_iff.mpr fun h => ?_
  simp only [reportKey, Obj.has, Bool.or_eq_true, Bool.and_eq_true, beq_iff_eq, decide_eq_true_eq] at h
  simp only [Obj.key, O.streamFirSent, O.dictEventsLast, O.dictEventsLost, O.timeTriggersLate, O.ringFrames] at h
  omega

theorem Dev.rn_requestFir (d : Dev) (st : Nat) :
    (d.requestFir st).rn O.streamFirSent st = upTo O.streamFirSent (d.rn O.streamFirSent st) := by
  have hcounted : (d.countFir st).rn O.streamFirSent st = upTo O.streamFirSent (d.rn O.streamFirSent st) := by
    rw [Dev.countFir, (Dev.quiet_raise _ _ _ _ _ _).rn (reportKey_streamFirSent st), Dev.rn_bump _ _ _ (by decide)]
  rw [← hcounted]
  rcases d.requestFir_cases st with h | ⟨f, q, a, p, b, h⟩
  · rw [h]
  · rw [h]
    refine Dev.rn_congr ((Dev.sendUdp_regs _ _ _ _ _ ?_ ?_).trans rfl)
    · simp only [Obj.key, O.streamFirSent, O.ringFrames]
      omega
    · exact ne_of_report (reportKey_streamFirSent st) (by decide)

theorem Dev.logs_requestFir {d : Dev} (st : Nat) (hfree : d.evFree 1 = true) :
    d.logs (d.requestFir st) Code.decIntraRequested st 0 := by
  have hbumped := Dev.records_of_bare (d.bare_bump O.streamFirSent st) (Dev.bump_events _ _ _)
  have hcounted : d.logs (d.countFir st) Code.decIntraRequested st 0 :=
    hbumped.then_logs (Dev.logs_raise _ _ _ _ _ (hbumped.evFree hfree))
  rcases d.requestFir_cases st with h | ⟨f, q, a, p, b, h⟩
  · rwa [h]
  · rw [h]
    have hasked : Dev.records 0 (d.countFir st) ((d.countFir st).fresh.2.modIng st f) := Dev.records_of_events_eq rfl rfl
    exact (hcounted.then_records hasked).then_records
      (Dev.records_of_bare (Dev.bare_sendUdp _ _ _ _ _) (Dev.sendUdp_events _ _ _ _ _))

/-- A context changes and asks for an intra picture: no other context changes, and the request is counted and reported. -/
theorem Dev.requestFir_modCx (d : Dev) (st : Nat) (f : Ctx → Ctx) (hfree : d.evFree 1 = true) :
    ((d.modCx st f).requestFir st).cx st = f (d.cx st) ∧ (∀ o, o ≠ st → ((d.modCx st f).requestFir st).cx o = d.cx o) ∧
      ((d.modCx st f).requestFir st).rn O.streamFirSent st = upTo O.streamFirSent (d.rn O.streamFirSent st) ∧
      d.logs ((d.modCx st f).requestFir st) Code.decIntraRequested st 0 ∧
      ((d.modCx st f).requestFir st).bare = { d.bare with
        ctxs := ((d.modCx st f).requestFir st).ctxs, ingest := ((d.modCx st f).requestFir st).ingest } := by
  have hbare := (d.modCx st f).bare_requestFir st
  have hctxs : ((d.modCx st f).requestFir st).ctxs = (d.modCx st f).ctxs := (congrArg Dev.ctxs hbare :)
  have hcx (o : Nat) : ((d.modCx st f).requestFir st).cx o = (d.modCx st f).cx o := (congrArg (Dev.cx · o) hbare :)
  have hchanged : Dev.records 0 d (d.modCx st f) := Dev.records_of_events_eq rfl rfl
  refine ⟨(hcx st).trans (Dev.cx_modCx d st f), fun o ho => (hcx o).trans (Dev.cx_modCx_ne d f ho), Dev.rn_requestFir _ st,
    hchanged.then_logs (Dev.logs_requestFir st (hchanged.evFree hfree)), ?_⟩
  rw [hctxs]
  exact hbare

/-- A timer has run out. -/
def Dev.ranOut (d : Dev) (timer : Option Nat) : Bool :=
  match timer with
  | some x => x ≤ d.now
  | none => false

theorem Dev.ranOut_some {d : Dev} {x : Nat} (h : x ≤ d.now) : d.ranOut (some x) = true := decide_eq_true h

theorem exec_startWaitExpiry (t : Nat) (st : Fin 128) (s : State) : exec (.startWaitExpiry t st) s =
    s.run t fun d => d.when (d.alive && (d.cx st).state == .waiting && d.ranOut (d.cx st).startTimer) fun d =>
      (d.modCx st fun c => { c with
        startTimer := none, firNext := some (d.now + 1000000 * d.rn O.streamFirInterval st) }).requestFir st := rfl

theorem exec_firIntervalExpiry (t : Nat) (st : Fin 128) (s : State) : exec (.firIntervalExpiry t st) s =
    s.run t fun d => d.when (d.alive && ((d.cx st).state == .waiting || (d.cx st).state == .tainted) &&
        d.ranOut (d.cx st).firNext) fun d =>
      (d.modCx st fun c => { c with firNext := some (d.now + 1000000 * d.rn O.streamFirInterval st) }).requestFir st := rfl

theorem intraRequested : Claims.IntraRequested := by
  intro s t st x d c halive hx hfree
  refine ⟨fun hstate htimer => ?_, fun hstate hnext => ?_⟩
  · refine State.gives_when (d := d) rfl (exec_startWaitExpiry t st s) ?_ (d.requestFir_modCx st _ hfree)
    simp [halive, hstate, htimer, Dev.ranOut_some hx]
  · refine State.gives_when (d := d) rfl (exec_firIntervalExpiry t st s) ?_ (d.requestFir_modCx st _ hfree)
    simp [halive, hstate, hnext, Dev.ranOut_some hx]

/-- Settles O22: while engine 8 is a spare a retirement comes to a swap of the two engines, a move of the contexts and a lasting
fault (`Dev.retireEngine_spare`), of which the reporting touches nothing else; both timers change their own context and ask
(`Dev.requestFir_modCx`), and a datagram on any ring misses the count of requests (`Dev.rn_requestFir`). -/
theorem decodeRecovers : Obligations.DecodeRecovers := ⟨engineFails, intraRequested⟩

end Sys2Proof.Machine

/-! PROOFS of the family '06_composition.md': a post to a content slot and the end of a write-back (R187, R189); a commit is
validated, falls due and takes effect (R173, R175, R176). -/

namespace Sys2Proof.Machine

/-! ### The cache is asked for builds (R212, R213) -/

/-- From `d` to `e` nothing but the list of waiting builds of the cache moved. -/
def Dev.queuesBuilds (d e : Dev) : Prop := ∃ bs, e = { d with bivouac := { d.bivouac with builds := bs } }

theorem Dev.queuesBuilds.refl (d : Dev) : d.queuesBuilds d := ⟨d.bivouac.builds, rfl⟩

theorem Dev.queuesBuilds.trans {a b c : Dev} (h : a.queuesBuilds b) (g : b.queuesBuilds c) : a.queuesBuilds c := by
  obtain ⟨_, rfl⟩ := h
  obtain ⟨bs, rfl⟩ := g
  exact ⟨bs, rfl⟩

theorem Dev.queuesBuilds.eq {d e : Dev} (h : d.queuesBuilds e) : e = { d with bivouac := e.bivouac } := by
  obtain ⟨_, rfl⟩ := h
  rfl

theorem Dev.queuesBuilds.copies {d e : Dev} (h : d.queuesBuilds e) : e.bivouac.copies = d.bivouac.copies := by
  obtain ⟨_, rfl⟩ := h
  rfl

theorem Dev.queuesBuilds.dict {d e : Dev} (h : d.queuesBuilds e) : e.dict = d.dict := (congrArg Dev.dict h.eq :)

theorem Dev.queuesBuilds.groups {d e : Dev} (h : d.queuesBuilds e) : e.groups = d.groups := (congrArg Dev.groups h.eq :)

theorem Dev.queuesBuilds_wantBuild (d : Dev) (key : CopyKey) (urgent : Bool) : d.queuesBuilds (d.wantBuild key urgent) := by
  unfold Dev.wantBuild Dev.modBiv
  dsimp only
  split
  · exact ⟨_, rfl⟩
  · split
    · exact ⟨_, rfl⟩
    · exact ⟨_, rfl⟩

theorem Dev.queuesBuilds_dropBuilds (d : Dev) : d.queuesBuilds d.dropBuilds := ⟨_, rfl⟩

theorem Dev.queuesBuilds_buildsFor (d : Dev) (g : Nat) (tb : GTable) : d.queuesBuilds (d.buildsFor g tb) := by
  refine List.foldlRecOn _ _ (Dev.queuesBuilds.refl d) fun e he key _ => he.trans ?_
  split
  · exact Dev.queuesBuilds.refl e
  · exact e.queuesBuilds_wantBuild key false

theorem Dev.queuesBuilds_postTriggers (d : Dev) (slot : Nat) : d.queuesBuilds (d.postTriggers slot) :=
  List.foldlRecOn _ _ (Dev.queuesBuilds.refl d) fun e he key _ => he.trans (e.queuesBuilds_wantBuild key false)

/-! ### SLOT_POST (R187) -/

/-- The post becomes the newest of its slot, and builds are asked for where copies draw from the slot. -/
def Dev.takePost (d : Dev) (slot buf tm : Nat) : Dev :=
  ({ d with slots := tset d.slots slot { post := some (buf, tm) } }).postTriggers slot

theorem exec_slotPost (t : Nat) (slot : Fin 256) (buf : Fin 4) (tm : Nat) (s : State) : exec (.slotPost t slot buf tm) s =
    s.run t fun d => d.when d.alive fun d =>
      if d.postPinned slot buf then d.raise Code.slotBusy slot buf else d.takePost slot buf tm := rfl

theorem Dev.queuesBuilds_takePost (d : Dev) (slot buf tm : Nat) :
    Dev.queuesBuilds { d with slots := tset d.slots slot { post := some (buf, tm) } } (d.takePost slot buf tm) :=
  Dev.queuesBuilds_postTriggers _ slot

theorem Dev.slots_takePost (d : Dev) (slot buf tm : Nat) :
    (d.takePost slot buf tm).slots = tset d.slots slot { post := some (buf, tm) } :=
  (congrArg Dev.slots (d.queuesBuilds_takePost slot buf tm).eq :)

theorem postTaken : Claims.PostTaken := by
  intro s t slot buf tm d halive hfree
  refine State.gives_when (d := d) rfl (exec_slotPost t slot buf tm s) halive ?_
  rw [hfree, if_neg Bool.false_ne_true]
  have hqueues := d.queuesBuilds_takePost slot buf tm
  rw [Dev.slots_takePost]
  exact ⟨tget_tset_self _ _ _ _, fun o ho => tget_tset_ne _ _ _ ho, hqueues.copies, hqueues.eq⟩

theorem postBusy : Claims.PostBusy := by
  intro s t slot buf tm d halive hpinned hfree
  refine State.gives_when (d := d) rfl (exec_slotPost t slot buf tm s) halive ?_
  rw [if_pos hpinned]
  exact ⟨Dev.logs_raise _ _ _ _ _ hfree, Dev.bare_raise .., (Dev.quiet_raise _ _ _ _ _ _).regsBut []⟩

/-! ### WRITEBACK_FRAME_COMPLETE (R189) -/

/-- The buffers of a head with the frame of buffer `id` complete at an instant. -/
def wbDone (wb : List WbBuf) (id at_ : Nat) : List WbBuf :=
  wb.map fun v => if v.id = id then { v with completion := some at_ } else v

theorem exec_writebackFrameComplete (t : Nat) (h : Fin 32) (s : State) : exec (.writebackFrameComplete t h) s =
    s.run t fun d => d.when d.alive fun d => d.wbComplete h := rfl

/-- The one frame being written is the oldest, so it is the one that completes. -/
theorem Dev.wbComplete_of_single {d : Dev} {h : Nat} {w : WbBuf} (hw : (d.hd h).wb.filter (·.completion.isNone) = [w]) :
    d.wbComplete h = d.modHd h fun x => { x with wb := wbDone x.wb w.id d.now } := by
  rw [Dev.wbComplete, hw]
  rfl

theorem mem_wbDone {wb : List WbBuf} {w : WbBuf} (at_ : Nat) (hw : w ∈ wb) :
    { w with completion := some at_ } ∈ wbDone wb w.id at_ :=
  List.mem_map.mpr ⟨w, hw, if_pos rfl⟩

theorem writebackCompletes : Claims.WritebackCompletes := by
  intro s t h w d halive hw
  refine State.gives_when (d := d) rfl (exec_writebackFrameComplete t h s) halive ?_
  rw [Dev.wbComplete_of_single hw, Dev.hd_modHd]
  have hmem : w ∈ (d.hd h).wb := (List.mem_filter.mp (hw ▸ List.mem_singleton_self w)).1
  exact ⟨mem_wbDone d.now hmem, List.length_map _, fun o ho => Dev.hd_modHd_ne d _ ho, rfl⟩

/-- Settles O12: a post changes its slot and asks for builds, which leave every copy in place (`Dev.queuesBuilds_takePost`); a
pinned buffer is reported and nothing else; the only frame in writing is the oldest of them (`Dev.wbComplete_of_single`). -/
theorem slotsPosted : Obligations.SlotsPosted := ⟨postTaken, postBusy, writebackCompletes⟩

/-! ### COMMIT_VALIDATION_DONE (R175) -/

/-- What a validation does of a group that has nothing to validate again. -/
theorem gives_commitValidationDone {s : State} {t : Nat} {g : Fin 8} {tb : GTable} {P : Dev → Prop} {d : Dev}
    (hd : s.dev.tick t = d) (halive : d.alive = true) (hagain : (d.grp g).revalidate = false)
    (htable : (d.grp g).validating = some tb) (p : P (d.validated g tb)) : s.gives (.commitValidationDone t g) P := by
  refine State.gives_when (b := fun d => d.alive) hd rfl halive ?_
  simpa only [hagain, htable] using p

/-- Past the reporting, from `d` to `e` nothing moved but group `g` with its armed token and its refusal, the builds, and what a
Second counts. -/
def Dev.movesGroup (g : Nat) (d e : Dev) : Prop :=
  (∀ o, o ≠ g → e.grp o = d.grp o) ∧
    e.bare = { d.bare with groups := e.groups, bivouac := e.bivouac, twin := e.twin } ∧
    d.regsBut [O.groupArmedToken.key g, O.groupRefusal.key g] e

theorem Dev.movesGroup.trans {g : Nat} {a b c : Dev} (h : Dev.movesGroup g a b) (k : Dev.movesGroup g b c) :
    Dev.movesGroup g a c := by
  obtain ⟨hgrp, hbare, hregs⟩ := h
  obtain ⟨kgrp, kbare, kregs⟩ := k
  exact ⟨fun o ho => (kgrp o ho).trans (hgrp o ho), by rw [kbare, hbare],
    fun i hi hr => (kregs i hi hr).trans (hregs i hi hr)⟩

theorem Dev.movesGroup_modGrp (d : Dev) (g : Nat) (f : Group → Group) : Dev.movesGroup g d (d.modGrp g f) :=
  ⟨fun _ ho => Dev.grp_modGrp_ne d f ho, rfl, fun _ _ _ => rfl⟩

theorem Dev.movesGroup_setKey (d : Dev) {g k : Nat} (v : Val) (hk : k ∈ [O.groupArmedToken.key g, O.groupRefusal.key g]) :
    Dev.movesGroup g d (d.setKey k v) :=
  ⟨fun _ _ => rfl, rfl, fun _ hi _ => Dev.setKey_eff_ne d v fun heq => hi (heq ▸ hk)⟩

theorem Dev.movesGroup_raise (d : Dev) (g c p0 p1 p2 p3 : Nat) : Dev.movesGroup g d (d.raise c p0 p1 p2 p3) := by
  have hbare := d.bare_raise c p0 p1 p2 p3
  refine ⟨fun o _ => Dev.of_bare (Dev.grp · o) (fun _ => rfl) hbare, ?_, (d.quiet_raise c p0 p1 p2 p3).regsBut _⟩
  rw [Dev.of_bare Dev.groups (fun _ => rfl) hbare, Dev.of_bare Dev.bivouac (fun _ => rfl) hbare,
    Dev.of_bare Dev.twin (fun _ => rfl) hbare, hbare]
  rfl

theorem Dev.queuesBuilds.movesGroup {d e : Dev} (h : d.queuesBuilds e) (g : Nat) : Dev.movesGroup g d e := by
  obtain ⟨_, rfl⟩ := h
  exact ⟨fun _ _ => rfl, rfl, fun _ _ _ => rfl⟩

/-- A group whose table validated, armed at an instant. -/
def Group.arm (x : Group) (tb : GTable) (at_ : Nat) : Group :=
  { x with validating := none, armed := some { tb with armedAt := at_ } }.settle false

/-- A group whose table did not validate. -/
def Group.refuse (x : Group) : Group := { x with validating := none }.settle true

/-- A validated table is armed, and the token of its request shown. -/
def Dev.armTable (d : Dev) (g token : Nat) (tb : GTable) : Dev :=
  (d.modGrp g (·.arm tb d.now)).setN O.groupArmedToken g token

theorem Dev.movesGroup_armTable (d : Dev) (g token : Nat) (tb : GTable) : Dev.movesGroup g d (d.armTable g token tb) :=
  (d.movesGroup_modGrp g _).trans (Dev.movesGroup_setKey _ _ (by simp))

theorem Dev.validated_ok {d : Dev} {g : Nat} {tb tb' : GTable} (h : d.validate g tb = .ok tb') :
    d.validated g tb = ((d.armTable g tb.token tb').buildsFor g tb').dropBuilds := by
  rw [Dev.validated, h]
  rfl

theorem Dev.validated_arms {d : Dev} {g : Nat} {tb tb' : GTable} (h : d.validate g tb = .ok tb') :
    (d.validated g tb).grp g = (d.grp g).arm tb' d.now ∧ (d.validated g tb).rn O.groupArmedToken g = tb.token ∧
      Dev.movesGroup g d (d.validated g tb) := by
  rw [Dev.validated_ok h]
  have hqueued := ((d.armTable g tb.token tb').queuesBuilds_buildsFor g tb').trans (Dev.queuesBuilds_dropBuilds _)
  refine ⟨?_, ?_, (d.movesGroup_armTable g tb.token tb').trans (hqueued.movesGroup g)⟩
  · rw [Dev.grp, hqueued.groups]
    exact Dev.grp_modGrp d g (·.arm tb' d.now)
  · rw [Dev.rn_congr (congrArg (fun x : Dict => tfind x.eff _) hqueued.dict), Dev.armTable, Dev.rn_setN, Int.toNat_natCast]

/-- A Second counts the refusals of its commits (R401). -/
def Dev.countRefusal (d : Dev) : Dev :=
  if d.twin.role == .second then { d with twin := { d.twin with refusals := d.twin.refusals + 1 } } else d

theorem Dev.countRefusal_eq (d : Dev) : d.countRefusal = { d with twin := d.countRefusal.twin } := by
  unfold Dev.countRefusal
  split <;> rfl

theorem Dev.movesGroup_countRefusal (d : Dev) (g : Nat) : Dev.movesGroup g d d.countRefusal := by
  rw [Dev.countRefusal_eq]
  exact ⟨fun _ _ => rfl, rfl, fun _ _ _ => rfl⟩

theorem Dev.grp_refuseCommit (d : Dev) (g token : Nat) (r : Refusal68) :
    (d.refuseCommit g token r).grp g = { d.grp g with refusal := r } :=
  (Dev.of_bare (Dev.grp · g) (fun _ => rfl) (Dev.bare_raise _ _ _ _ _ _)).trans
    (Dev.grp_modGrp d g fun x => { x with refusal := r })

theorem Dev.movesGroup_refuseCommit (d : Dev) (g token : Nat) (r : Refusal68) :
    Dev.movesGroup g d (d.refuseCommit g token r) :=
  ((d.movesGroup_modGrp g _).trans (Dev.movesGroup_setKey _ (.raw r.bytes) (by simp))).trans (Dev.movesGroup_raise _ g _ _ _ _ _)

theorem Dev.validated_error {d : Dev} {g : Nat} {tb : GTable} {r : Refusal68} (h : d.validate g tb = .error r) :
    d.validated g tb = (d.countRefusal.modGrp g Group.refuse).refuseCommit g tb.token r := by
  rw [Dev.validated, h]
  rfl

theorem Dev.validated_refuses {d : Dev} {g : Nat} {tb : GTable} {r : Refusal68} (h : d.validate g tb = .error r) :
    (d.validated g tb).grp g = { (d.grp g).refuse with refusal := r } ∧ Dev.movesGroup g d (d.validated g tb) := by
  rw [Dev.validated_error h]
  refine ⟨?_, ((d.movesGroup_countRefusal g).trans (Dev.movesGroup_modGrp _ g _)).trans (Dev.movesGroup_refuseCommit _ g _ r)⟩
  rw [Dev.grp_refuseCommit, Dev.grp_modGrp, Dev.countRefusal_eq]
  rfl

theorem validationEnds : Claims.ValidationEnds := by
  intro s t g tb d halive hagain htable
  refine gives_commitValidationDone (d := d) rfl halive hagain htable ?_
  cases hvalid : d.validate g tb with
  | ok tb' =>
    obtain ⟨hgrp, htoken, hrest⟩ := Dev.validated_arms hvalid
    rw [hgrp]
    refine ⟨rfl, rfl, fun tb'' h => ?_, fun _ h => (nomatch h), hrest⟩
    obtain rfl := Except.ok.inj h
    exact ⟨rfl, htoken⟩
  | error r =>
    obtain ⟨hgrp, hrest⟩ := Dev.validated_refuses hvalid
    rw [hgrp]
    exact ⟨rfl, rfl, fun _ h => (nomatch h), fun _ h => ⟨rfl, Except.error.inj h⟩, hrest⟩

/-! ### COMMIT_DUE (R176, R401) -/

/-- What COMMIT_DUE does of an armed table past its deadline, in a twin of one that a record carries. -/
theorem gives_commitDue {s : State} {t : Nat} {g : Fin 8} {tb : GTable} {P : Dev → Prop} {d : Dev} (hd : s.dev.tick t = d)
    (halive : d.alive = true) (harmed : (d.grp g).armed = some tb) (hdue : (d.grp g).due = none)
    (hagain : (d.grp g).revalidate = false)
    (hcarried : d.twin.role ≠ .lead ∧ d.twin.role ≠ .second ∨ tb.carried.isSome = true)
    (hdeadline : six (d.applyAt g tb) ≤ six d.now + d.deadline6 g)
    (p : P (d.modGrp g fun x => { x with armed := none, due := some { tb with due := some (d.applyAt g tb) } })) :
    s.gives (.commitDue t g) P := by
  have hfalls : ((!(d.twin.role == .lead || d.twin.role == .second) || tb.carried.isSome) &&
      decide (six (d.applyAt g tb) ≤ six d.now + d.deadline6 g)) = true := by
    simpa [hdeadline] using hcarried
  refine State.gives_when (b := fun d => d.alive) hd rfl halive ?_
  simpa only [harmed, hdue, hagain, if_pos hfalls] using p

theorem commitFallsDue : Claims.CommitFallsDue := by
  intro s t g tb d halive harmed hdue hagain hcarried hdeadline
  refine gives_commitDue (d := d) rfl halive harmed hdue hagain hcarried hdeadline ?_
  exact ⟨Dev.grp_modGrp d g _, fun o ho => Dev.grp_modGrp_ne d _ ho, rfl⟩

/-! ### A record outlives the raise that makes it (R341) -/

/-- The record that a raise appends. -/
def Dev.eventOf (d : Dev) (c p0 p1 p2 p3 : Nat) : EventRec :=
  ⟨c, p0 % 2 ^ 16, p1 % 2 ^ 16, p2 % 2 ^ 32, p3 % 2 ^ 32, d.dict.evNext, d.clock⟩

/-- A full ring loses its oldest record, and the new one comes last. -/
theorem Dev.appendEvent_events (d : Dev) (c p0 p1 p2 p3 : Nat) : (d.appendEvent c p0 p1 p2 p3).dict.events =
    d.dict.events.drop (if 4096 ≤ d.dict.events.length then 1 else 0) ++ [d.eventOf c p0 p1 p2 p3] := by
  have hevents : (d.appendEvent c p0 p1 p2 p3).dict.events =
      if 4096 < (d.dict.events ++ [d.eventOf c p0 p1 p2 p3]).length then
        (d.dict.events ++ [d.eventOf c p0 p1 p2 p3]).drop 1
      else d.dict.events ++ [d.eventOf c p0 p1 p2 p3] := by
    unfold Dev.appendEvent
    extract_lets e all _ d1 d2
    split
    · exact Dev.bump_events d2 _ _
    · rfl
  rw [hevents, List.length_append, List.length_singleton]
  by_cases hfull : 4096 ≤ d.dict.events.length
  · rw [if_pos (Nat.lt_succ_of_le hfull), if_pos hfull, List.drop_append_of_le_length (by omega)]
  · rw [if_neg (by omega), if_neg hfull, List.drop_zero]

/-- The newest record of a ring of some length is there after one more. -/
theorem Dev.mem_appendEvent_of_last {d : Dev} {l : List EventRec} {x : EventRec} (h : d.dict.events = l ++ [x])
    (c p0 p1 p2 p3 : Nat) : x ∈ (d.appendEvent c p0 p1 p2 p3).dict.events := by
  have hdrop : (if 4096 ≤ (l ++ [x]).length then 1 else 0) ≤ l.length := by
    rw [List.length_append, List.length_singleton]
    split <;> omega
  rw [Dev.appendEvent_events, h, List.drop_append_of_le_length hdrop]
  simp

/-- What a raise appends is in the ring after it, whether or not the ring was full. -/
theorem Dev.mem_events_raise (d : Dev) (c p0 p1 p2 p3 : Nat) :
    d.eventOf c p0 p1 p2 p3 ∈ (d.raise c p0 p1 p2 p3).dict.events := by
  unfold Dev.raise
  extract_lets full d1
  obtain ⟨l, hnew⟩ : ∃ l, d1.dict.events = l ++ [d.eventOf c p0 p1 p2 p3] :=
    ⟨_, (Dev.deliver_events _).trans (d.appendEvent_events c p0 p1 p2 p3)⟩
  clear_value d1
  split
  · rw [Dev.deliver_events]
    exact Dev.mem_appendEvent_of_last (d := d1.noteRaise _) hnew _ _ _ _ _
  · rw [hnew]
    exact List.mem_append_right _ (List.mem_singleton_self _)

/-! ### What a table reaches as it takes effect (R173, R176) -/

/-- The units that a table reaches as it takes effect moved from `d` to `e`, and past the reporting nothing else; the count of
commits of group `g` is as it was. -/
def Dev.takes (g : Nat) (d e : Dev) : Prop :=
  e.bare = { d.bare with
    activeT := e.activeT, layers := e.layers, heads := e.heads, links := e.links, panels := e.panels, touch := e.touch } ∧
  tfind e.dict.eff (O.groupCommits.key g) = tfind d.dict.eff (O.groupCommits.key g)

theorem Dev.takes.refl (g : Nat) (d : Dev) : Dev.takes g d d := ⟨rfl, rfl⟩

theorem Dev.takes.trans {g : Nat} {a b c : Dev} (h : Dev.takes g a b) (k : Dev.takes g b c) : Dev.takes g a c := by
  obtain ⟨hbare, hcommits⟩ := h
  obtain ⟨kbare, kcommits⟩ := k
  exact ⟨by rw [kbare, hbare], kcommits.trans hcommits⟩

/-- Steps taken one after another. -/
theorem Dev.takes_foldl {α : Type} {g : Nat} (d : Dev) (l : List α) (f : Dev → α → Dev)
    (hf : ∀ d : Dev, ∀ x ∈ l, Dev.takes g d (f d x)) : Dev.takes g d (l.foldl f d) :=
  List.foldlRecOn _ _ (Dev.takes.refl g d) fun e he x hx => he.trans (hf e x hx)

theorem Dev.takes_of_bare {g : Nat} {d e : Dev} (h : e.bare = d.bare)
    (hcommits : tfind e.dict.eff (O.groupCommits.key g) = tfind d.dict.eff (O.groupCommits.key g)) : Dev.takes g d e := by
  refine ⟨?_, hcommits⟩
  rw [Dev.of_bare Dev.activeT (fun _ => rfl) h, Dev.of_bare Dev.layers (fun _ => rfl) h, Dev.of_bare Dev.heads (fun _ => rfl) h,
    Dev.of_bare Dev.links (fun _ => rfl) h, Dev.of_bare Dev.panels (fun _ => rfl) h, Dev.of_bare Dev.touch (fun _ => rfl) h, h]
  rfl

theorem Dev.takes_modHd (g : Nat) (d : Dev) (h : Nat) (f : Head → Head) : Dev.takes g d (d.modHd h f) := ⟨rfl, rfl⟩
theorem Dev.takes_modLy (g : Nat) (d : Dev) (n : Nat) (f : Layer → Layer) : Dev.takes g d (d.modLy n f) := ⟨rfl, rfl⟩
theorem Dev.takes_modLk (g : Nat) (d : Dev) (h : Nat) (f : Link → Link) : Dev.takes g d (d.modLk h f) := ⟨rfl, rfl⟩
theorem Dev.takes_modPn (g : Nat) (d : Dev) (n : Nat) (f : Panel → Panel) : Dev.takes g d (d.modPn n f) := ⟨rfl, rfl⟩
theorem Dev.takes_bumpAction (g : Nat) (d : Dev) (r k : Nat) : Dev.takes g d (d.bumpAction r k) := ⟨rfl, rfl⟩

theorem Dev.takes_setKey {g k : Nat} (d : Dev) (v : Val) (hk : k ≠ O.groupCommits.key g) : Dev.takes g d (d.setKey k v) :=
  ⟨rfl, Dev.setKey_eff_ne d v hk.symm⟩

theorem Dev.takes_bump {g : Nat} (d : Dev) (o : Obj) (i : Nat) (hk : o.key i ≠ O.groupCommits.key g) :
    Dev.takes g d (d.bump o i) := Dev.takes_of_bare (d.bare_bump o i) (Dev.bump_regs d o i hk.symm)

/-- Reporting has no register at the count of commits of a group or at its applied token. -/
theorem reportKey_groupRegisters :
    ∀ g < 8, reportKey (O.groupCommits.key g) = false ∧ reportKey (O.groupAppliedToken.key g) = false := by decide

/-- The pipe and port of a head of any number miss the counts of commits: they differ in the sub-index. -/
theorem headPlace_ne_groupCommits (h g : Nat) :
    O.headPipe.key h ≠ O.groupCommits.key g ∧ O.headPort.key h ≠ O.groupCommits.key g := by
  simp only [Obj.key, O.headPipe, O.headPort, O.groupCommits]
  omega

theorem touchEventsLost_ne_groupCommits : ∀ g < 8, O.touchEventsLost.key 0 ≠ O.groupCommits.key g := by decide

/-! #### A head moves to a port, starts or stops -/

theorem Dev.takes_place (g : Nat) (d : Dev) (h k q : Nat) : Dev.takes g d (d.place h k q) := by
  have hset (e : Dev) (o : Nat) (i j : Int) : Dev.takes g e ((e.setN O.headPipe o i).setN O.headPort o j) :=
    (Dev.takes_setKey e _ (headPlace_ne_groupCommits o g).1).trans (Dev.takes_setKey _ _ (headPlace_ne_groupCommits o g).2)
  refine (Dev.takes_foldl d d.allHeads _ fun e o _ => ?_).trans (hset _ h k q)
  split
  · exact hset e o 0xFF 0xFF
  · exact Dev.takes.refl g e

theorem Dev.takes_linkTo (g : Nat) (d : Dev) (h : Nat) (st : LinkState) : Dev.takes g d (d.linkTo h st) := by
  rw [Dev.linkTo_eq]
  exact ⟨rfl, rfl⟩

theorem Dev.takes_linkEnable (g : Nat) (d : Dev) (h : Nat) : Dev.takes g d (d.linkEnable h) := by
  unfold Dev.linkEnable
  split
  · split
    · exact (Dev.takes_linkTo g d h .reading).trans (Dev.takes_modLk g _ h _)
    · exact Dev.takes_linkTo g d h .absent
  · exact Dev.takes.refl g d

theorem Dev.takes_linkDisable (g : Nat) (d : Dev) (h : Nat) : Dev.takes g d (d.linkDisable h) :=
  (Dev.takes_linkTo g d h .disabled).trans (Dev.takes_modLk g _ h _)

theorem Dev.takes_headStop (g : Nat) (d : Dev) (h : Nat) : Dev.takes g d (d.headStop h) := by
  refine Dev.takes.trans ?_ (Dev.takes_modHd g _ h _)
  split
  · exact Dev.takes_place g d h _ _
  · exact Dev.takes.refl g d

section

variable {g : Nat} (hg : g < 8)
include hg

theorem Dev.takes_raise (d : Dev) (c p0 p1 p2 p3 : Nat) : Dev.takes g d (d.raise c p0 p1 p2 p3) :=
  Dev.takes_of_bare (Dev.bare_raise ..) (Dev.quiet_raise _ _ _ _ _ _ _ (reportKey_groupRegisters g hg).1)

theorem Dev.takes_raiseOnce (d : Dev) (n u c p0 p1 p2 p3 : Nat) : Dev.takes g d (d.raiseOnce n u c p0 p1 p2 p3) :=
  Dev.takes_of_bare (Dev.bare_raiseOnce ..) (Dev.quiet_raiseOnce _ _ _ _ _ _ _ _ _ (reportKey_groupRegisters g hg).1)

/-! #### The panels of a head lift their contacts and cancel their holds -/

theorem Dev.takes_postTouch (d : Dev) (r : Bytes) (event reason : Nat) : Dev.takes g d (d.postTouch r event reason) := by
  unfold Dev.postTouch
  extract_lets r t full lost d1
  have hposted : Dev.takes g d d1 := ⟨rfl, rfl⟩
  split
  · exact (hposted.trans (Dev.takes_bump d1 _ 0 (touchEventsLost_ne_groupCommits g hg))).trans
      (Dev.takes_raiseOnce hg _ _ _ _ _ _ _ _)
  · exact hposted

theorem Dev.takes_cancelHold (d : Dev) (n : Nat) (k : Hold) : Dev.takes g d (d.cancelHold n k) :=
  ((Dev.takes_bumpAction g d _ _).trans (Dev.takes_postTouch hg _ _ _ _)).trans (Dev.takes_raise hg _ _ _ _ _ _)

theorem Dev.takes_cancelHolds (d : Dev) (n : Nat) (bad : Hold → Bool) : Dev.takes g d (d.cancelHolds n bad) :=
  (Dev.takes_modPn g d n _).trans (Dev.takes_foldl _ _ _ fun e k _ => Dev.takes_cancelHold hg e n k)

theorem Dev.takes_panelTo (d : Dev) (n : Nat) (st : PanelState) (reason : Nat) : Dev.takes g d (d.panelTo n st reason) := by
  have hlift := Dev.takes_foldl (g := g) d ((d.pn n).contacts.filter fun c => !c.silent)
    (fun (d : Dev) c => d.postTouch c.record 2 reason) fun e c _ => Dev.takes_postTouch hg e _ _ _
  exact (hlift.trans (Dev.takes_cancelHolds hg _ n _)).trans (Dev.takes_modPn g _ n _)

theorem Dev.takes_panelStart (d : Dev) (n : Nat) : Dev.takes g d (d.panelStart n) := by
  unfold Dev.panelStart
  repeat' split
  · exact Dev.takes_panelTo hg d n .off 4
  · exact (Dev.takes_panelTo hg d n .off 5).trans (Dev.takes_raise hg _ _ _ _ _ _)
  · exact Dev.takes_panelTo hg d n .standby 6
  · exact Dev.takes_panelTo hg d n .testing 4
  · exact Dev.takes_panelTo hg d n .absent 4

theorem Dev.takes_touchHead (d : Dev) (h : Nat) : Dev.takes g d (d.touchHead h) := by
  refine Dev.takes_foldl d _ _ fun e n _ => ?_
  repeat' split
  · exact Dev.takes.refl g e
  · exact (Dev.takes_panelTo hg e n .off 5).trans (Dev.takes_raise hg _ _ _ _ _ _)
  · exact Dev.takes_panelStart hg e n
  · exact Dev.takes.refl g e
  · exact Dev.takes.refl g e

theorem Dev.takes_headSwitched (d : Dev) (h : Nat) : Dev.takes g d (d.headSwitched h) := by
  unfold Dev.headSwitched
  split
  · exact (Dev.takes_linkEnable g d h).trans (Dev.takes_touchHead hg _ h)
  · exact ((Dev.takes_headStop g d h).trans (Dev.takes_linkDisable g _ h)).trans (Dev.takes_touchHead hg _ h)

theorem Dev.takes_regionsChanged (d : Dev) (rs : List Nat) : Dev.takes g d (d.regionsChanged rs) :=
  Dev.takes_foldl d _ _ fun e n _ => Dev.takes_cancelHolds hg e n _

/-! #### A layer takes its descriptor -/

theorem Dev.takes_raiseEval (d : Dev) (n h slot : Nat) (prev : LState) (ev : LEval) :
    Dev.takes g d (d.raiseEval n h slot prev ev) := by
  unfold Dev.raiseEval
  extract_lets d1 d2
  have hahead : Dev.takes g d d1 := by
    unfold d1
    repeat' split
    · exact Dev.takes_raiseOnce hg d _ _ _ _ _ _ _
    · exact Dev.takes.refl g d
    · exact Dev.takes.refl g d
  have htone : Dev.takes g d1 d2 := by
    unfold d2
    split
    · exact Dev.takes_raiseOnce hg d1 _ _ _ _ _ _ _
    · exact Dev.takes.refl g d1
  split
  · exact hahead.trans htone
  · exact (hahead.trans htone).trans (Dev.takes_raise hg d2 _ _ _ _ _)

theorem Dev.takes_takeEval (d : Dev) (n h slot : Nat) (ev : LEval) : Dev.takes g d (d.takeEval n h slot ev) :=
  (Dev.takes_raiseEval hg d n h slot _ ev).trans (Dev.takes_modLy g _ n _)

theorem Dev.takes_takeDesc (d : Dev) (tb : GTable) (p : Nat × Desc) : Dev.takes g d (d.takeDesc tb p) := by
  unfold Dev.takeDesc
  extract_lets n old taps held d1 d2 d3
  have hbound : Dev.takes g d d2 := Dev.takes.trans (b := d1) ⟨rfl, rfl⟩ (Dev.takes_modLy g d1 n _)
  have htaps : Dev.takes g d2 d3 := by
    unfold d3
    split
    · exact Dev.takes_raise hg d2 _ _ _ _ _
    · exact Dev.takes.refl g d2
  clear_value held
  split
  · exact (hbound.trans htaps).trans (Dev.takes_takeEval hg d3 _ _ _ _)
  · exact hbound.trans htaps

/-- A table that does not write the count of commits leaves it alone, and every unit that no table reaches. -/
theorem Dev.takes_takePart (d : Dev) (tb : GTable) (hobjs : ∀ o ∈ tb.objs, o.1 ≠ O.groupCommits.key g) :
    Dev.takes g d (d.takePart tb) := by
  unfold Dev.takePart
  extract_lets rs was d1 d2 d3 d4
  have hobjs : Dev.takes g d d1 := Dev.takes_foldl d _ _ fun e o ho =>
    Dev.takes.trans (b := e.setPend 1 _) ⟨rfl, rfl⟩ (Dev.takes_setKey _ o.2 (hobjs o ho))
  have hplaces : Dev.takes g d1 d2 := Dev.takes_foldl d1 _ _ fun e p _ => Dev.takes_place g e _ _ _
  have hdescs : Dev.takes g d2 d3 := Dev.takes_foldl d2 _ _ fun e p _ => Dev.takes_takeDesc hg e tb p
  have hheads : Dev.takes g d3 d4 := Dev.takes_foldl d3 _ _ fun e h _ => by
    split
    · exact Dev.takes.refl g e
    · exact Dev.takes_headSwitched hg e h
  exact (((hobjs.trans hplaces).trans hdescs).trans hheads).trans (Dev.takes_regionsChanged hg d4 rs)

end

/-! ### COMMIT_APPLY (R176) -/

/-- The pulling heads of a group keep their parts of a table for their next frame start, and the rest takes effect. -/
def Dev.takeTable (d : Dev) (g : Nat) (tb : GTable) : Dev :=
  ((d.pulling g).foldl
    (fun (d : Dev) h => d.modHd h fun x => { x with late := some (mergeLate x.late (d.partFor tb h)) }) d).takePart
    (d.partWithout tb (d.pulling g))

/-- The registers of a group after one more commit: its token, its instant, the count. -/
def Dev.countCommit (d : Dev) (g : Nat) (tb : GTable) : Dev :=
  ((d.setN O.groupAppliedToken g tb.token).setN O.groupAppliedAt g (dtime (tb.due.getD d.now))).bump O.groupCommits g

/-- A commit of a group is closed: due no longer, counted and reported. -/
def Dev.closeCommit (d : Dev) (g : Nat) (tb : GTable) : Dev :=
  ((d.modGrp g fun x => { x with due := none }.settle (x.cstate == 3)).countCommit g tb).raise Code.commitApplied g 0 tb.token

theorem Dev.applyTable_eq (d : Dev) (g : Nat) (tb : GTable) :
    d.applyTable g tb = ((d.takeTable g tb).closeCommit g tb).dropBuilds := rfl

theorem Dev.takes_takeTable {d : Dev} {g : Nat} {tb : GTable} (hg : g < 8)
    (hobjs : ∀ o ∈ tb.objs, o.1 ≠ O.groupCommits.key g) :
    Dev.takes g d (d.takeTable g tb) :=
  (Dev.takes_foldl d _ _ fun e h _ => Dev.takes_modHd g e h _).trans <|
    Dev.takes_takePart hg _ _ fun o ho => hobjs o (List.mem_filter.mp ho).1

theorem Dev.rn_takes {g : Nat} {d e : Dev} (h : Dev.takes g d e) : e.rn O.groupCommits g = d.rn O.groupCommits g :=
  Dev.rn_congr h.2

/-- What no table reaches. -/
theorem Dev.takes.untouched {g : Nat} {d e : Dev} (h : Dev.takes g d e) :
    e.groups = d.groups ∧ e.pitch = d.pitch ∧ e.ctxs = d.ctxs ∧ e.ingest = d.ingest ∧ e.slots = d.slots ∧
      e.chans = d.chans := by
  obtain ⟨hbare, -⟩ := h
  exact ⟨(congrArg Dev.groups hbare :), (congrArg Dev.pitch hbare :), (congrArg Dev.ctxs hbare :),
    (congrArg Dev.ingest hbare :), (congrArg Dev.slots hbare :), (congrArg Dev.chans hbare :)⟩

/-- The three registers of a commit lie apart in every group. -/
theorem commit_registers_apart (g : Nat) : O.groupAppliedToken.key g ≠ O.groupAppliedAt.key g ∧
    O.groupAppliedToken.key g ≠ O.groupCommits.key g ∧ O.groupAppliedAt.key g ≠ O.groupCommits.key g := by
  simp only [Obj.key, O.groupAppliedToken, O.groupAppliedAt, O.groupCommits]
  omega

theorem Dev.rn_countCommit (d : Dev) (g : Nat) (tb : GTable) :
    (d.countCommit g tb).rn O.groupAppliedToken g = tb.token ∧
      (d.countCommit g tb).rn O.groupCommits g = upTo O.groupCommits (d.rn O.groupCommits g) := by
  obtain ⟨htokenAt, htokenCommits, hatCommits⟩ := commit_registers_apart g
  rw [Dev.countCommit]
  constructor
  · rw [Dev.rn_congr (Dev.bump_regs _ _ _ htokenCommits), Dev.rn_congr (Dev.setN_regs _ _ _ _ _ htokenAt), Dev.rn_setN,
      Int.toNat_natCast]
  · rw [Dev.rn_bump _ _ _ (by decide), Dev.rn_congr (Dev.setN_regs _ _ _ _ _ hatCommits.symm),
      Dev.rn_congr (Dev.setN_regs _ _ _ _ _ htokenCommits.symm)]

theorem Dev.rn_closeCommit {d : Dev} {g : Nat} (tb : GTable) (hg : g < 8) :
    (d.closeCommit g tb).rn O.groupAppliedToken g = tb.token ∧
      (d.closeCommit g tb).rn O.groupCommits g = upTo O.groupCommits (d.rn O.groupCommits g) := by
  rw [Dev.closeCommit, (Dev.quiet_raise _ _ _ _ _ _).rn (reportKey_groupRegisters g hg).2,
    (Dev.quiet_raise _ _ _ _ _ _).rn (reportKey_groupRegisters g hg).1]
  exact Dev.rn_countCommit (d.modGrp g _) g tb

/-- Past the reporting a commit is closed in its group alone. -/
theorem Dev.bare_closeCommit (d : Dev) (g : Nat) (tb : GTable) :
    (d.closeCommit g tb).bare = (d.modGrp g fun x => { x with due := none }.settle (x.cstate == 3)).bare := by
  rw [Dev.closeCommit, Dev.bare_raise, Dev.countCommit, Dev.bare_bump, Dev.bare_setN, Dev.bare_setN]

theorem Dev.grp_closeCommit (d : Dev) (g o : Nat) (tb : GTable) :
    (d.closeCommit g tb).grp o = (d.modGrp g fun x => { x with due := none }.settle (x.cstate == 3)).grp o :=
  Dev.of_bare (Dev.grp · o) (fun _ => rfl) (d.bare_closeCommit g tb)

theorem Dev.untouched_closeCommit (d : Dev) (g : Nat) (tb : GTable) :
    (d.closeCommit g tb).pitch = d.pitch ∧ (d.closeCommit g tb).ctxs = d.ctxs ∧ (d.closeCommit g tb).ingest = d.ingest ∧
      (d.closeCommit g tb).slots = d.slots ∧ (d.closeCommit g tb).chans = d.chans := by
  have hbare := d.bare_closeCommit g tb
  generalize d.closeCommit g tb = e at *
  exact ⟨(congrArg Dev.pitch hbare :), (congrArg Dev.ctxs hbare :), (congrArg Dev.ingest hbare :), (congrArg Dev.slots hbare :),
    (congrArg Dev.chans hbare :)⟩

theorem Dev.told_closeCommit (d : Dev) (g : Nat) (tb : GTable) : ∃ x ∈ (d.closeCommit g tb).dict.events,
    x.code = Code.commitApplied ∧ x.p0 = g % 2 ^ 16 ∧ x.p2 = tb.token % 2 ^ 32 ∧ x.time = (d.closeCommit g tb).clock :=
  ⟨_, Dev.mem_events_raise _ _ _ _ _ _, rfl, rfl, rfl, (Dev.raise_clock _ _ _ _ _ _).symm⟩

/-- What COMMIT_APPLY does of a due table at its instant that no allocation change has touched. -/
theorem gives_commitApply {s : State} {t : Nat} {g : Fin 8} {tb : GTable} {P : Dev → Prop} {d : Dev} (hd : s.dev.tick t = d)
    (halive : d.alive = true) (hdue : (d.grp g).due = some tb) (hinstant : tb.due.getD 0 ≤ d.now)
    (hrecheck : tb.recheck = false) (p : P (d.applyTable g tb)) : s.gives (.commitApply t g) P := by
  have htable : d.dueTable g d.now = some tb := by simp only [Dev.dueTable, hdue, if_pos hinstant]
  have happly : d.commitApply g tb = d.applyTable g tb := by
    simp only [Dev.commitApply, hrecheck, Bool.false_eq_true, if_false]
  refine State.gives_when (b := fun d => d.alive) hd rfl halive ?_
  simpa only [htable, happly] using p

theorem commitApplies : Claims.CommitApplies := by
  intro s t g tb d halive hdue hinstant hrecheck hobjs
  refine gives_commitApply (d := d) rfl halive hdue hinstant hrecheck ?_
  have htaken := Dev.takes_takeTable g.isLt hobjs (d := d)
  have hcommits := Dev.rn_takes htaken
  obtain ⟨hgroups, hpitch, hctxs, hingest, hslots, hchans⟩ := htaken.untouched
  rw [Dev.applyTable_eq]
  generalize d.takeTable g tb = e at *
  obtain ⟨htoken, hcount⟩ := Dev.rn_closeCommit (d := e) tb g.isLt
  obtain ⟨kpitch, kctxs, kingest, kslots, kchans⟩ := e.untouched_closeCommit g tb
  have hclosed : ((e.closeCommit g tb).grp g).due = none := by
    rw [Dev.grp_closeCommit, Dev.grp_modGrp]
    rfl
  have hothers (o : Nat) (ho : o ≠ g) : (e.closeCommit g tb).grp o = d.grp o := by
    rw [Dev.grp_closeCommit, Dev.grp_modGrp_ne _ _ ho, Dev.grp, hgroups, Dev.grp]
  obtain ⟨x, hx, hcode, hgroup, hshown, htime⟩ := e.told_closeCommit g tb
  obtain ⟨bs, hqueued⟩ := (e.closeCommit g tb).queuesBuilds_dropBuilds
  rw [hqueued]
  have hsmall : (g : Nat) % 2 ^ 16 = g := Nat.mod_eq_of_lt (Nat.lt_trans g.isLt (by decide))
  rw [hcommits] at hcount
  generalize e.closeCommit g tb = f at *
  exact ⟨hclosed, htoken, hcount, ⟨x, hx, hcode, hgroup.trans hsmall, hshown, htime⟩, hothers,
    kpitch.trans hpitch, kctxs.trans hctxs, kingest.trans hingest, kslots.trans hslots, kchans.trans hchans⟩

/-- Settles O13: the outcome of a validation moves its group alone (`Dev.movesGroup`); a due commit is due at its instant; a table
that takes effect reaches no commit group and no count of commits (`Dev.takes_takeTable`), so that closing the commit counts from
what was there, and the record of it outlives even a full ring (`Dev.mem_events_raise`). -/
theorem commitsProceed : Obligations.CommitsProceed := ⟨validationEnds, commitFallsDue, commitApplies⟩

end Sys2Proof.Machine

/-! PROOFS of the family '07_pixel_processing.md': a build of the bivouac cache starts and completes (R213, R215); a read of the
cache that fails is a transient of its bank, or retires it (R216, R413 to R416). -/

namespace Sys2Proof.Machine

/-! ### The first of an ordered list -/

theorem mem_insertBy {α : Type} {le : α → α → Bool} {x a : α} {l : List α} : a ∈ insertBy le x l ↔ a = x ∨ a ∈ l := by
  induction l with
  | nil => exact List.mem_cons
  | cons y r ih =>
    rw [insertBy]
    split
    · exact List.mem_cons
    · rw [List.mem_cons, List.mem_cons, ih]
      exact or_left_comm

/-- Ordering a list keeps its members. -/
theorem mem_sortBy {α : Type} {le : α → α → Bool} {a : α} {l : List α} : a ∈ sortBy le l ↔ a ∈ l := by
  induction l with
  | nil => exact Iff.rfl
  | cons x l ih => rw [List.mem_cons, ← ih]; exact mem_insertBy

/-! ### BIVOUAC_BUILD_START (R213) -/

/-- A waiting build runs, and pins the newest posts of its members. -/
def Dev.runBuild (d : Dev) (x : Build) : Dev :=
  d.modBiv fun b => { b with builds := b.builds.map fun y =>
    if y.key == x.key && !y.running then { y with running := true, posts := d.postsOf x.key } else y }

theorem exec_bivouacBuildStart (t : Nat) (k : Fin 18) (s : State) :
    exec (.bivouacBuildStart t k) s = s.run t fun d => d.when d.alive fun d => d.buildStart k := rfl

theorem Dev.nextBuild_waits {d : Dev} {k : Nat} {x : Build} (h : d.nextBuild k = some x) :
    x ∈ d.bivouac.builds ∧ x.running = false := by
  obtain ⟨hmem, hwaits⟩ := List.mem_filter.mp (mem_sortBy.mp (List.mem_of_head? h))
  exact ⟨hmem, by simpa using (Bool.and_eq_true_iff.mp hwaits).1⟩

/-- On an idle pipe with cycles free the next build runs. -/
theorem Dev.buildStart_idle {d : Dev} {k : Nat} {x : Build}
    (hidle : ∀ b ∈ d.bivouac.builds, b.running = true → d.keyPipe b.key ≠ k) (hfree : d.pipeFree k = true)
    (hnext : d.nextBuild k = some x) : d.buildStart k = d.runBuild x := by
  have hnone : (d.bivouac.builds.any fun b => b.running && d.keyPipe b.key == k) = false := by simpa using hidle
  simp only [Dev.buildStart, hnone, hfree, hnext, Bool.not_true, Bool.or_false, Bool.false_eq_true, if_false]
  rfl

theorem Dev.mem_runBuild {d : Dev} {x : Build} (hx : x ∈ d.bivouac.builds) (hwaits : x.running = false) :
    { x with running := true, posts := d.postsOf x.key } ∈ (d.runBuild x).bivouac.builds :=
  List.mem_map.mpr ⟨x, hx, if_pos (by simp [hwaits])⟩

theorem buildStarts : Claims.BuildStarts := by
  intro s t k x d halive hidle hfree hnext
  refine State.gives_when (d := d) rfl (exec_bivouacBuildStart t k s) halive ?_
  obtain ⟨hmem, hwaits⟩ := Dev.nextBuild_waits hnext
  rw [Dev.buildStart_idle hidle hfree hnext]
  exact ⟨Dev.mem_runBuild hmem hwaits, rfl, rfl⟩

/-! ### BIVOUAC_BUILD_COMPLETE (R211, R213, R215) -/

theorem exec_bivouacBuildComplete (t : Nat) (k : Fin 18) (blocks : Nat) (bank : Fin 68) (s : State) :
    exec (.bivouacBuildComplete t k blocks bank) s =
      s.run t fun d => d.when d.alive fun d => d.buildComplete s.dram k blocks bank := rfl

/-- The copy that a build becomes. -/
def Dev.copyOf (d : Dev) (dram : List Host.Cell) (x : Build) (blocks bank : Nat) : Copy :=
  let px := (d.asFor x.key).copyPixels dram x.key x.posts
  { key := x.key, posts := x.posts, blocks := blocksOf px blocks, bank := bank, pixels := px, completed := d.now, drawn := d.now }

/-- A copy enters the cache, and the build it comes from leaves it or waits to run once more. -/
def Dev.keepCopy (d : Dev) (x : Build) (c : Copy) : Dev :=
  d.modBiv fun b => { b with
    copies := b.copies ++ [c]
    builds := b.builds.filterMap fun y =>
      if y.key == x.key && y.running then
        (if y.again then some { y with running := false, again := false, posts := [], trigger := d.now } else none)
      else some y }

theorem blocksOf_le (p : List (List (Nat × Nat × Nat × Nat))) (blocks : Nat) : blocksOf p blocks ≤ min 80 blocks := by
  unfold blocksOf
  split
  · exact Nat.zero_le _
  · exact Nat.le_refl _

/-- Nothing is evicted while enough blocks are free. -/
theorem Dev.evict_of_free {d : Dev} {need : Nat} (n : Nat) (h : d.blocksUsed + need ≤ d.rn O.bivouacCapacity) :
    d.evict n need = d := by
  cases n with
  | zero => rfl
  | succ n => exact if_pos h

/-- With blocks free for the largest copy the build can become, its copy is kept and counted. -/
theorem Dev.buildComplete_of_free {d : Dev} {dram : List Host.Cell} {k blocks bank : Nat} {x : Build}
    (hx : d.bivouac.builds.find? (fun b => b.running && d.keyPipe b.key == k) = some x)
    (hfree : d.blocksUsed + min 80 blocks ≤ d.rn O.bivouacCapacity) :
    d.buildComplete dram k blocks bank = (d.keepCopy x (d.copyOf dram x blocks bank)).bump O.bivouacBuilds := by
  have hroom (px : List (List (Nat × Nat × Nat × Nat))) : d.blocksUsed + blocksOf px blocks ≤ d.rn O.bivouacCapacity :=
    Nat.le_trans (Nat.add_le_add_left (blocksOf_le px blocks) _) hfree
  unfold Dev.buildComplete
  rw [hx]
  dsimp only
  rw [Dev.evict_of_free _ (hroom _)]
  exact if_neg (Nat.not_lt.mpr (hroom _))

@[simp] theorem Dev.bump_bivouac (d : Dev) (o : Obj) (i : Nat) : (d.bump o i).bivouac = d.bivouac :=
  Dev.of_bare (·.bivouac) (fun _ => rfl) (Dev.bare_bump d o i)

theorem buildCompletes : Claims.BuildCompletes := by
  intro s t k blocks bank x d halive hx hfree
  refine State.gives_when (d := d) rfl (exec_bivouacBuildComplete t k blocks bank s) halive ?_
  rw [Dev.buildComplete_of_free hx hfree, Dev.bump_bivouac, Dev.bare_bump]
  have hblocks : (d.copyOf s.dram x blocks bank).blocks ≤ 80 := Nat.le_trans (blocksOf_le _ _) (Nat.min_le_left _ _)
  exact ⟨⟨d.copyOf s.dram x blocks bank, rfl, rfl, rfl, rfl, rfl, hblocks⟩, Dev.counts_bump (d.keepCopy x _) _ _, rfl,
    fun key hkey => Dev.bump_regs (d.keepCopy x _) _ _ fun heq => hkey (List.mem_singleton.mpr heq)⟩

/-- Settles O8: the next build is one of the waiting ones (`Dev.nextBuild_waits`), so that it is among those that run; a copy takes
at most 80 blocks, so that with those free nothing is evicted and the build becomes a copy (`Dev.buildComplete_of_free`). -/
theorem bivouacBuilds : Obligations.BivouacBuilds := ⟨buildStarts, buildCompletes⟩

/-! ### A fault record (R424) -/

theorem Dev.regsBut.trans {ks : List Nat} {a b c : Dev} (h : a.regsBut ks b) (g : b.regsBut ks c) : a.regsBut ks c :=
  fun k hk hr => (g k hk hr).trans (h k hk hr)

theorem Dev.quiet_raiseOwn (d : Dev) (o : Own) : d.quiet (d.raiseOwn o) := Dev.quiet_raise _ _ _ _ _ _

/-- A fault record changes the sequence of the newest one, and no other register but those of reporting. -/
theorem Dev.regsBut_logFault (d : Dev) (cls kind inst : Nat) (own : Own) (reason action spare : Nat) :
    d.regsBut [O.healthFaultLast.key 0] (d.logFault cls kind inst own reason action spare) := by
  unfold Dev.logFault
  extract_lets hs r all full d1 d2
  have hnumbered : d.regsBut [O.healthFaultLast.key 0] d2 := fun k hk _ =>
    Dev.setN_regs d1 _ _ _ _ fun heq => hk (List.mem_singleton.mpr heq)
  split
  · exact hnumbered.trans ((Dev.quiet_raiseOnce _ _ _ _ _ _ _ _).regsBut _)
  · exact hnumbered

/-- At most one code tells that the log of faults has wrapped. -/
theorem Dev.records_logFault {d : Dev} (cls kind inst : Nat) (own : Own) (reason action spare : Nat)
    (hfree : d.evFree 1 = true) : Dev.records 1 d (d.logFault cls kind inst own reason action spare) := by
  unfold Dev.logFault
  extract_lets hs r all full d1 d2
  have hlogged : Dev.records 0 d d2 := Dev.records_of_events_eq rfl rfl
  split
  · exact hlogged.trans (Dev.records_raiseOnce _ _ _ _ _ _ _ (hlogged.evFree hfree))
  · exact hlogged.mono (Nat.zero_le 1)

/-- The newest record of the log is the fault's, also where the log has wrapped. -/
theorem Dev.newest_logFault (d : Dev) (cls kind inst : Nat) (own : Own) (reason action spare : Nat) :
    ∃ r, (d.logFault cls kind inst own reason action spare).health.log.getLast? = some r ∧
      r.cls = cls ∧ r.kind = kind ∧ r.inst = inst ∧ r.code = own.code := by
  unfold Dev.logFault
  extract_lets hs r all full d1 d2
  have hlast : all.getLast? = some r := List.getLast?_concat
  refine ⟨r, ?_, rfl, rfl, rfl, rfl⟩
  split
  next hfull =>
    rw [Dev.of_bare Dev.health (fun _ => rfl) (Dev.bare_raiseOnce d2 _ _ _ _ _ _ _), ← hlast]
    have hlong : ¬ all.length ≤ 1 := by
      have : 262144 < all.length := hfull
      omega
    have hdrop : d2.health.log = all.drop 1 := if_pos hfull
    rw [hdrop, List.getLast?_drop, if_neg hlong]
  next hfull =>
    have hall : d2.health.log = all := if_neg hfull
    rw [hall, hlast]

/-! ### A transient fault (R413) -/

/-- A transient fault enters the counts of the last 24 hours. -/
def Dev.countTransient (d : Dev) (kind inst : Nat) : Dev :=
  { d with health := { d.health with
    transients := (kind, inst, d.now) :: d.health.transients.filter fun t => d.now < t.2.2 + day } }

theorem Dev.noteTransient_eq (d : Dev) (kind inst : Nat) (own : Own) (reason : Nat) : d.noteTransient kind inst own reason =
    ((d.countTransient kind inst).logFault 0 kind inst own reason 0 0xFFFF).raiseOnce sec (unitKey kind inst)
      Code.healthTransient kind inst own.code := rfl

theorem Dev.bare_noteTransient (d : Dev) (kind inst : Nat) (own : Own) (reason : Nat) :
    (d.noteTransient kind inst own reason).bare =
      { d.bare with health := (d.noteTransient kind inst own reason).health } := by
  have hlogged := ((d.countTransient kind inst).movesLog_logFault 0 kind inst own reason 0 0xFFFF).of_bare
    (Dev.bare_raiseOnce _ sec (unitKey kind inst) Code.healthTransient kind inst own.code 0)
  have hhealth := congrArg Dev.health hlogged
  rw [← Dev.noteTransient_eq] at hlogged hhealth
  rw [hlogged]
  exact congrArg (fun h => { d.bare with health := h }) hhealth.symm

theorem Dev.regsBut_noteTransient (d : Dev) (kind inst : Nat) (own : Own) (reason : Nat) :
    d.regsBut [O.healthFaultLast.key 0] (d.noteTransient kind inst own reason) :=
  (Dev.regsBut_logFault (d.countTransient kind inst) 0 kind inst own reason 0 0xFFFF).trans
    ((Dev.quiet_raiseOnce _ _ _ _ _ _ _ _).regsBut _)

theorem Dev.records_noteTransient {d : Dev} (kind inst : Nat) (own : Own) (reason : Nat) (hfree : d.evFree 2 = true) :
    Dev.records 2 d (d.noteTransient kind inst own reason) := by
  have hcounted : Dev.records 0 d (d.countTransient kind inst) := Dev.records_of_events_eq rfl rfl
  have hlogged := hcounted.trans
    (Dev.records_logFault 0 kind inst own reason 0 0xFFFF (hcounted.evFree (Dev.evFree_mono (Nat.le_succ 1) hfree)))
  exact hlogged.trans (Dev.records_raiseOnce _ _ _ _ _ _ _ (hlogged.evFree (m := 1) hfree))

theorem Dev.newest_noteTransient (d : Dev) (kind inst : Nat) (own : Own) (reason : Nat) :
    ∃ r, (d.noteTransient kind inst own reason).health.log.getLast? = some r ∧
      r.cls = 0 ∧ r.kind = kind ∧ r.inst = inst ∧ r.code = own.code := by
  rw [Dev.noteTransient_eq, Dev.of_bare Dev.health (fun _ => rfl) (Dev.bare_raiseOnce _ _ _ _ _ _ _ _)]
  exact Dev.newest_logFault _ _ _ _ _ _ _ _

/-! ### BIVOUAC_READ_ERROR with a retry that succeeds (R216) -/

/-- The lines read are noted for the frame the head is in. -/
def Dev.noteLines (d : Dev) (h l0 l1 : Nat) : Dev :=
  if (d.hd h).inFrame then d.modHd h fun x => { x with bivLines := x.bivLines ++ [(l0, l1)] } else d

/-- The event of a transient fault of a bank. -/
def bankTransience (bank : Nat) : Own := { code := Code.bivouacTransient, p0 := bank }

/-- A read of a bank succeeded at the retry: its code is raised, and the fault is a transient of the bank. -/
def Dev.bankTransient (d : Dev) (bank : Nat) : Dev :=
  (d.raiseOwn (bankTransience bank)).noteTransient 8 bank (bankTransience bank)

theorem exec_bivouacReadError (t : Nat) (bank : Fin 68) (h : Fin 32) (l0 l1 : Nat) (retryOk : Bool) (s : State) :
    exec (.bivouacReadError t bank h l0 l1 retryOk) s =
      s.run t fun d => d.when (d.alive && !d.bivouac.retired.contains bank.val) fun d =>
        if retryOk && !(d.noteLines h l0 l1).transientOver 8 bank then (d.noteLines h l0 l1).bankTransient bank
        else (d.noteLines h l0 l1).retireBank bank (if retryOk then 2 else 1) := rfl

theorem Dev.noteLines_eq (d : Dev) (h l0 l1 : Nat) :
    d.noteLines h l0 l1 = { d with heads := (d.noteLines h l0 l1).heads } := by
  unfold Dev.noteLines
  split
  · rfl
  · rfl

theorem Dev.dict_noteLines (d : Dev) (h l0 l1 : Nat) : (d.noteLines h l0 l1).dict = d.dict :=
  (congrArg Dev.dict (d.noteLines_eq h l0 l1) :)

theorem Dev.bivouac_noteLines (d : Dev) (h l0 l1 : Nat) : (d.noteLines h l0 l1).bivouac = d.bivouac :=
  (congrArg Dev.bivouac (d.noteLines_eq h l0 l1) :)

theorem Dev.health_noteLines (d : Dev) (h l0 l1 : Nat) : (d.noteLines h l0 l1).health = d.health :=
  (congrArg Dev.health (d.noteLines_eq h l0 l1) :)

theorem Dev.bare_noteLines (d : Dev) (h l0 l1 : Nat) :
    (d.noteLines h l0 l1).bare = { d.bare with heads := (d.noteLines h l0 l1).heads } :=
  (congrArg Dev.bare (d.noteLines_eq h l0 l1) :)

theorem Dev.quiet_noteLines (d : Dev) (h l0 l1 : Nat) : d.quiet (d.noteLines h l0 l1) := fun _ _ => by rw [Dev.dict_noteLines]

theorem Dev.records_noteLines (d : Dev) (h l0 l1 : Nat) : Dev.records 0 d (d.noteLines h l0 l1) :=
  Dev.records_of_events_eq (congrArg Dev.clock (d.noteLines_eq h l0 l1) :) (by rw [Dev.dict_noteLines])

theorem Dev.transientOver_noteLines (d : Dev) (h l0 l1 kind inst : Nat) :
    (d.noteLines h l0 l1).transientOver kind inst = d.transientOver kind inst :=
  (congrArg (Dev.transientOver · kind inst) (d.noteLines_eq h l0 l1) :)

theorem Dev.bivLines_noteLines {d : Dev} {h : Nat} (l0 l1 : Nat) (hframe : (d.hd h).inFrame = true) :
    ((d.noteLines h l0 l1).hd h).bivLines = (d.hd h).bivLines ++ [(l0, l1)] := by
  rw [Dev.noteLines, if_pos hframe, Dev.hd_modHd]

/-- What BIVOUAC_READ_ERROR does of a bank in use while the limit of transients is not reached. -/
theorem gives_bivouacReadError_ok {s : State} {t l0 l1 : Nat} {bank : Fin 68} {h : Fin 32} {P : Dev → Prop} {d : Dev}
    (hd : s.dev.tick t = d) (halive : d.alive = true) (hinUse : d.bivouac.retired.contains bank.val = false)
    (hunder : d.transientOver 8 bank = false) (p : P ((d.noteLines h l0 l1).bankTransient bank)) :
    s.gives (.bivouacReadError t bank h l0 l1 true) P := by
  refine State.gives_when hd (exec_bivouacReadError t bank h l0 l1 true s) (by rw [halive, hinUse]; rfl) ?_
  simpa only [Dev.transientOver_noteLines, hunder, Bool.not_false, Bool.and_self, if_true] using p

/-- What BIVOUAC_READ_ERROR does of a bank in use when the retry fails. -/
theorem gives_bivouacReadError_failed {s : State} {t l0 l1 : Nat} {bank : Fin 68} {h : Fin 32} {P : Dev → Prop} {d : Dev}
    (hd : s.dev.tick t = d) (halive : d.alive = true) (hinUse : d.bivouac.retired.contains bank.val = false)
    (p : P ((d.noteLines h l0 l1).retireBank bank 1)) : s.gives (.bivouacReadError t bank h l0 l1 false) P := by
  refine State.gives_when hd (exec_bivouacReadError t bank h l0 l1 false s) (by rw [halive, hinUse]; rfl) ?_
  simpa only [Bool.false_and, Bool.false_eq_true, if_false] using p

theorem Dev.bare_bankTransient (d : Dev) (bank : Nat) :
    (d.bankTransient bank).bare = { d.bare with health := (d.bankTransient bank).health } := by
  rw [← Dev.bare_raiseOwn d (bankTransience bank)]
  exact Dev.bare_noteTransient _ _ _ _ _

theorem Dev.heads_bankTransient (d : Dev) (bank : Nat) : (d.bankTransient bank).heads = d.heads := by
  have hbare := d.bare_bankTransient bank
  generalize d.bankTransient bank = e at *
  exact (congrArg Dev.heads hbare :)

theorem Dev.regsBut_bankTransient (d : Dev) (bank : Nat) : d.regsBut [O.healthFaultLast.key 0] (d.bankTransient bank) :=
  ((d.quiet_raiseOwn _).regsBut _).trans (Dev.regsBut_noteTransient _ _ _ _ _)

theorem Dev.logs_bankTransient {d : Dev} (bank : Nat) (hfree : d.evFree 3 = true) :
    d.logs (d.bankTransient bank) Code.bivouacTransient bank 0 := by
  have hroom : d.evFree 1 = true := Dev.evFree_mono (by decide) hfree
  have hraise := Dev.records_raise Code.bivouacTransient bank 0 0 0 hroom
  exact (Dev.logs_raise Code.bivouacTransient bank 0 0 0 hroom).then_records
    (Dev.records_noteTransient 8 bank _ 0 (hraise.evFree (m := 2) hfree))

theorem readErrorTransient : Claims.ReadErrorTransient := by
  intro s t bank h l0 l1 d halive hinUse hunder hfree
  refine gives_bivouacReadError_ok rfl halive hinUse hunder ?_
  have hnoted := d.records_noteLines h l0 l1
  refine ⟨?_, fun hframe => ?_, Dev.newest_noteTransient _ _ _ _ _, ?_, ?_⟩
  · exact hnoted.then_logs (Dev.logs_bankTransient bank (hnoted.evFree hfree))
  · rw [Dev.hd, Dev.heads_bankTransient]
    exact Dev.bivLines_noteLines l0 l1 hframe
  · rw [Dev.heads_bankTransient, Dev.bare_bankTransient, Dev.bare_noteLines]
  · exact ((d.quiet_noteLines h l0 l1).regsBut _).trans (Dev.regsBut_bankTransient _ bank)

/-! ### The register that a lasting fault changes (R413, R424) -/

theorem Dev.regsBut_noteLasting (d : Dev) (kind inst : Nat) (own : Own) (reason : Nat) (spare : Option Nat)
    (left action : Nat) : d.regsBut [O.healthFaultLast.key 0] (d.noteLasting kind inst own reason spare left action) := by
  have hlogged := Dev.regsBut_logFault (d.countLasting own.code) 1 kind inst own reason action (spare.getD 0xFFFF)
  unfold Dev.noteLasting
  extract_lets hs d1 d2 d3
  have htold : d.regsBut [O.healthFaultLast.key 0] d3 := hlogged.trans ((Dev.quiet_raise _ _ _ _ _ _).regsBut _)
  split
  next engaged =>
    have hengaged := htold.trans ((Dev.quiet_raise d3 Code.healthSpareEngaged kind inst engaged 0).regsBut _)
    split
    · exact hengaged.trans ((Dev.quiet_raise _ _ _ _ _ _).regsBut _)
    · exact hengaged
  · exact htold.trans ((Dev.quiet_raise _ _ _ _ _ _).regsBut _)

/-! ### What stays when the cache and its health move -/

/-- Past the reporting, from `d` to `e` nothing but the cache and the health record moved. -/
def Dev.movesCache (d e : Dev) : Prop := e.bare = { d.bare with bivouac := e.bivouac, health := e.health }

theorem Dev.movesCache.trans {a b c : Dev} (h : a.movesCache b) (g : b.movesCache c) : a.movesCache c := by
  unfold Dev.movesCache at *
  rw [g, h]

theorem Dev.movesCache_of_eq {d e : Dev} {b : Bivouac} {h : Health} (heq : e.bare = { d.bare with bivouac := b, health := h }) :
    d.movesCache e := by
  have hb : e.bivouac = b := (congrArg Dev.bivouac heq :)
  have hh : e.health = h := (congrArg Dev.health heq :)
  rw [Dev.movesCache, heq, hb, hh]

theorem Dev.movesCache.of_bare {d e f : Dev} (h : d.movesCache e) (g : f.bare = e.bare) : d.movesCache f :=
  Dev.movesCache_of_eq (g.trans h)

theorem Dev.movesCache_modBiv (d : Dev) (f : Bivouac → Bivouac) : d.movesCache (d.modBiv f) := rfl

theorem Dev.movesCache_recordRetired (d : Dev) (kind inst : Nat) : d.movesCache (d.recordRetired kind inst) := rfl

theorem Dev.movesCache_abandonTest (d : Dev) (kind inst : Nat) : d.movesCache (d.abandonTest kind inst) := rfl

theorem Dev.movesCache_countLasting (d : Dev) (code : Nat) : d.movesCache (d.countLasting code) := rfl

theorem Dev.movesCache.heads {d e : Dev} (h : d.movesCache e) : e.heads = d.heads := (congrArg Dev.heads h :)

theorem Dev.movesLog.movesCache {d e : Dev} (h : d.movesLog e) : d.movesCache e :=
  Dev.movesCache_of_eq (b := d.bivouac) h

theorem Dev.movesLog.bivouac {d e : Dev} (h : d.movesLog e) : e.bivouac = d.bivouac := (congrArg Dev.bivouac h :)

/-! ### Lost copies are built again (R216) -/

/-- Past the reporting, from `d` to `e` nothing but the builds of the cache moved, and no register but those of reporting
did. -/
def Dev.asksBuilds (d e : Dev) : Prop :=
  e.bare = { d.bare with bivouac := { d.bivouac with builds := e.bivouac.builds } } ∧ d.quiet e

theorem Dev.asksBuilds.trans {a b c : Dev} (h : a.asksBuilds b) (g : b.asksBuilds c) : a.asksBuilds c := by
  obtain ⟨hbare, hquiet⟩ := h
  obtain ⟨gbare, gquiet⟩ := g
  have hbiv : b.bivouac = { a.bivouac with builds := b.bivouac.builds } := (congrArg Dev.bivouac hbare :)
  exact ⟨by rw [gbare, hbare, hbiv], hquiet.trans gquiet⟩

theorem Dev.asksBuilds_of_bare {d e : Dev} (h : e.bare = d.bare) (g : d.quiet e) : d.asksBuilds e := by
  refine ⟨?_, g⟩
  rw [h, Dev.of_bare Dev.bivouac (fun _ => rfl) h]
  rfl

theorem Dev.queuesBuilds.asksBuilds {d e : Dev} (h : d.queuesBuilds e) : d.asksBuilds e := by
  obtain ⟨_, rfl⟩ := h
  exact ⟨rfl, fun _ _ => rfl⟩

theorem Dev.asksBuilds.movesCache {d e : Dev} (h : d.asksBuilds e) : d.movesCache e :=
  Dev.movesCache_of_eq (h := d.health) h.1

theorem Dev.asksBuilds.health {d e : Dev} (h : d.asksBuilds e) : e.health = d.health := (congrArg Dev.health h.1 :)

theorem Dev.asksBuilds.bivouac {d e : Dev} (h : d.asksBuilds e) :
    ∃ bs, e.bivouac = { d.bivouac with builds := bs } := ⟨e.bivouac.builds, (congrArg Dev.bivouac h.1 :)⟩

/-- Each lost copy is reported, and asked for anew. -/
def Dev.rebuildLost (d : Dev) (lost : List Copy) : Dev :=
  lost.foldl (fun (d : Dev) c => (d.raise Code.bivouacCopyLost c.key.head c.key.col c.key.row).wantBuild c.key true) d

theorem Dev.asksBuilds_rebuildLost (d : Dev) (lost : List Copy) : d.asksBuilds (d.rebuildLost lost) :=
  List.foldlRecOn _ _ (Dev.asksBuilds_of_bare rfl (Dev.quiet.refl d)) fun _ he c _ =>
    (he.trans (Dev.asksBuilds_of_bare (Dev.bare_raise ..) (Dev.quiet_raise _ _ _ _ _ _))).trans
      (Dev.queuesBuilds_wantBuild _ c.key true).asksBuilds

/-! ### A bank is retired while spares are left (R216, R415, R416) -/

/-- A bank leaves the cache with the copies in it, and is entered as retired. -/
def Dev.withdrawBank (d : Dev) (bank : Nat) : Dev :=
  (d.modBiv fun b => { b with
    retired := b.retired ++ [bank], copies := b.copies.filter fun c => c.bank != bank
    spares := b.spares.filter (· != bank) }).recordRetired 8 bank

/-- A spare bank is engaged, the rest stay spares. -/
def Dev.engageBank (d : Dev) (sp : Nat) (rest : List Nat) : Dev :=
  (d.modBiv fun b => { b with spares := rest }).abandonTest 8 sp

/-- What a retirement makes of the cache and its health, without its reporting. -/
def Dev.swapBank (d : Dev) (bank sp : Nat) (rest : List Nat) : Dev := (d.withdrawBank bank).engageBank sp rest

/-- The event of a retirement. -/
def bankRetirement (bank : Nat) : Own := { code := Code.bivouacBankRetired, p0 := bank }

/-- The swap of the banks as it is reported. -/
def Dev.tellBankSwap (d : Dev) (bank sp : Nat) (rest : List Nat) : Dev :=
  (((d.withdrawBank bank).raiseOwn (bankRetirement bank)).engageBank sp rest).raise Code.bivouacSpareEngaged sp bank

theorem Dev.bare_tellBankSwap (d : Dev) (bank sp : Nat) (rest : List Nat) :
    (d.tellBankSwap bank sp rest).bare = (d.swapBank bank sp rest).bare := by
  have hcomm (x : Dev) : (x.engageBank sp rest).bare = x.bare.engageBank sp rest := rfl
  rw [Dev.tellBankSwap, Dev.bare_raise, hcomm, Dev.bare_raiseOwn, ← hcomm, ← Dev.swapBank]

theorem Dev.quiet_withdrawBank (d : Dev) (bank : Nat) : d.quiet (d.withdrawBank bank) := fun _ _ => rfl

theorem Dev.quiet_engageBank (d : Dev) (sp : Nat) (rest : List Nat) : d.quiet (d.engageBank sp rest) := fun _ _ => rfl

theorem Dev.quiet_tellBankSwap (d : Dev) (bank sp : Nat) (rest : List Nat) : d.quiet (d.tellBankSwap bank sp rest) := by
  have hretired := (d.quiet_withdrawBank bank).trans (Dev.quiet_raiseOwn _ (bankRetirement bank))
  exact (hretired.trans (Dev.quiet_engageBank _ sp rest)).trans (Dev.quiet_raise _ _ _ _ _ _)

/-- With a spare left, a retirement swaps the banks, notes a lasting fault and asks for the lost copies anew. -/
theorem Dev.retireBank_spare {d : Dev} {bank sp : Nat} {rest : List Nat} (reason : Nat)
    (hspares : d.bivouac.spares.filter (· != bank) = sp :: rest) :
    d.retireBank bank reason =
      ((d.tellBankSwap bank sp rest).noteLasting 8 bank (bankRetirement bank) reason (some sp) rest.length 3).rebuildLost
        (d.bivouac.copies.filter fun c => c.bank == bank) := by
  have hleft : ((d.withdrawBank bank).raiseOwn (bankRetirement bank)).bivouac.spares = sp :: rest := by
    rw [Dev.of_bare Dev.bivouac (fun _ => rfl) (Dev.bare_raiseOwn _ _), ← hspares]
    rfl
  unfold Dev.withdrawBank bankRetirement at hleft
  unfold Dev.retireBank
  dsimp only
  rw [hleft]
  rfl

theorem Dev.movesCache_swapBank (d : Dev) (bank sp : Nat) (rest : List Nat) : d.movesCache (d.swapBank bank sp rest) :=
  ((d.movesCache_modBiv _).trans (Dev.movesCache_recordRetired _ 8 bank)).trans
    ((Dev.movesCache_modBiv _ _).trans (Dev.movesCache_abandonTest _ 8 sp))

/-- What a retirement leaves of the swap of the banks, past the reporting: one more lasting fault, and builds asked for. -/
theorem Dev.retireBank_spare_keeps {d : Dev} {bank sp : Nat} {rest : List Nat} (reason : Nat)
    (hspares : d.bivouac.spares.filter (· != bank) = sp :: rest) :
    d.movesCache (d.retireBank bank reason) ∧ d.regsBut [O.healthFaultLast.key 0] (d.retireBank bank reason) ∧
      (∃ builds, (d.retireBank bank reason).bivouac = { (d.swapBank bank sp rest).bivouac with builds := builds }) ∧
      (d.retireBank bank reason).health.retired = (d.swapBank bank sp rest).health.retired ∧
      (d.retireBank bank reason).health.lasting = (d.swapBank bank sp rest).health.lasting + 1 := by
  rw [Dev.retireBank_spare reason hspares]
  have hbare := d.bare_tellBankSwap bank sp rest
  have hswapped : d.movesCache (d.tellBankSwap bank sp rest) :=
    (d.movesCache_swapBank bank sp rest).of_bare hbare
  have htold := d.quiet_tellBankSwap bank sp rest
  have hcache : (d.tellBankSwap bank sp rest).bivouac = (d.swapBank bank sp rest).bivouac :=
    Dev.of_bare Dev.bivouac (fun _ => rfl) hbare
  have hhealth : (d.tellBankSwap bank sp rest).health = (d.swapBank bank sp rest).health :=
    Dev.of_bare Dev.health (fun _ => rfl) hbare
  rw [← hcache, ← hhealth]
  generalize d.tellBankSwap bank sp rest = w at *
  have hnoted := w.movesLog_noteLasting 8 bank (bankRetirement bank) reason (some sp) rest.length 3
  have hnumbered := w.regsBut_noteLasting 8 bank (bankRetirement bank) reason (some sp) rest.length 3
  have hcounted := w.movesCache_countLasting (bankRetirement bank).code
  generalize w.noteLasting 8 bank (bankRetirement bank) reason (some sp) rest.length 3 = n at *
  have hasked := n.asksBuilds_rebuildLost (d.bivouac.copies.filter fun c => c.bank == bank)
  refine ⟨hswapped.trans ((hcounted.trans hnoted.movesCache).trans hasked.movesCache),
    ((htold.regsBut _).trans hnumbered).trans (hasked.2.regsBut _), ?_, ?_, ?_⟩
  · obtain ⟨bs, hbuilds⟩ := hasked.bivouac
    exact ⟨bs, by rw [hbuilds, hnoted.bivouac]; rfl⟩
  · rw [hasked.health, hnoted.retired, Dev.retired_countLasting]
  · rw [hasked.health, hnoted.lasting, Dev.lasting_countLasting]

theorem readErrorRetires : Claims.ReadErrorRetires := by
  intro s t bank h l0 l1 sp rest d halive hinUse hspares
  refine gives_bivouacReadError_failed rfl halive hinUse ?_
  have hlines := d.bivouac_noteLines h l0 l1
  have hleft : (d.noteLines h l0 l1).bivouac.spares.filter (· != bank.val) = sp :: rest := by rw [hlines, hspares]
  obtain ⟨hmoves, hregs, ⟨builds, hcache⟩, hretired, hlasting⟩ := Dev.retireBank_spare_keeps 1 hleft
  refine ⟨?_, ?_, ?_, ?_, ?_, ?_, ?_⟩
  · rw [hcache, ← hlines]
    rfl
  · rw [hcache]
    rfl
  · rw [hcache, ← hlines]
    rfl
  · rw [hretired]
    exact Dev.retired_recordRetired _ 8 bank
  · rw [hlasting, ← Dev.health_noteLines d h l0 l1]
    rfl
  · rw [hmoves.heads, hmoves, Dev.bare_noteLines]
  · exact ((d.quiet_noteLines h l0 l1).regsBut _).trans hregs

/-- Settles O9: a transient moves the health record alone, and its fault is the newest record even where the log wraps
(`Dev.newest_logFault`); while a spare bank is left a retirement comes to a swap of the banks, a lasting fault and builds for the
lost copies (`Dev.retireBank_spare`), of which the reporting touches nothing else. -/
theorem bivouacReadFails : Obligations.BivouacReadFails := ⟨readErrorTransient, readErrorRetires⟩

end Sys2Proof.Machine

/-! PROOFS of the family '08_lanes_heads.md': a head link detects its display, reads it, trains and restores (R225 to R233); the
rope comes up, loses and regains lanes, and carries flits (R238 to R245). -/

namespace Sys2Proof.Machine

/-! ### What a command tells of what it does -/

/-- From `d` to `e` nothing but the reporting moved, and at most `n` records were appended while there was room. -/
def Dev.tells (n : Nat) (d e : Dev) : Prop := e.bare = d.bare ∧ d.quiet e ∧ (d.evFree n = true → Dev.records n d e)

theorem Dev.tells_raise (d : Dev) (c p0 p1 p2 p3 : Nat) : Dev.tells 1 d (d.raise c p0 p1 p2 p3) :=
  ⟨d.bare_raise c p0 p1 p2 p3, d.quiet_raise c p0 p1 p2 p3, Dev.records_raise c p0 p1 p2 p3⟩

theorem Dev.tells.refl (n : Nat) (d : Dev) : Dev.tells n d d :=
  ⟨rfl, Dev.quiet.refl d, fun _ => (Dev.records_of_events_eq rfl rfl).mono (Nat.zero_le n)⟩

theorem Dev.tells.trans {m n : Nat} {a b c : Dev} (h : Dev.tells m a b) (g : Dev.tells n b c) : Dev.tells (m + n) a c := by
  obtain ⟨hbare, hquiet, hrec⟩ := h
  obtain ⟨gbare, gquiet, grec⟩ := g
  refine ⟨gbare.trans hbare, hquiet.trans gquiet, fun hfree => ?_⟩
  have hfirst := hrec (Dev.evFree_mono (Nat.le_add_right m n) hfree)
  exact hfirst.trans (grec (hfirst.evFree hfree))

/-! ### A link takes a state (Tables 8-4 and 8-5) -/

/-- The link of a head takes a state, and what else of the link changes with it. -/
def Dev.relink (d : Dev) (h : Nat) (st : LinkState) (f : Link → Link) : Dev := (d.linkTo h st).modLk h f

theorem Dev.lk_relink (d : Dev) (h : Nat) (st : LinkState) (f : Link → Link) :
    (d.relink h st f).lk h = f { d.lk h with state := st } := by
  rw [Dev.relink, Dev.lk_modLk, Dev.lk_linkTo]

theorem Dev.relink_other (d : Dev) {h o : Nat} (st : LinkState) (f : Link → Link) (ho : o ≠ h) :
    (d.relink h st f).lk o = d.lk o ∧ (d.relink h st f).hd o = d.hd o := by
  rw [Dev.relink, Dev.lk_modLk_ne _ _ ho, Dev.hd, Dev.modLk_heads]
  exact d.linkTo_other st ho

theorem Dev.relink_eq (d : Dev) (h : Nat) (st : LinkState) (f : Link → Link) :
    d.relink h st f = { d with heads := (d.relink h st f).heads, links := (d.relink h st f).links } := by
  rw [Dev.relink, Dev.linkTo_eq]
  rfl

/-- A link that is not in RUNNING has no stream to stop. -/
theorem Dev.heads_relink {d : Dev} {h : Nat} (st : LinkState) (f : Link → Link) (hidle : (d.lk h).state ≠ .running) :
    (d.relink h st f).heads = d.heads := by
  have hstays : ((d.lk h).state == .running && st != .running) = false := by simp [hidle]
  rw [Dev.relink, Dev.modLk_heads, Dev.linkTo, hstays]
  rfl

/-- A link that leaves RUNNING stops its stream, and the frame in progress is not sealed (R226). -/
theorem Dev.relink_stops {d : Dev} {h : Nat} {st : LinkState} (f : Link → Link) (hrun : (d.lk h).state = .running)
    (hst : st ≠ .running) : ((d.relink h st f).hd h).emitting = false ∧ ((d.relink h st f).hd h).sealPend = none := by
  have hleaves : ((d.lk h).state == .running && st != .running) = true := by simp [hrun, hst]
  rw [Dev.relink, Dev.hd, Dev.modLk_heads, Dev.linkTo, if_pos hleaves, Dev.modLk_heads, ← Dev.hd, Dev.hd_modHd]
  exact ⟨rfl, rfl⟩

theorem Dev.dict_relink (d : Dev) (h : Nat) (st : LinkState) (f : Link → Link) : (d.relink h st f).dict = d.dict :=
  (congrArg Dev.dict (d.relink_eq h st f) :)

theorem Dev.records_relink (d : Dev) (h : Nat) (st : LinkState) (f : Link → Link) : Dev.records 0 d (d.relink h st f) :=
  Dev.records_of_events_eq (congrArg Dev.clock (d.relink_eq h st f) :) (by rw [Dev.dict_relink])

theorem Dev.bare_relink (d : Dev) (h : Nat) (st : LinkState) (f : Link → Link) : (d.relink h st f).bare =
    { d.bare with links := (d.relink h st f).links, heads := (d.relink h st f).heads } :=
  (congrArg Dev.bare (d.relink_eq h st f) :)

/-- What a link that takes a state and tells of it leaves of the device. -/
theorem Dev.relink_raise_keeps (d : Dev) (h : Nat) (st : LinkState) (f : Link → Link) (code : Nat) :
    let e := (d.relink h st f).raise code h
    e.bare = { d.bare with links := e.links, heads := e.heads } ∧ d.regsBut [] e ∧
      (d.evFree 1 = true → d.logs e code h 0) := by
  have hrec := d.records_relink h st f
  refine ⟨?_, fun k _ hk => ?_, fun hfree => hrec.then_logs (Dev.logs_raise code h 0 0 0 (hrec.evFree hfree))⟩
  · rw [Dev.bare_raise, Dev.raise_links, Dev.raise_heads, Dev.bare_relink]
  · rw [Dev.quiet_raise _ _ _ _ _ _ k hk, Dev.dict_relink]

/-! ### A display leaves and arrives (R225, R228, R231) -/

/-- A link without a display. -/
def Link.absent (l : Link) : Link := { l with cands := [], sameRetry := false, lossOf := [], retryAt := none, cur := none }

/-- What HPD_LOW_TIMEOUT does of a head with a display. -/
theorem gives_hpdLowTimeout {s : State} {t : Nat} {h : Fin 32} {P : Dev → Prop} {d : Dev} (hd : s.dev.tick t = d)
    (halive : d.alive = true) (hh : h.val < d.gradeHeads) (hon : (d.lk h).state ≠ .disabled)
    (hpresent : (d.lk h).state ≠ .absent)
    (p : P (((d.modLk h fun l => { l with hpd := false, failed := [] }).relink h .absent Link.absent).raise
      Code.linkAbsent h)) : s.gives (.hpdLowTimeout t h) P := by
  have hdisplay : ((d.lk h).state == .disabled || (d.lk h).state == .absent) = false := by simp [hon, hpresent]
  refine State.gives_when (b := fun d => d.alive && h < d.gradeHeads) hd rfl (by simp [halive, hh]) ?_
  simp only [hdisplay, Bool.false_eq_true, if_false]
  exact p

theorem displayLeaves : Claims.DisplayLeaves := by
  intro s t h d halive hh hon hpresent hfree
  refine gives_hpdLowTimeout (d := d) rfl halive hh hon hpresent ?_
  have hunplugged : Dev.records 0 d (d.modLk h fun l => { l with hpd := false, failed := [] }) :=
    Dev.records_of_events_eq rfl rfl
  obtain ⟨hbare, hregs, hlogs⟩ := Dev.relink_raise_keeps (d.modLk h fun l => { l with hpd := false, failed := [] }) h .absent
    Link.absent Code.linkAbsent
  refine ⟨?_, fun hrun => ?_, fun o ho => ?_, hunplugged.then_logs (hlogs (hunplugged.evFree hfree)), hbare, hregs⟩
  · rw [Dev.lk, Dev.raise_links, ← Dev.lk, Dev.lk_relink, Dev.lk_modLk]
    rfl
  · rw [Dev.hd, Dev.raise_heads]
    exact Dev.relink_stops _ (by rw [Dev.lk_modLk]; exact hrun) (by decide)
  · rw [Dev.lk, Dev.raise_links, Dev.hd, Dev.raise_heads, ← Dev.lk_modLk_ne d (fun l => { l with hpd := false, failed := [] }) ho]
    exact Dev.relink_other _ _ _ ho

/-- A link that reads its sink. -/
def Link.read (l : Link) : Link := { l with retryAt := none, cands := [] }

theorem Dev.toReading_eq (d : Dev) (h : Nat) : d.toReading h = d.relink h .reading Link.read := rfl

/-- A display is there again: the schedule of retries starts over (R233). -/
def Dev.noteHpd (d : Dev) (h : Nat) : Dev :=
  if (d.lk h).hpd then d else d.modLk h fun l => { l with hpd := true, retryStep := 0 }

theorem Dev.noteHpd_eq (d : Dev) (h : Nat) : d.noteHpd h = { d with links := (d.noteHpd h).links } := by
  unfold Dev.noteHpd
  split <;> rfl

theorem Dev.lk_noteHpd (d : Dev) (h : Nat) : (d.noteHpd h).lk h = { d.lk h with
    hpd := true, retryStep := if (d.lk h).hpd then (d.lk h).retryStep else 0 } := by
  unfold Dev.noteHpd
  split
  next hset => rw [← hset]
  next hset => rw [Dev.lk_modLk]

theorem Dev.lk_noteHpd_ne (d : Dev) {h o : Nat} (ho : o ≠ h) : (d.noteHpd h).lk o = d.lk o := by
  unfold Dev.noteHpd
  split
  · rfl
  · exact Dev.lk_modLk_ne d _ ho

/-- What HPD_HIGH_STABLE does of an absent head after its 10 ms. -/
theorem gives_hpdHighStable {s : State} {t : Nat} {h : Fin 32} {P : Dev → Prop} {d : Dev} (hd : s.dev.tick t = d)
    (halive : d.alive = true) (hh : h.val < d.gradeHeads) (habsent : (d.lk h).state = .absent)
    (hstable : (d.lk h).countFrom + 10000000 ≤ d.now)
    (p : P (((d.noteHpd h).relink h .reading Link.read).raise Code.linkPresent h)) : s.gives (.hpdHighStable t h) P := by
  have hnow : (d.noteHpd h).now = d.now := (congrArg Dev.now (d.noteHpd_eq h) :)
  have hruns : (((d.noteHpd h).lk h).state == .absent &&
      decide (((d.noteHpd h).lk h).countFrom + 10000000 ≤ (d.noteHpd h).now)) = true := by
    simp [Dev.lk_noteHpd, hnow, habsent, hstable]
  refine State.gives_when (b := fun d => d.alive && h < d.gradeHeads)
    (f := fun d => if ((d.noteHpd h).lk h).state == .absent &&
        decide (((d.noteHpd h).lk h).countFrom + 10000000 ≤ (d.noteHpd h).now) then
      ((d.noteHpd h).toReading h).raise Code.linkPresent h else d.noteHpd h) hd rfl (by simp [halive, hh]) ?_
  simp only [if_pos hruns]
  exact p

theorem displayArrives : Claims.DisplayArrives := by
  intro s t h d halive hh habsent hstable hfree
  refine gives_hpdHighStable (d := d) rfl halive hh habsent hstable ?_
  have heq := d.noteHpd_eq h
  have hlk := d.lk_noteHpd h
  have hother (o : Nat) (ho : o ≠ h.val) := d.lk_noteHpd_ne ho
  generalize d.noteHpd h = e at *
  have hdict : e.dict = d.dict := (congrArg Dev.dict heq :)
  have hnoted : Dev.records 0 d e := Dev.records_of_events_eq (congrArg Dev.clock heq :) (by rw [hdict])
  obtain ⟨hbare, hregs, hlogs⟩ := e.relink_raise_keeps h .reading Link.read Code.linkPresent
  have hidle : (e.relink h .reading Link.read).heads = d.heads :=
    (Dev.heads_relink _ _ (by simp [hlk, habsent])).trans (congrArg Dev.heads heq :)
  refine ⟨?_, ?_, ?_, fun o ho => ?_, hnoted.then_logs (hlogs (hnoted.evFree hfree)), ?_, ?_⟩
  · rw [Dev.lk, Dev.raise_links, ← Dev.lk, Dev.lk_relink]
    rfl
  · rw [Dev.lk, Dev.raise_links, ← Dev.lk, Dev.lk_relink, hlk]
    rfl
  · rw [Dev.lk, Dev.raise_links, ← Dev.lk, Dev.lk_relink]
    rfl
  · rw [Dev.lk, Dev.raise_links, ← Dev.lk, (e.relink_other _ _ ho).1, hother o ho]
  · rw [hbare, Dev.raise_heads, hidle, heq]
    rfl
  · rw [Dev.regsBut, ← hdict]
    exact hregs

/-! ### A lane out of lock (R228, R232) -/

/-- The lanes of a candidate that a sink does not report locked. -/
def Cand.unlocked (c : Cand) (locked : List Nat) : List Nat := (List.range c.lanes).filter fun i => !locked.contains i

/-- A link that retrains its candidate once, to answer the loss of some lanes. -/
def Link.retry (c : Cand) (out : List Nat) (l : Link) : Link :=
  { l with cands := [c], phase := 0, tookPart := [], lockSeen := [], sameRetry := true, lossOf := out }

theorem Dev.linkStatus_some {d : Dev} {h : Nat} {c : Cand} (locked : List Nat) (hcur : (d.lk h).cur = some c) :
    d.linkStatus h locked = d.lockLoss h (c.unlocked locked) := by
  rw [Dev.linkStatus, hcur]
  rfl

theorem Dev.lockLoss_nil (d : Dev) (h : Nat) : d.lockLoss h [] = d := by
  unfold Dev.lockLoss
  split
  · rfl
  · rfl

/-- The status of a sink comes to a loss of lock, of no lane where the link has no candidate in use. -/
theorem Dev.linkStatus_eq_lockLoss (d : Dev) (h : Nat) (locked : List Nat) :
    ∃ out, d.linkStatus h locked = d.lockLoss h out := by
  unfold Dev.linkStatus
  split
  · exact ⟨_, rfl⟩
  · exact ⟨[], (d.lockLoss_nil h).symm⟩

/-- A status reaches its own link and head alone. -/
theorem Dev.linkStatus_keeps (d : Dev) (h : Nat) (locked : List Nat) :
    (∀ o, o ≠ h → (d.linkStatus h locked).lk o = d.lk o ∧ (d.linkStatus h locked).hd o = d.hd o) ∧
      d.linkStatus h locked =
        { d with links := (d.linkStatus h locked).links, heads := (d.linkStatus h locked).heads } := by
  obtain ⟨out, heq⟩ := d.linkStatus_eq_lockLoss h locked
  rw [heq]
  exact ⟨fun o ho => d.lockLoss_other out ho, d.lockLoss_eq h out⟩

theorem Dev.lockLoss_running {d : Dev} {h : Nat} {c : Cand} {out : List Nat} (hrun : (d.lk h).state = .running)
    (hcur : (d.lk h).cur = some c) (hout : out ≠ []) : d.lockLoss h out = d.relink h .training (Link.retry c out) := by
  have hne : out.isEmpty = false := by simpa using hout
  simp only [Dev.lockLoss, hrun, hcur, hne, Bool.false_eq_true, if_false]
  rfl

/-- A running link of which the sink reports a lane out of lock retrains its candidate, and its stream stops. -/
theorem Dev.linkStatus_retries {d : Dev} {h : Nat} {c : Cand} {locked : List Nat} (hrun : (d.lk h).state = .running)
    (hcur : (d.lk h).cur = some c) (hout : c.unlocked locked ≠ []) :
    ((d.linkStatus h locked).lk h).state = .training ∧ ((d.linkStatus h locked).lk h).cands = [c] ∧
      ((d.linkStatus h locked).lk h).sameRetry = true ∧ ((d.linkStatus h locked).lk h).lossOf = c.unlocked locked ∧
      ((d.linkStatus h locked).hd h).emitting = false := by
  rw [Dev.linkStatus_some locked hcur, Dev.lockLoss_running hrun hcur hout, Dev.lk_relink]
  exact ⟨rfl, rfl, rfl, rfl, (Dev.relink_stops _ hrun (by decide)).1⟩

theorem Dev.linkStatus_locked {d : Dev} {h : Nat} {c : Cand} {locked : List Nat} (hcur : (d.lk h).cur = some c)
    (hout : c.unlocked locked = []) : d.linkStatus h locked = d := by
  rw [Dev.linkStatus_some locked hcur, hout, Dev.lockLoss_nil]

/-- What IRQ_HPD does for a low pulse of 0.25 ms to 2 ms. -/
theorem gives_irqHpd {s : State} {t us : Nat} {h : Fin 32} {locked : List Nat} {P : Dev → Prop} {d : Dev}
    (hd : s.dev.tick t = d) (halive : d.alive = true) (hh : h.val < d.gradeHeads) (hlow : 250 ≤ us) (hhigh : us ≤ 2000)
    (p : P (if (d.lk h).state = .absent then d.modLk h fun l => { l with countFrom := d.now } else d.linkStatus h locked)) :
    s.gives (.irqHpd t h us locked) P := by
  refine State.gives_when (b := fun d => d.alive && h < d.gradeHeads && 250 ≤ us && us ≤ 2000) hd rfl
    (by simp [halive, hh, hlow, hhigh]) ?_
  simpa only [beq_iff_eq] using p

/-- A counter whose sum stays within its type counts it. -/
theorem Dev.rn_bumpBy {d : Dev} {o : Obj} {i n : Nat} (h : d.rn o i + n < 2 ^ (8 * o.size)) :
    (d.bumpBy o i n).rn o i = d.rn o i + n := by
  unfold Dev.bumpBy
  dsimp only
  rw [if_pos h, Dev.rn_setN, Int.toNat_natCast]

theorem linkStatusHandled : Claims.LinkStatusHandled := by
  intro s t h us locked errs d out retry halive
  refine ⟨fun hh hlow hhigh => ?_, fun hrun => ?_⟩
  · refine gives_irqHpd (d := d) rfl halive hh hlow hhigh ?_
    by_cases habsent : (d.lk h).state = .absent
    · have hnotRun : (d.lk h).state ≠ .running := by rw [habsent]; decide
      rw [if_pos habsent]
      exact ⟨fun _ => ⟨Dev.lk_modLk d h _, rfl⟩, fun _ hrun => absurd hrun hnotRun, fun _ hrun => absurd hrun hnotRun,
        fun o ho => ⟨Dev.lk_modLk_ne d _ ho, rfl⟩, rfl⟩
    · rw [if_neg habsent]
      exact ⟨fun h => absurd h habsent, fun c hrun hcur hout => Dev.linkStatus_retries hrun hcur hout,
        fun c _ hcur hout => Dev.linkStatus_locked hcur hout, d.linkStatus_keeps h locked⟩
  · refine State.gives_when (d := d) (b := fun d => d.alive && (d.lk h).state == .running) rfl rfl (by simp [halive, hrun]) ?_
    have hcounted := d.bare_bumpBy O.headSymbolErrors h (sumL errs)
    have hregs : d.regsJust [O.headSymbolErrors.key h] (d.bumpBy O.headSymbolErrors h (sumL errs)) := fun k hk =>
      Dev.bumpBy_regs d _ _ _ fun heq => hk (List.mem_singleton.mpr heq)
    have hsum : d.rn O.headSymbolErrors h + sumL errs < 2 ^ 32 →
      (d.bumpBy O.headSymbolErrors h (sumL errs)).rn O.headSymbolErrors h = d.rn O.headSymbolErrors h + sumL errs :=
      Dev.rn_bumpBy (o := O.headSymbolErrors)
    dsimp only
    generalize d.bumpBy O.headSymbolErrors h (sumL errs) = e at *
    have hlinks : e.links = d.links := Dev.of_bare Dev.links (fun _ => rfl) hcounted
    have hheads : e.heads = d.heads := Dev.of_bare Dev.heads (fun _ => rfl) hcounted
    have hlk (o : Nat) : e.lk o = d.lk o := Dev.of_bare (Dev.lk · o) (fun _ => rfl) hcounted
    have hhd (o : Nat) : e.hd o = d.hd o := Dev.of_bare (Dev.hd · o) (fun _ => rfl) hcounted
    obtain ⟨hother, heq⟩ := e.linkStatus_keeps h locked
    have hdict : (e.linkStatus h locked).dict = e.dict := (congrArg Dev.dict heq :)
    refine ⟨fun hsmall => ?_, fun c hcur hout => ?_, fun c hcur hout => ?_, fun o ho => ?_, ?_, fun k hk => ?_⟩
    · rw [← hsum hsmall]
      exact Dev.rn_congr (by rw [hdict])
    · rw [← hlk] at hrun hcur
      exact Dev.linkStatus_retries hrun hcur hout
    · rw [← hlk] at hcur
      rw [Dev.linkStatus_locked hcur hout]
      exact ⟨hlinks, hheads⟩
    · rw [← hlk, ← hhd]
      exact hother o ho
    · rw [← hcounted]
      exact (congrArg Dev.bare heq :)
    · rw [hdict]
      exact hregs k hk

/-- Settles O23: a link that takes a state reaches its own head alone and stops its stream where it leaves RUNNING
(`Dev.relink_stops`); the status of a sink comes to a loss of lock of the lanes it does not report locked
(`Dev.linkStatus_retries`). -/
theorem displaysDetected : Obligations.DisplaysDetected := ⟨displayLeaves, displayArrives, linkStatusHandled⟩

end Sys2Proof.Machine

namespace Sys2Proof.Machine

/-! ### A head is untrained, or an attempt starts (R223, R229, R230, R233) -/

/-- A link that trained no candidate waits for the next retry of the schedule. -/
def Link.awaitRetry (now : Nat) (l : Link) : Link := { l with
  retryAt := some (now + 1000000 * [100, 400, 1600].getD l.retryStep 5000), retryStep := l.retryStep + 1
  cands := [], sameRetry := false }

theorem Dev.untrained_eq (d : Dev) (h code : Nat) :
    d.untrained h code = (d.relink h .untrained (Link.awaitRetry d.now)).raise code h := rfl

theorem Dev.lk_untrained (d : Dev) (h code : Nat) :
    (d.untrained h code).lk h = Link.awaitRetry d.now { d.lk h with state := .untrained } := by
  rw [Dev.untrained_eq, Dev.lk, Dev.raise_links, ← Dev.lk, Dev.lk_relink]

/-- A link that tries candidates from the first on. -/
def Link.attempt (cs : List Cand) (l : Link) : Link :=
  { l with cands := cs, phase := 0, tookPart := [], lockSeen := [], sameRetry := false, retryAt := none }

/-- A full attempt starts with some candidates, and is counted. -/
def Dev.startAttempt (d : Dev) (h : Nat) (cs : List Cand) : Dev :=
  (d.relink h .training (Link.attempt cs)).bump O.headTrainings h

theorem Dev.lk_startAttempt (d : Dev) (h : Nat) (cs : List Cand) :
    (d.startAttempt h cs).lk h = Link.attempt cs { d.lk h with state := .training } := by
  rw [Dev.startAttempt, Dev.of_bare (Dev.lk · h) (fun _ => rfl) (Dev.bare_bump _ _ _), Dev.lk_relink]

theorem Dev.hd_startAttempt (d : Dev) (h o : Nat) (cs : List Cand) :
    (d.startAttempt h cs).hd o = (d.relink h .training (Link.attempt cs)).hd o :=
  Dev.of_bare (Dev.hd · o) (fun _ => rfl) (Dev.bare_bump _ _ _)

theorem Dev.rn_startAttempt (d : Dev) (h : Nat) (cs : List Cand) :
    (d.startAttempt h cs).rn O.headTrainings h = upTo O.headTrainings (d.rn O.headTrainings h) := by
  have hcount : (d.relink h .training (Link.attempt cs)).rn O.headTrainings h = d.rn O.headTrainings h :=
    Dev.rn_congr (by rw [Dev.dict_relink])
  rw [Dev.startAttempt, Dev.rn_bump _ _ _ (by decide), hcount]

theorem Dev.regsJust_startAttempt (d : Dev) (h : Nat) (cs : List Cand) :
    d.regsJust [O.headTrainings.key h] (d.startAttempt h cs) := fun k hk => by
  rw [Dev.startAttempt, Dev.bump_regs _ _ _ fun heq => hk (List.mem_singleton.mpr heq), Dev.dict_relink]

section

variable {d : Dev} {h : Nat} (hspread : d.rf O.clockRefSpread = false ∨ (d.lk h).sinkSpread = true)
include hspread

theorem Dev.beginAttempt_starts (hcs : d.candidates h ≠ []) : d.beginAttempt h = d.startAttempt h (d.candidates h) := by
  have hok : (d.rf O.clockRefSpread && !(d.lk h).sinkSpread) = false := by rcases hspread with hs | hs <;> simp [hs]
  unfold Dev.beginAttempt
  rw [hok, if_neg Bool.false_ne_true]
  split
  next hnone => exact absurd hnone hcs
  next => rfl

theorem Dev.beginAttempt_nofit (hcs : d.candidates h = []) : d.beginAttempt h = d.untrained h Code.linkModeNofit := by
  have hok : (d.rf O.clockRefSpread && !(d.lk h).sinkSpread) = false := by rcases hspread with hs | hs <;> simp [hs]
  simp only [Dev.beginAttempt, hok, Bool.false_eq_true, if_false, hcs]

end

/-- The start of an attempt leaves the head untrained, or trying its candidates. -/
theorem Dev.beginAttempt_cases (d : Dev) (h : Nat) :
    (∃ code, d.beginAttempt h = d.untrained h code) ∨ d.beginAttempt h = d.startAttempt h (d.candidates h) := by
  by_cases hspread : d.rf O.clockRefSpread = false ∨ (d.lk h).sinkSpread = true
  · by_cases hcs : d.candidates h = []
    · exact .inl ⟨_, Dev.beginAttempt_nofit hspread hcs⟩
    · exact .inr (Dev.beginAttempt_starts hspread hcs)
  · have hbad : (d.rf O.clockRefSpread && !(d.lk h).sinkSpread) = true := by simpa using hspread
    exact .inl ⟨_, if_pos hbad⟩

/-- What an attempt knows of the sink, it knew. -/
theorem Dev.sink_beginAttempt (d : Dev) (h : Nat) : ((d.beginAttempt h).lk h).sinkRates = (d.lk h).sinkRates ∧
    ((d.beginAttempt h).lk h).sinkLanes = (d.lk h).sinkLanes := by
  rcases d.beginAttempt_cases h with ⟨code, heq⟩ | heq
  · rw [heq, Dev.lk_untrained]
    exact ⟨rfl, rfl⟩
  · rw [heq, Dev.lk_startAttempt]
    exact ⟨rfl, rfl⟩

theorem Dev.beginAttempt_other (d : Dev) {h o : Nat} (ho : o ≠ h) :
    (d.beginAttempt h).lk o = d.lk o ∧ (d.beginAttempt h).hd o = d.hd o := by
  rcases d.beginAttempt_cases h with ⟨code, heq⟩ | heq
  · rw [heq, Dev.untrained_eq, Dev.lk, Dev.raise_links, Dev.hd, Dev.raise_heads]
    exact d.relink_other _ _ ho
  · rw [heq, Dev.hd_startAttempt, Dev.startAttempt, Dev.of_bare (Dev.lk · o) (fun _ => rfl) (Dev.bare_bump _ _ _)]
    exact d.relink_other _ _ ho

theorem Dev.bare_startAttempt (d : Dev) (h : Nat) (cs : List Cand) : (d.startAttempt h cs).bare =
    { d.bare with links := (d.startAttempt h cs).links, heads := (d.startAttempt h cs).heads } := by
  have hcounted := Dev.bare_bump (d.relink h .training (Link.attempt cs)) O.headTrainings h
  rw [Dev.startAttempt, Dev.of_bare Dev.links (fun _ => rfl) hcounted, Dev.of_bare Dev.heads (fun _ => rfl) hcounted, hcounted,
    Dev.bare_relink]

theorem Dev.bare_beginAttempt (d : Dev) (h : Nat) : (d.beginAttempt h).bare =
    { d.bare with links := (d.beginAttempt h).links, heads := (d.beginAttempt h).heads } := by
  rcases d.beginAttempt_cases h with ⟨code, heq⟩ | heq
  · rw [heq]
    exact (d.relink_raise_keeps h _ _ code).1
  · rw [heq]
    exact d.bare_startAttempt h _

theorem Dev.heads_untrained {d : Dev} {h : Nat} (code : Nat) (hidle : (d.lk h).state ≠ .running) :
    (d.untrained h code).heads = d.heads := by
  rw [Dev.untrained_eq, Dev.raise_heads, Dev.heads_relink _ _ hidle]

theorem Dev.heads_beginAttempt {d : Dev} {h : Nat} (hidle : (d.lk h).state ≠ .running) :
    (d.beginAttempt h).heads = d.heads := by
  rcases d.beginAttempt_cases h with ⟨code, heq⟩ | heq
  · rw [heq, Dev.heads_untrained code hidle]
  · rw [heq, Dev.startAttempt, Dev.of_bare Dev.heads (fun _ => rfl) (Dev.bare_bump _ _ _), Dev.heads_relink _ _ hidle]

theorem Dev.regsBut_beginAttempt (d : Dev) (h : Nat) : d.regsBut [O.headTrainings.key h] (d.beginAttempt h) := by
  rcases d.beginAttempt_cases h with ⟨code, heq⟩ | heq
  · rw [heq]
    exact fun k _ hk => (d.relink_raise_keeps h _ _ code).2.1 k List.not_mem_nil hk
  · rw [heq]
    exact fun k hk _ => d.regsJust_startAttempt h _ k hk

/-! ### READING_COMPLETE (R229, R230) -/

/-- What the sink reports is published and kept. -/
def Dev.takeCaps (d : Dev) (h : Nat) (caps : SinkCaps) : Dev :=
  ((d.setB O.headSinkCaps h (caps.dpcd.take 257)).setB O.headEdid h (caps.edid.take 1024)).modLk h fun l =>
    { l with sinkRates := caps.rates, sinkLanes := caps.lanes, sinkSpread := caps.spread, sinkVsc := caps.vsc }

theorem exec_readingComplete (t : Nat) (h : Fin 32) (caps : SinkCaps) (s : State) : exec (.readingComplete t h caps) s =
    s.run t fun d => d.when (d.alive && (d.lk h).state == .reading) fun d => (d.takeCaps h caps).beginAttempt h := rfl

theorem Dev.lk_takeCaps (d : Dev) (h : Nat) (caps : SinkCaps) : (d.takeCaps h caps).lk h = { d.lk h with
    sinkRates := caps.rates, sinkLanes := caps.lanes, sinkSpread := caps.spread, sinkVsc := caps.vsc } :=
  Dev.lk_modLk _ _ _

theorem Dev.lk_takeCaps_ne (d : Dev) {h o : Nat} (caps : SinkCaps) (ho : o ≠ h) : (d.takeCaps h caps).lk o = d.lk o :=
  Dev.lk_modLk_ne _ _ ho

theorem Dev.regsJust_takeCaps (d : Dev) (h : Nat) (caps : SinkCaps) :
    d.regsJust [O.headSinkCaps.key h, O.headEdid.key h] (d.takeCaps h caps) := fun k hk => by
  obtain ⟨hcaps, hedid⟩ := not_or.mp (mt List.mem_cons.mpr hk)
  exact (Dev.setKey_eff_ne _ _ fun heq => hedid (List.mem_singleton.mpr heq)).trans (Dev.setKey_eff_ne _ _ hcaps)

/-- The registers of a head that an attempt reads are not those that READING publishes. -/
theorem attemptRegisters_apart (h : Nat) :
    ∀ o ∈ [O.headMaxRate, O.headLaneCount, O.headHTotal, O.headEncoding, O.headLineCycles, O.headTrainings],
      o.key h ∉ [O.headSinkCaps.key h, O.headEdid.key h] := by
  simp [Obj.key, O.headMaxRate, O.headLaneCount, O.headHTotal, O.headEncoding, O.headLineCycles, O.headTrainings,
    O.headSinkCaps, O.headEdid]
  omega

theorem clockRefSpread_apart (h : Nat) : O.clockRefSpread.key 0 ∉ [O.headSinkCaps.key h, O.headEdid.key h] := by
  simp only [Obj.key, O.clockRefSpread, O.headSinkCaps, O.headEdid, List.mem_cons, List.not_mem_nil, or_false]
  omega

theorem reportKey_headRegisters : ∀ h < 32, reportKey (O.headSinkCaps.key h) = false ∧
    reportKey (O.headEdid.key h) = false ∧ reportKey (O.headDrive.key h) = false := by decide

theorem Dev.rn_takeCaps (d : Dev) (h : Nat) (caps : SinkCaps) : ∀ o ∈ [O.headMaxRate, O.headLaneCount, O.headHTotal,
    O.headEncoding, O.headLineCycles, O.headTrainings], (d.takeCaps h caps).rn o h = d.rn o h := fun o ho =>
  Dev.rn_congr (d.regsJust_takeCaps h caps _ (attemptRegisters_apart h o ho))

theorem Dev.rb_congr {d e : Dev} {o : Obj} {i j : Nat}
    (h : tfind e.dict.eff (o.key i j) = tfind d.dict.eff (o.key i j)) : e.rb o i j = d.rb o i j := by
  simp [Dev.rb, Dev.effV, h]

theorem headEdid_ne_headSinkCaps (h : Nat) : O.headSinkCaps.key h ≠ O.headEdid.key h := by
  simp only [Obj.key, O.headSinkCaps, O.headEdid]
  omega

theorem Dev.rb_takeCaps (d : Dev) (h : Nat) (caps : SinkCaps) :
    (d.takeCaps h caps).rb O.headSinkCaps h = caps.dpcd.take 257 ∧
      (d.takeCaps h caps).rb O.headEdid h = caps.edid.take 1024 := by
  constructor
  · exact (Dev.rb_congr (Dev.setKey_eff_ne _ _ (headEdid_ne_headSinkCaps h))).trans (Dev.rb_setB d _ _ _)
  · exact Dev.rb_setB (d.setB O.headSinkCaps h _) _ _ _

/-- Whether a rate and lane count carry a mode is read from three registers. -/
theorem Dev.carriesMode_congr {d e : Dev} {h : Nat} (htotal : e.rn O.headHTotal h = d.rn O.headHTotal h)
    (henc : e.rn O.headEncoding h = d.rn O.headEncoding h) (hcycles : e.rn O.headLineCycles h = d.rn O.headLineCycles h)
    (r n div : Nat) : e.carriesMode h r n div = d.carriesMode h r n div := by
  rw [Dev.carriesMode, Dev.carriesMode, htotal, henc, hcycles]

/-- A rate of the sink and a lane count of the attempt that carry the mode are a nominal candidate. -/
theorem Dev.mem_candidates {d : Dev} {h r n : Nat} (hr : r < 7) (hmax : r ≤ d.rn O.headMaxRate h)
    (hsink : r ∈ (d.lk h).sinkRates) (hn : n ∈ d.laneCounts h) (hfit : d.carriesMode h r n 1 = true) :
    ⟨r, n, false⟩ ∈ d.candidates h := by
  refine List.mem_append_left _ (List.mem_map.mpr ⟨(r, n), List.mem_filter.mpr ⟨?_, hfit⟩, rfl⟩)
  refine List.mem_flatMap.mpr ⟨r, List.mem_filter.mpr ⟨List.mem_range.mpr hr, ?_⟩, List.mem_map.mpr ⟨n, hn, rfl⟩⟩
  simp [hmax, hsink]

theorem Dev.mem_laneCounts {d : Dev} {h n : Nat} (hn : n ∈ [1, 2, 4]) (hsink : n ≤ (d.lk h).sinkLanes)
    (hset : n ≤ d.rn O.headLaneCount h) (hfailed : (d.lk h).failed = []) : n ∈ d.laneCounts h :=
  List.mem_filter.mpr ⟨hn, by simp [hsink, hset, hfailed]⟩

theorem Dev.candidates_of_no_rates {d : Dev} {h : Nat} (hnone : (d.lk h).sinkRates = []) : d.candidates h = [] := by
  simp [Dev.candidates, hnone]

/-- A rate that sink and head share is a candidate after READING where its lanes carry the mode. -/
theorem Dev.mem_candidates_takeCaps {d : Dev} {h r n : Nat} {caps : SinkCaps} (hsink : r ∈ caps.rates) (hn : n ∈ [1, 2, 4])
    (hr : r < 7) (hmax : r ≤ d.rn O.headMaxRate h) (hlanes : n ≤ caps.lanes) (hset : n ≤ d.rn O.headLaneCount h)
    (hfailed : (d.lk h).failed = []) (hfit : d.carriesMode h r n 1 = true) :
    ⟨r, n, false⟩ ∈ (d.takeCaps h caps).candidates h := by
  have hrn := d.rn_takeCaps h caps
  have hlk := d.lk_takeCaps h caps
  refine Dev.mem_candidates hr ?_ ?_ (Dev.mem_laneCounts hn ?_ ?_ ?_) ?_
  · rwa [hrn _ (by simp)]
  · rwa [hlk]
  · rwa [hlk]
  · rwa [hrn _ (by simp)]
  · rwa [hlk]
  · rwa [Dev.carriesMode_congr (hrn _ (by simp)) (hrn _ (by simp)) (hrn _ (by simp))]

theorem readingEnds : Claims.ReadingEnds := by
  intro s t h caps d halive hreading hspread hfree
  refine State.gives_when (d := d) rfl (exec_readingComplete t h caps s) (by simp [halive, hreading]) ?_
  have hlk := d.lk_takeCaps h caps
  have hother (o : Nat) (ho : o ≠ h.val) := d.lk_takeCaps_ne caps ho
  have hkept := d.regsJust_takeCaps h caps
  have htaken : Dev.records 0 d (d.takeCaps h caps) := Dev.records_of_events_eq rfl rfl
  have hbare : (d.takeCaps h caps).bare = { d.bare with links := (d.takeCaps h caps).links } := rfl
  have hcands (r n : Nat) := @Dev.mem_candidates_takeCaps d h r n caps
  have hcount := d.rn_takeCaps h caps O.headTrainings (by simp)
  obtain ⟨hcaps, hedid⟩ := d.rb_takeCaps h caps
  have hheads : (d.takeCaps h caps).heads = d.heads := rfl
  generalize d.takeCaps h caps = e at *
  have hidle : (e.lk h).state ≠ .running := by simp [hlk, hreading]
  have hspread : e.rf O.clockRefSpread = false ∨ (e.lk h).sinkSpread = true := by
    rw [Dev.rf, Dev.rn_congr (hkept _ (clockRefSpread_apart h)), hlk]
    exact hspread
  have hregs := e.regsBut_beginAttempt h
  obtain ⟨hrates, hlanes⟩ := e.sink_beginAttempt h
  obtain ⟨kcaps, kedid, -⟩ := reportKey_headRegisters h h.isLt
  have happart : O.headSinkCaps.key h ≠ O.headTrainings.key h ∧ O.headEdid.key h ≠ O.headTrainings.key h := by
    have := attemptRegisters_apart h O.headTrainings (by simp)
    simp only [List.mem_cons, List.not_mem_nil, or_false, not_or] at this
    exact ⟨Ne.symm this.1, Ne.symm this.2⟩
  refine ⟨?_, ?_, ?_, ?_, fun r hr n hn hr7 hmax hsink hset hfailed hfit => ?_, fun hnone => ?_, fun o ho => ?_, ?_,
    fun k hk hreport => ?_⟩
  · rw [← hcaps]
    exact Dev.rb_congr (hregs _ (by simpa using happart.1) kcaps)
  · rw [← hedid]
    exact Dev.rb_congr (hregs _ (by simpa using happart.2) kedid)
  · rw [hrates, hlk]
  · rw [hlanes, hlk]
  · have hmem := hcands r n hr hn hr7 hmax hsink hset hfailed hfit
    rw [Dev.beginAttempt_starts hspread (List.ne_nil_of_mem hmem), Dev.lk_startAttempt, Dev.rn_startAttempt, hcount]
    exact ⟨rfl, hmem, rfl⟩
  · rw [Dev.beginAttempt_nofit hspread (Dev.candidates_of_no_rates (by rw [hlk, hnone])), Dev.lk_untrained]
    exact ⟨rfl, htaken.then_logs ((e.relink_raise_keeps h _ _ _).2.2 (htaken.evFree hfree))⟩
  · rw [(e.beginAttempt_other ho).1, hother o ho]
  · rw [e.bare_beginAttempt, Dev.heads_beginAttempt hidle, hheads, hbare]
    rfl
  · simp only [List.mem_cons, List.not_mem_nil, or_false, not_or] at hk
    obtain ⟨hk1, hk2, hk3⟩ := hk
    exact (hregs k (by simpa using hk3) hreport).trans (hkept k (by simp [hk1, hk2]))

/-! ### LINK_RESTORE_TIMER, LINK_RETRY_TIMER and TRAINING_ATTEMPT_TIMEOUT (R230, R231, R233) -/

theorem linkRestores : Claims.LinkRestores := by
  intro s t h d halive hrun hdegraded hinterval hdue hspread hcs
  refine State.gives_when (d := d) (b := fun d => d.alive && (d.lk h).state == .running && (d.lk h).degraded != 0 &&
    d.rn O.headRestoreInterval h != 0 && (d.lk h).runningSince + d.rn O.headRestoreInterval h * sec ≤ d.now) rfl rfl
    (by simp [halive, hrun, hdegraded, hinterval, hdue]) ?_
  have hother (o : Nat) (ho : o ≠ h.val) := d.beginAttempt_other ho
  dsimp only
  rw [Dev.beginAttempt_starts hspread hcs] at *
  rw [Dev.lk_startAttempt, Dev.hd_startAttempt, Dev.rn_startAttempt]
  exact ⟨rfl, rfl, (Dev.relink_stops _ hrun (by decide)).1, rfl, hother, d.bare_startAttempt h _, d.regsJust_startAttempt h _⟩

/-- With every lane that took part locked, no lane fails at the end of an attempt. -/
theorem Dev.attemptEnd_runs {d : Dev} {h : Nat} (c : Cand) (timeout : Bool)
    (hlocked : ∀ i ∈ (d.lk h).tookPart, i ∈ (d.lk h).lockSeen) :
    d.attemptEnd h (some c) timeout = (d.modLk h id).enterRunning h c := by
  have hnone : ((d.lk h).tookPart.filter fun i => !(d.lk h).lockSeen.contains i) = [] := by simpa using hlocked
  simp only [Dev.attemptEnd, hnone, List.append_nil, List.foldl_nil, List.contains_nil, Bool.false_eq_true, if_false]
  rfl

theorem Dev.attemptEnd_expires {d : Dev} {h : Nat} (hlocked : ∀ i ∈ (d.lk h).tookPart, i ∈ (d.lk h).lockSeen) :
    d.attemptEnd h none true = (d.modLk h id).untrained h Code.linkPhaseTimeout := by
  have hnone : ((d.lk h).tookPart.filter fun i => !(d.lk h).lockSeen.contains i) = [] := by simpa using hlocked
  simp only [Dev.attemptEnd, hnone, List.append_nil, List.foldl_nil, List.contains_nil, Bool.false_eq_true, if_false, if_true]
  rfl

/-- What TRAINING_ATTEMPT_TIMEOUT does of a head in READING, and of one in an attempt of which no lane failed. -/
theorem gives_trainingAttemptTimeout {s : State} {t : Nat} {h : Fin 32} {P : Dev → Prop} {d : Dev} (hd : s.dev.tick t = d)
    (halive : d.alive = true) (hstate : (d.lk h).state = .reading ∨ (d.lk h).state = .training ∧
      (d.lk h).sameRetry = false ∧ ∀ i ∈ (d.lk h).tookPart, i ∈ (d.lk h).lockSeen)
    (p : ∀ e : Dev, e.lk h = d.lk h → (∀ o, o ≠ h.val → e.lk o = d.lk o) → e = { d with links := e.links } →
      P (e.untrained h Code.linkPhaseTimeout)) : s.gives (.trainingAttemptTimeout t h) P := by
  refine State.gives_when (b := fun d => d.alive) hd rfl halive ?_
  rcases hstate with hreading | ⟨htraining, hfull, hlocked⟩
  · simpa only [hreading] using p d rfl (fun _ _ => rfl) rfl
  · simp only [htraining, hfull, Bool.false_eq_true, if_false, Dev.attemptEnd_expires hlocked]
    exact p _ (Dev.lk_modLk d h id) (fun o ho => Dev.lk_modLk_ne d id ho) rfl

theorem trainingTimesOut : Claims.TrainingTimesOut := by
  intro s t h d halive hfree
  refine ⟨fun hstate => ?_, fun huntrained hretry => ?_⟩
  · refine gives_trainingAttemptTimeout (d := d) rfl halive hstate fun e hlk hother heq => ?_
    have hidle : (e.lk h).state ≠ .running := by
      rw [hlk]
      rcases hstate with hreading | ⟨htraining, -⟩
      · simp [hreading]
      · simp [htraining]
    have hnow : e.now = d.now := (congrArg Dev.now heq :)
    have hdict : e.dict = d.dict := (congrArg Dev.dict heq :)
    have hsame : Dev.records 0 d e := Dev.records_of_events_eq (congrArg Dev.clock heq :) (by rw [hdict])
    obtain ⟨hbare, hregs, hlogs⟩ := e.relink_raise_keeps h .untrained (Link.awaitRetry e.now) Code.linkPhaseTimeout
    rw [← Dev.untrained_eq] at hbare hregs hlogs
    rw [Dev.lk_untrained, hlk, hnow]
    refine ⟨rfl, rfl, rfl, hsame.then_logs (hlogs (hsame.evFree hfree)), fun o ho => ?_, ?_, ?_⟩
    · rw [Dev.untrained_eq, Dev.lk, Dev.raise_links, ← Dev.lk, (e.relink_other _ _ ho).1, hother o ho]
    · rw [hbare, Dev.heads_untrained _ hidle, heq]
      rfl
    · rw [Dev.regsBut, ← hdict]
      exact hregs
  · have hidle : (d.lk h).state ≠ .running := by simp [huntrained]
    refine State.gives_when (d := d) (b := fun d => d.alive && (d.lk h).state == .untrained &&
      decide ((d.lk h).retryAt.getD 0 ≤ d.now)) rfl rfl (by simp [halive, huntrained, hretry]) ?_
    rw [Dev.toReading_eq, Dev.lk_relink]
    refine ⟨rfl, fun o ho => (d.relink_other _ _ ho).1, ?_⟩
    rw [d.relink_eq, Dev.heads_relink _ _ hidle]

end Sys2Proof.Machine

namespace Sys2Proof.Machine

/-! ### What training reaches (R229 to R232) -/

/-- From `d` to `e` nothing moved but the link and the stream of head `h`, the record of faults and the reporting; the drive
settings of the head are as they were. -/
def Dev.trains (h : Nat) (d e : Dev) : Prop :=
  (∀ o, o ≠ h → e.lk o = d.lk o ∧ e.hd o = d.hd o) ∧
    e.bare = { d.bare with links := e.links, heads := e.heads, health := e.health } ∧ e.rn O.headDrive h = d.rn O.headDrive h

theorem Dev.trains.refl (h : Nat) (d : Dev) : Dev.trains h d d := ⟨fun _ _ => ⟨rfl, rfl⟩, rfl, rfl⟩

theorem Dev.trains.trans {h : Nat} {a b c : Dev} (f : Dev.trains h a b) (g : Dev.trains h b c) : Dev.trains h a c := by
  obtain ⟨fother, fbare, fdrive⟩ := f
  obtain ⟨gother, gbare, gdrive⟩ := g
  refine ⟨fun o ho => ⟨(gother o ho).1.trans (fother o ho).1, (gother o ho).2.trans (fother o ho).2⟩, ?_, gdrive.trans fdrive⟩
  rw [gbare, fbare]

theorem Dev.trains_modLk (d : Dev) (h : Nat) (f : Link → Link) : Dev.trains h d (d.modLk h f) :=
  ⟨fun _ ho => ⟨Dev.lk_modLk_ne d f ho, rfl⟩, rfl, rfl⟩

theorem Dev.trains_relink (d : Dev) (h : Nat) (st : LinkState) (f : Link → Link) : Dev.trains h d (d.relink h st f) := by
  refine ⟨fun o ho => d.relink_other st f ho, ?_, Dev.rn_congr (by rw [Dev.dict_relink])⟩
  rw [(congrArg Dev.health (d.relink_eq h st f) :), Dev.bare_relink]
  rfl

/-- Past the reporting a lasting fault moves the record of faults alone. -/
theorem Dev.bare_noteLasting (d : Dev) (kind inst : Nat) (own : Own) (reason : Nat) (spare : Option Nat)
    (left action : Nat) : (d.noteLasting kind inst own reason spare left action).bare =
      { d.bare with health := (d.noteLasting kind inst own reason spare left action).health } := by
  have hlogged := d.movesLog_noteLasting kind inst own reason spare left action
  exact hlogged.trans (congrArg (fun x => { d.bare with health := x }) (congrArg Dev.health hlogged).symm)

theorem headDrive_ne_headTrainings (h : Nat) : O.headDrive.key h ≠ O.headTrainings.key h := by
  simp only [Obj.key, O.headDrive, O.headTrainings]
  omega

section

variable {h : Nat} (hh : h < 32)
include hh

theorem Dev.trains_of_tells {n : Nat} {d e : Dev} (g : Dev.tells n d e) : Dev.trains h d e := by
  obtain ⟨hbare, hquiet, -⟩ := g
  refine ⟨fun o _ => ⟨Dev.of_bare (Dev.lk · o) (fun _ => rfl) hbare, Dev.of_bare (Dev.hd · o) (fun _ => rfl) hbare⟩, ?_,
    hquiet.rn (reportKey_headRegisters h hh).2.2⟩
  rw [Dev.of_bare Dev.links (fun _ => rfl) hbare, Dev.of_bare Dev.heads (fun _ => rfl) hbare,
    Dev.of_bare Dev.health (fun _ => rfl) hbare, hbare]
  rfl

theorem Dev.trains_raise (d : Dev) (c p0 p1 p2 p3 : Nat) : Dev.trains h d (d.raise c p0 p1 p2 p3) :=
  Dev.trains_of_tells hh (d.tells_raise c p0 p1 p2 p3)

theorem Dev.trains_beginAttempt (d : Dev) : Dev.trains h d (d.beginAttempt h) := by
  refine ⟨fun o ho => d.beginAttempt_other ho, ?_, Dev.rn_congr (d.regsBut_beginAttempt h _ ?_ ?_)⟩
  · have hhealth : (d.beginAttempt h).health = d.health := (congrArg Dev.health (d.bare_beginAttempt h) :)
    rw [hhealth]
    exact d.bare_beginAttempt h
  · simpa using headDrive_ne_headTrainings h
  · exact (reportKey_headRegisters h hh).2.2

/-- A lasting fault reaches no link. -/
theorem Dev.trains_noteLasting (d : Dev) (kind inst : Nat) (own : Own) (reason : Nat) (spare : Option Nat) (left action : Nat) :
    Dev.trains h d (d.noteLasting kind inst own reason spare left action) := by
  have hbare := d.bare_noteLasting kind inst own reason spare left action
  have hregs := d.regsBut_noteLasting kind inst own reason spare left action
  generalize d.noteLasting kind inst own reason spare left action = e at *
  have hlinks : e.links = d.links := (congrArg Dev.links hbare :)
  have hheads : e.heads = d.heads := (congrArg Dev.heads hbare :)
  refine ⟨fun o _ => ⟨(congrArg (Dev.lk · o) hbare :), (congrArg (Dev.hd · o) hbare :)⟩, ?_, Dev.rn_congr (hregs _ ?_ ?_)⟩
  · rw [hlinks, hheads, hbare]
    rfl
  · simp only [Obj.key, O.headDrive, O.healthFaultLast, List.mem_singleton]
    omega
  · exact (reportKey_headRegisters h hh).2.2

theorem Dev.trains_laneFault (d : Dev) (i : Nat) : Dev.trains h d (d.laneFault h i) := by
  unfold Dev.laneFault
  split
  · exact Dev.trains_noteLasting hh d _ _ _ _ _ _ _
  · exact Dev.trains.refl h d

end

/-! ### A head enters RUNNING (R222, R226, R231, R233) -/

/-- A link that runs on a candidate. -/
def Link.run (c : Cand) (deg now : Nat) (l : Link) : Link := { l with
  cur := some c, cands := [], sameRetry := false, lossOf := [], degraded := deg, retryStep := 0, retryAt := none
  runningSince := now }

/-- The link runs on the candidate and tells of it; up to three codes more tell of what it lacks. -/
theorem Dev.enterRunning_tells (d : Dev) (h : Nat) (c : Cand) : ∃ deg, Dev.tells 3
    ((d.relink h .running (Link.run c deg d.now)).raise Code.linkRunning h) (d.enterRunning h c) := by
  unfold Dev.enterRunning
  extract_lets l was deg d1 d2 d3 d4
  refine ⟨deg, ?_⟩
  have hdegraded : Dev.tells 1 d2 d3 := by
    unfold d3
    repeat' split
    · exact Dev.tells_raise d2 _ _ _ _ _
    · exact Dev.tells_raise d2 _ _ _ _ _
    · exact Dev.tells.refl 1 d2
  have hfallback : Dev.tells 1 d3 d4 := by
    unfold d4
    split
    · exact Dev.tells_raise d3 _ _ _ _ _
    · exact Dev.tells.refl 1 d3
  refine (hdegraded.trans hfallback).trans (n := 1) ?_
  split
  · exact Dev.tells.refl 1 d4
  · exact Dev.tells_raise d4 _ _ _ _ _

theorem Dev.trains_enterRunning {h : Nat} (hh : h < 32) (d : Dev) (c : Cand) : Dev.trains h d (d.enterRunning h c) := by
  obtain ⟨deg, htells⟩ := d.enterRunning_tells h c
  exact ((d.trains_relink h _ _).trans (Dev.trains_raise hh _ _ _ _ _ _)).trans (Dev.trains_of_tells hh htells)

theorem Dev.enterRunning_runs {d : Dev} (h : Nat) (c : Cand) (hfree : d.evFree 4 = true) :
    ((d.enterRunning h c).lk h).state = .running ∧ ((d.enterRunning h c).lk h).cur = some c ∧
      ((d.enterRunning h c).lk h).runningSince = d.now ∧ ((d.enterRunning h c).lk h).retryStep = 0 ∧
      d.logs (d.enterRunning h c) Code.linkRunning h 0 := by
  obtain ⟨deg, hbare, -, hrec⟩ := d.enterRunning_tells h c
  have hrun := d.records_relink h .running (Link.run c deg d.now)
  have hroom := hrun.evFree (m := 4) hfree
  have htold := Dev.records_raise Code.linkRunning h 0 0 0 (Dev.evFree_mono (by decide) hroom)
  have hlogs := Dev.logs_raise Code.linkRunning h 0 0 0 (Dev.evFree_mono (by decide) hroom)
  rw [Dev.of_bare (Dev.lk · h) (fun _ => rfl) hbare, Dev.lk, Dev.raise_links, ← Dev.lk, Dev.lk_relink]
  exact ⟨rfl, rfl, rfl, rfl, hrun.then_logs (hlogs.then_records (hrec (htold.evFree (m := 3) hroom)))⟩

/-- The end of an attempt, whatever its outcome, reaches its own head alone. -/
theorem Dev.trains_attemptEnd {h : Nat} (hh : h < 32) (d : Dev) (trained : Option Cand) (timeout : Bool) :
    Dev.trains h d (d.attemptEnd h trained timeout) := by
  have huntrained (e : Dev) (code : Nat) : Dev.trains h e (e.untrained h code) :=
    (e.trains_relink h _ _).trans (Dev.trains_raise hh _ _ _ _ _ _)
  unfold Dev.attemptEnd
  extract_lets l new d1 d2 d3
  have hfaults : Dev.trains h d d1 := List.foldlRecOn _ _ (Dev.trains.refl h d) fun e he i _ =>
    he.trans ((Dev.trains_raise hh e _ _ _ _ _).trans (Dev.trains_laneFault hh _ i))
  have hfailed := hfaults.trans (d1.trains_modLk h fun l => { l with failed := l.failed ++ new })
  clear_value d1
  split
  · have htold : Dev.trains h d2 d3 := by
      unfold d3
      split
      · exact Dev.trains_raise hh d2 _ _ _ _ _
      · exact Dev.trains.refl h d2
    have hdown := d3.trains_relink h .down fun l => { l with cands := [] }
    exact ((hfailed.trans htold).trans hdown).trans (Dev.trains_raise hh _ _ _ _ _ _)
  · split
    next c => exact hfailed.trans (Dev.trains_enterRunning hh d2 c)
    next =>
      repeat' split
      · exact hfailed.trans (huntrained d2 _)
      · exact hfailed.trans (huntrained d2 _)
      · exact hfailed.trans (Dev.trains_beginAttempt hh d2)

/-! ### TRAINING_PHASE_DONE (R229 to R232) -/

/-- A link notes which lanes of its candidate took part in a phase and which of them locked. -/
def Link.notePhase (c : Cand) (locked : List Nat) (l : Link) : Link := { l with
  tookPart := (l.tookPart ++ List.range c.lanes).eraseDups
  lockSeen := (l.lockSeen ++ (List.range c.lanes).filter locked.contains).eraseDups }

/-- The drive settings of a phase are published and its lanes noted. -/
def Dev.notePhase (d : Dev) (h : Nat) (c : Cand) (locked drive : List Nat) : Dev :=
  (d.setN O.headDrive h (driveWord (drive.take c.lanes))).modLk h (Link.notePhase c locked)

/-- The attempt goes on after a phase of its first candidate, to the next phase, to RUNNING or to the next candidate; the retry
of a lost lock ends with it. -/
def Dev.proceed (d : Dev) (h : Nat) (c : Cand) (rest : List Cand) (all : Bool) : Dev :=
  if all then
    if (d.lk h).phase = 0 then d.modLk h fun l => { l with phase := 1 }
    else if (d.lk h).sameRetry then d.lockRegained h c
    else d.attemptEnd h (some c) false
  else if (d.lk h).sameRetry then d.beginAttempt h
  else if rest.isEmpty then d.attemptEnd h none false
  else d.modLk h fun l => { l with cands := rest, phase := 0 }

/-- What a phase of training that is done makes of a head. -/
def Dev.phaseDone (d : Dev) (h : Nat) (locked drive : List Nat) : Dev :=
  match (d.lk h).cands with
  | [] => d
  | c :: rest => (d.notePhase h c locked drive).proceed h c rest ((List.range c.lanes).all locked.contains)

theorem exec_trainingPhaseDone (t : Nat) (h : Fin 32) (locked drive : List Nat) (s : State) :
    exec (.trainingPhaseDone t h locked drive) s =
      s.run t fun d => d.when (d.alive && (d.lk h).state == .training) fun d => d.phaseDone h locked drive := rfl

theorem Dev.phaseDone_cons {d : Dev} {h : Nat} {c : Cand} {rest : List Cand} (locked drive : List Nat)
    (hcands : (d.lk h).cands = c :: rest) : d.phaseDone h locked drive =
      (d.notePhase h c locked drive).proceed h c rest ((List.range c.lanes).all locked.contains) := by
  rw [Dev.phaseDone, hcands]

theorem Dev.lk_notePhase (d : Dev) (h : Nat) (c : Cand) (locked drive : List Nat) :
    (d.notePhase h c locked drive).lk h = (d.lk h).notePhase c locked := Dev.lk_modLk _ _ _

/-- When every lane of the candidate locked, what took part of a clean attempt has locked. -/
theorem Link.notePhase_clean {l : Link} {c : Cand} {locked : List Nat} (hclean : ∀ i ∈ l.tookPart, i ∈ l.lockSeen)
    (hall : (List.range c.lanes).all locked.contains = true) :
    ∀ i ∈ (l.notePhase c locked).tookPart, i ∈ (l.notePhase c locked).lockSeen := by
  intro i hi
  simp only [Link.notePhase, List.mem_eraseDups, List.mem_append, List.mem_filter] at hi ⊢
  exact hi.imp (hclean i) fun hlane => ⟨hlane, List.all_eq_true.mp hall i hlane⟩

theorem Dev.trains_proceed {h : Nat} (hh : h < 32) {d : Dev} (c : Cand) (rest : List Cand) (all : Bool)
    (hfull : (d.lk h).sameRetry = false) : Dev.trains h d (d.proceed h c rest all) := by
  simp only [Dev.proceed, hfull, Bool.false_eq_true, if_false]
  repeat' split
  · exact d.trains_modLk h _
  · exact Dev.trains_attemptEnd hh d _ _
  · exact Dev.trains_attemptEnd hh d _ _
  · exact d.trains_modLk h _

theorem trainingProceeds : Claims.TrainingProceeds := by
  intro s t h locked drive c rest d all halive htraining hcands hfull hclean hfree
  refine State.gives_when (d := d) rfl (exec_trainingPhaseDone t h locked drive s) (by simp [halive, htraining]) ?_
  rw [Dev.phaseDone_cons locked drive hcands]
  have hlk := d.lk_notePhase h c locked drive
  have hdrive : (d.notePhase h c locked drive).rn O.headDrive h = driveWord (drive.take c.lanes) := by
    rw [Dev.notePhase, Dev.rn_congr (d := d.setN O.headDrive h (driveWord (drive.take c.lanes))) (by rfl), Dev.rn_setN,
      Int.toNat_natCast]
  have hother (o : Nat) (ho : o ≠ h.val) : (d.notePhase h c locked drive).lk o = d.lk o := Dev.lk_modLk_ne _ _ ho
  have hheads : (d.notePhase h c locked drive).heads = d.heads := rfl
  have hbare : (d.notePhase h c locked drive).bare = { d.bare with links := (d.notePhase h c locked drive).links } := rfl
  have hnow : (d.notePhase h c locked drive).now = d.now := rfl
  have hnoted : Dev.records 0 d (d.notePhase h c locked drive) := Dev.records_of_events_eq rfl rfl
  generalize d.notePhase h c locked drive = e at *
  have hfull : (e.lk h).sameRetry = false := by rw [hlk]; exact hfull
  obtain ⟨kother, kbare, kdrive⟩ := Dev.trains_proceed h.isLt c rest all hfull
  refine ⟨kdrive.trans hdrive, fun hall hphase => ?_, fun hall hphase => ?_, fun hall hrest => ?_, fun o ho => ?_, ?_⟩
  · have hfirst : (e.lk h).phase = 0 := by rw [hlk]; exact hphase
    rw [Dev.proceed, if_pos hall, if_pos hfirst, Dev.lk_modLk, hlk]
    exact ⟨htraining, rfl, hcands⟩
  · have hsecond : ¬ (e.lk h).phase = 0 := by rw [hlk]; exact hphase
    have hlocked : ∀ i ∈ (e.lk h).tookPart, i ∈ (e.lk h).lockSeen := by rw [hlk]; exact Link.notePhase_clean hclean hall
    have hready : Dev.records 0 d (e.modLk h id) := hnoted.trans (Dev.records_of_events_eq rfl rfl)
    rw [Dev.proceed, if_pos hall, if_neg hsecond, if_neg (Bool.eq_false_iff.mp hfull), Dev.attemptEnd_runs c false hlocked]
    obtain ⟨hstate, hcur, hsince, hstep, hlogs⟩ := Dev.enterRunning_runs (d := e.modLk h id) h c (hready.evFree hfree)
    exact ⟨hstate, hcur, hsince.trans hnow, hstep, hready.then_logs hlogs⟩
  · have hmore : rest.isEmpty = false := by simpa using hrest
    rw [Dev.proceed, if_neg (Bool.eq_false_iff.mp hall), if_neg (Bool.eq_false_iff.mp hfull),
      if_neg (Bool.eq_false_iff.mp hmore), Dev.lk_modLk, hlk]
    exact ⟨htraining, rfl, rfl⟩
  · rw [(kother o ho).1, (kother o ho).2, hother o ho, Dev.hd, hheads]
    exact ⟨rfl, rfl⟩
  · rw [kbare, hbare]

/-- Settles O24: an attempt starts with what the sink and the head share (`Dev.mem_candidates_takeCaps`); the end of an attempt
of which every lane locked comes to RUNNING or to the next retry (`Dev.attemptEnd_runs`, `Dev.attemptEnd_expires`), and no end
of an attempt reaches past its head, the faults and the reporting (`Dev.trains_attemptEnd`). -/
theorem headLinksTrain : Obligations.HeadLinksTrain := ⟨readingEnds, trainingProceeds, trainingTimesOut, linkRestores⟩

end Sys2Proof.Machine

namespace Sys2Proof.Machine

/-! ### What the rope's transmitter reaches (R238, R239, R244, R245) -/

/-- The rope as the transmitter leaves it: its queues and their numbers, its idle and its markers may have moved, and the parts
of messages received; the state, the step, the lanes and the numbers of the receiver are as they were. -/
def Rope.keeps (r x : Rope) : Prop := x = { r with
  sendQ := x.sendQ, replayQ := x.replayQ, nextSend := x.nextSend, unacked := x.unacked, replays := x.replays
  advanceAt := x.advanceAt, idleTx := x.idleTx, idleSince := x.idleSince, markerSeq := x.markerSeq, parts := x.parts }

theorem Rope.keeps.refl (r : Rope) : r.keeps r := rfl

theorem Rope.keeps.trans {a b c : Rope} (h : a.keeps b) (g : b.keeps c) : a.keeps c := by
  unfold Rope.keeps at *
  rw [g, h]

theorem Rope.keeps.state {r x : Rope} (h : r.keeps x) : x.state = r.state := (congrArg Rope.state h :)
theorem Rope.keeps.step {r x : Rope} (h : r.keeps x) : x.step = r.step := (congrArg Rope.step h :)
theorem Rope.keeps.prevLanes {r x : Rope} (h : r.keeps x) : x.prevLanes = r.prevLanes := (congrArg Rope.prevLanes h :)
theorem Rope.keeps.lanes {r x : Rope} (h : r.keeps x) : x.txLanes = r.txLanes ∧ x.rxLanes = r.rxLanes :=
  ⟨(congrArg Rope.txLanes h :), (congrArg Rope.rxLanes h :)⟩
theorem Rope.keeps.retrying {r x : Rope} (h : r.keeps x) : x.retrying = r.retrying := (congrArg Rope.retrying h :)
theorem Rope.keeps.rejoin {r x : Rope} (h : r.keeps x) : x.rejoin = r.rejoin := (congrArg Rope.rejoin h :)
theorem Rope.keeps.expect {r x : Rope} (h : r.keeps x) : x.expect = r.expect := (congrArg Rope.expect h :)
theorem Rope.keeps.nakSent {r x : Rope} (h : r.keeps x) : x.nakSent = r.nakSent := (congrArg Rope.nakSent h :)

/-- From `d` to `e` the transmitter sent something, and nothing but the rope moved. -/
def Dev.transmits (d e : Dev) : Prop :=
  d.rope.keeps e.rope ∧ e = { d with rope := e.rope, sent := e.sent, freeCtr := e.freeCtr }

theorem Dev.transmits.refl (d : Dev) : d.transmits d := ⟨Rope.keeps.refl _, rfl⟩

theorem Dev.transmits.trans {a b c : Dev} (h : a.transmits b) (g : b.transmits c) : a.transmits c := by
  obtain ⟨hrope, hdev⟩ := h
  obtain ⟨grope, gdev⟩ := g
  exact ⟨hrope.trans grope, by rw [gdev, hdev]⟩

/-- Steps of the transmitter one after another. -/
theorem Dev.transmits_foldl {α : Type} (d : Dev) (l : List α) (f : Dev → α → Dev) (hf : ∀ (e : Dev) x, e.transmits (f e x)) :
    d.transmits (l.foldl f d) :=
  List.foldlRecOn _ _ (Dev.transmits.refl d) fun e he x _ => he.trans (hf e x)

theorem Dev.transmits.dict {d e : Dev} (h : d.transmits e) : e.dict = d.dict := (congrArg Dev.dict h.2 :)
theorem Dev.transmits.clock {d e : Dev} (h : d.transmits e) : e.clock = d.clock := (congrArg Dev.clock h.2 :)
theorem Dev.transmits.bare {d e : Dev} (h : d.transmits e) : e.bare = { d.bare with rope := e.rope } :=
  (congrArg Dev.bare h.2 :)

theorem Dev.transmits.quiet {d e : Dev} (h : d.transmits e) : d.quiet e := fun _ _ => by rw [h.dict]

theorem Dev.transmits.records {d e : Dev} (h : d.transmits e) : Dev.records 0 d e :=
  Dev.records_of_events_eq h.clock (by rw [h.dict])

theorem Dev.transmits_emit (d : Dev) (o : Out) : d.transmits (d.emit o) := ⟨Rope.keeps.refl _, rfl⟩

theorem Dev.transmits_fresh (d : Dev) : d.transmits d.fresh.2 := ⟨Rope.keeps.refl _, rfl⟩

theorem Dev.transmits_modRope (d : Dev) (f : Rope → Rope) (hf : d.rope.keeps (f d.rope)) : d.transmits (d.modRope f) :=
  ⟨hf, rfl⟩

theorem Dev.transmits_ropeBlocks (d : Dev) (lanes : List Nat) (b : Bytes) : d.transmits (d.ropeBlocks lanes b) :=
  d.transmits_foldl lanes _ fun e _ => e.transmits_emit _

theorem Dev.ropeBlocks_eq (d : Dev) (lanes : List Nat) (b : Bytes) :
    d.ropeBlocks lanes b = { d with sent := (d.ropeBlocks lanes b).sent } :=
  List.foldlRecOn (motive := fun e : Dev => e = { d with sent := e.sent }) lanes _ rfl fun e he l _ => by
    generalize hs : e.sent = x at he
    rw [he]
    rfl

theorem Dev.transmits_ropeTrain (d : Dev) (lanes : List Nat) : d.transmits (d.ropeTrain lanes) :=
  d.transmits_fresh.trans (Dev.transmits_foldl _ lanes _ fun e _ => e.transmits_emit _)

theorem Dev.length_sent_emits {α : Type} (d : Dev) (l : List α) (f : Dev → α → Out) :
    (l.foldl (fun (d : Dev) x => d.emit (f d x)) d).sent.length = d.sent.length + l.length := by
  induction l generalizing d with
  | nil => rfl
  | cons x l ih =>
    have hone : (d.emit (f d x)).sent.length = d.sent.length + 1 := List.length_append
    rw [List.foldl_cons, ih, hone, List.length_cons, Nat.add_right_comm, Nat.add_assoc]

/-- A training set goes out on each lane. -/
theorem Dev.length_sent_ropeTrain (d : Dev) (lanes : List Nat) :
    (d.ropeTrain lanes).sent.length = d.sent.length + lanes.length := Dev.length_sent_emits d.fresh.2 lanes _

theorem Dev.transmits_ropeMarkers (d : Dev) : d.transmits d.ropeMarkers :=
  (d.transmits_foldl _ _ fun e _ => e.transmits_emit _).trans (Dev.transmits_modRope _ _ rfl)

/-- The first waiting flit goes to the line, under the next number. -/
def Dev.sendFirst (d : Dev) (f : Flit) (rest : List Flit) : Dev :=
  (d.modRope fun x => { x with
    sendQ := rest, replayQ := x.replayQ ++ [{ f with seq := d.rope.nextSend }], nextSend := (x.nextSend + 1) % 65536
    idleSince := d.now, unacked := 0, advanceAt := if x.replayQ.isEmpty then d.now else x.advanceAt }).emitFlit
      { f with seq := d.rope.nextSend }

theorem Dev.transmits_sendFirst (d : Dev) (f : Flit) (rest : List Flit) : d.transmits (d.sendFirst f rest) := ⟨rfl, rfl⟩

/-- A flush does nothing, or sends the first waiting flit and goes on. -/
theorem Dev.flushRope_succ (n : Nat) (d : Dev) : d.flushRope (n + 1) = d ∨
    ∃ f rest, d.rope.sendQ = f :: rest ∧ d.flushRope (n + 1) = (d.sendFirst f rest).flushRope n := by
  rw [Dev.flushRope]
  split
  · exact .inl rfl
  next f rest hq =>
    split
    · exact .inl rfl
    · exact .inr ⟨f, rest, hq, rfl⟩

/-- What holds before a flush and outlasts the sending of a waiting flit holds after it. -/
theorem Dev.flushRope_rec {P : Dev → Prop} (step : ∀ e f rest, e.rope.sendQ = f :: rest → P e → P (e.sendFirst f rest))
    (n : Nat) {d : Dev} (hd : P d) : P (d.flushRope n) := by
  induction n generalizing d with
  | zero => exact hd
  | succ n ih =>
    rcases d.flushRope_succ n with heq | ⟨f, rest, hq, heq⟩
    · rwa [heq]
    · rw [heq]
      exact ih (step d f rest hq hd)

theorem Dev.transmits_flushRope (n : Nat) (d : Dev) : d.transmits (d.flushRope n) :=
  Dev.flushRope_rec (fun e f rest _ he => he.trans (e.transmits_sendFirst f rest)) n (Dev.transmits.refl d)

/-- A flush draws no free value. -/
theorem Dev.freeCtr_flushRope (n : Nat) (d : Dev) : (d.flushRope n).freeCtr = d.freeCtr :=
  Dev.flushRope_rec (P := fun e => e.freeCtr = d.freeCtr) (fun _ _ _ _ he => he) n rfl

/-- A flit waits or is on the line: one of a type with its data. -/
def Rope.carries (r : Rope) (typ : Nat) (data : Bytes) : Prop := ∃ f ∈ r.sendQ ++ r.replayQ, f.typ = typ ∧ f.data = data

theorem Rope.carries_sendFirst {d : Dev} {f : Flit} {rest : List Flit} {typ : Nat} {data : Bytes}
    (hq : d.rope.sendQ = f :: rest) (h : d.rope.carries typ data) : (d.sendFirst f rest).rope.carries typ data := by
  obtain ⟨x, hx, htyp, hdata⟩ := h
  have hqueues : (d.sendFirst f rest).rope.sendQ ++ (d.sendFirst f rest).rope.replayQ =
      rest ++ (d.rope.replayQ ++ [{ f with seq := d.rope.nextSend }]) := rfl
  rw [hq, List.cons_append, List.mem_cons, List.mem_append] at hx
  rw [Rope.carries, hqueues]
  rcases hx with rfl | hx | hx
  · exact ⟨{ x with seq := d.rope.nextSend }, by simp, htyp, hdata⟩
  · exact ⟨x, by simp [hx], htyp, hdata⟩
  · exact ⟨x, by simp [hx], htyp, hdata⟩

/-- A flush loses no flit. -/
theorem Rope.carries_flushRope {typ : Nat} {data : Bytes} (n : Nat) {d : Dev} (h : d.rope.carries typ data) :
    (d.flushRope n).rope.carries typ data :=
  Dev.flushRope_rec (P := fun e => e.rope.carries typ data) (fun _ _ _ hq he => Rope.carries_sendFirst hq he) n h

theorem Dev.transmits_queueFlit (d : Dev) (f : Flit) : d.transmits (d.queueFlit f) :=
  (d.transmits_modRope (fun x => { x with sendQ := x.sendQ ++ [f] }) rfl).trans (Dev.transmits_flushRope _ _)

theorem Dev.freeCtr_queueFlit (d : Dev) (f : Flit) : (d.queueFlit f).freeCtr = d.freeCtr := Dev.freeCtr_flushRope _ _

theorem Rope.carries_queueFlit (d : Dev) (f : Flit) : (d.queueFlit f).rope.carries f.typ f.data := by
  refine Rope.carries_flushRope (d := d.modRope fun x => { x with sendQ := x.sendQ ++ [f] }) _ ⟨f, ?_, rfl, rfl⟩
  exact List.mem_append_left _ (List.mem_append_right _ (List.mem_singleton_self f))

/-- A command on a lane goes to the partner: nothing moves but the queues and what is sent. -/
theorem Dev.sendLaneCmd_keeps (d : Dev) (cmd lane : Nat) : d.rope.keeps (d.sendLaneCmd cmd lane).rope ∧
    d.sendLaneCmd cmd lane =
      { d with rope := (d.sendLaneCmd cmd lane).rope, sent := (d.sendLaneCmd cmd lane).sent } ∧
    (d.sendLaneCmd cmd lane).rope.carries 3 [byteOf cmd, byteOf lane] := by
  obtain ⟨hrope, hdev⟩ := d.transmits_queueFlit ⟨3, 0, 0, [byteOf cmd, byteOf lane], false⟩
  refine ⟨hrope, ?_, Rope.carries_queueFlit d _⟩
  rw [Dev.freeCtr_queueFlit] at hdev
  exact hdev

/-! ### The rope goes down and comes up again (R239, R240) -/

/-- A rope that is down until the next retry of the schedule. -/
def Rope.down (now : Nat) (r : Rope) : Rope := { r.cleared with
  state := 0, retryAt := some (now + 1000000 * [100, 400, 1600].getD r.retryStep 5000), retryStep := r.retryStep + 1 }

theorem Dev.rope_ropeDown (d : Dev) : d.ropeDown.rope = d.rope.down d.now := Dev.raise_rope _ _ _ _ _ _

theorem Dev.bare_ropeDown (d : Dev) : d.ropeDown.bare = { d.bare with rope := d.ropeDown.rope } := by
  rw [Dev.rope_ropeDown]
  exact Dev.bare_raise _ _ _ _ _ _

/-- What the rope's going down leaves of the device. -/
theorem Dev.ropeDown_keeps {d : Dev} (hfree : d.evFree 1 = true) : d.ropeDown.rope.state = 0 ∧
    d.logs d.ropeDown Code.ropeDown 0 0 ∧ d.ropeDown.bare = { d.bare with rope := d.ropeDown.rope } ∧ d.regsBut [] d.ropeDown := by
  have hcleared := d.records_modRope (Rope.down d.now)
  rw [Dev.rope_ropeDown, ← Dev.rope_ropeDown]
  refine ⟨congrArg Rope.state d.rope_ropeDown, hcleared.then_logs (Dev.logs_raise _ _ _ _ _ (hcleared.evFree hfree)),
    d.bare_ropeDown, ?_⟩
  exact (d.quiet_modRope (Rope.down d.now)).trans (Dev.quiet_raise _ _ _ _ _ _) |>.regsBut []

theorem exec_ropeStepTimeout (t : Nat) (s : State) : exec (.ropeStepTimeout t) s =
    s.run t fun d => d.when (d.alive && d.rope.state == 1) fun d => d.ropeDown := rfl

theorem exec_ropeBringupRetryTimer (t : Nat) (s : State) : exec (.ropeBringupRetryTimer t) s =
    s.run t fun d => d.when (d.alive && d.rope.state == 0 && d.rf O.ropeEnable && d.rope.retryAt.any (· ≤ d.now)) fun d =>
      d.ropeStart := rfl

theorem ropeRetries : Claims.RopeRetries := by
  intro s t d halive hfree
  refine ⟨fun htraining => ?_, fun x hdown henable hretry hdue => ?_⟩
  · refine State.gives_when (d := d) rfl (exec_ropeStepTimeout t s) (by simp [halive, htraining]) ?_
    obtain ⟨hstate, hlogs, hbare, hregs⟩ := Dev.ropeDown_keeps hfree
    have hrope := d.rope_ropeDown
    exact ⟨hstate, congrArg Rope.retryAt hrope, congrArg Rope.retryStep hrope, congrArg Rope.txLanes hrope,
      congrArg Rope.replayQ hrope, hlogs, hbare, hregs⟩
  · refine State.gives_when (d := d) rfl (exec_ropeBringupRetryTimer t s) (by simp [halive, hdown, henable, hretry, hdue]) ?_
    exact ⟨rfl, rfl, rfl, rfl, Dev.length_sent_ropeTrain _ [0, 1, 2, 3], rfl⟩

/-! ### A training step ends (R239) -/

/-- The figures of the lanes that locked. -/
def Dev.noteFoms (d : Dev) (ok : List (Nat × Nat)) : Dev :=
  ok.foldl (fun (d : Dev) p => d.modLn (68 + p.1) fun x => { x with fom := min 255 p.2 }) d

theorem Dev.noteFoms_eq (d : Dev) (ok : List (Nat × Nat)) : d.noteFoms ok = { d with lanes := (d.noteFoms ok).lanes } :=
  List.foldlRecOn (motive := fun e : Dev => e = { d with lanes := e.lanes }) _ _ rfl fun e he p _ => by
    generalize hl : e.lanes = l at he
    rw [he]
    rfl

/-- The lanes of the rope that a step has locked and that are not lost for good. -/
def Rope.okLanes (r : Rope) (locked : List (Nat × Nat)) : List (Nat × Nat) :=
  locked.filter fun p => p.1 < 4 && !r.lostLanes.contains p.1

/-- The lanes of some figures, in order. -/
def lanesOf (ok : List (Nat × Nat)) : List Nat := (List.range 4).filter fun l => ok.any fun p => p.1 == l

/-- The next step trains the lanes at the next speed. -/
def Dev.nextStep (d : Dev) (lanes : List Nat) : Dev :=
  ((d.ropeBlocks lanes idleEntryBlock).modRope fun x => { x with step := x.step + 1, prevLanes := lanes }).ropeTrain lanes

/-- A step is worse than the one before: fewer lanes locked, or one is below the floor. -/
def Dev.stepWorse (d : Dev) (ok : List (Nat × Nat)) : Bool :=
  d.rope.step != 0 && !d.rope.lastStep && ((lanesOf ok).length < d.rope.prevLanes.length ||
    ok.any fun p => p.2 < (d.noteFoms ok).rn O.ropeFomFloor)

theorem Dev.ropeStep_eq (d : Dev) (locked : List (Nat × Nat)) (pmax : Nat) : d.ropeStep locked pmax =
    let ok := d.rope.okLanes locked
    let e := d.noteFoms ok
    if (lanesOf ok).isEmpty && !d.stepWorse ok then e.ropeDown
    else if d.stepWorse ok then (e.modRope fun x => { x with step := x.step - 1, lastStep := true }).ropeTrain d.rope.prevLanes
    else if d.rope.lastStep || min (e.rn O.ropeMaxSpeed) pmax ≤ d.rope.step then e.ropeUp (lanesOf ok)
    else e.nextStep (lanesOf ok) := rfl

theorem Dev.rn_noteFoms (d : Dev) (ok : List (Nat × Nat)) (o : Obj) : (d.noteFoms ok).rn o = d.rn o :=
  (congrArg (Dev.rn · o) (d.noteFoms_eq ok) :)

theorem Dev.stepWorse_of_floor {d : Dev} {ok : List (Nat × Nat)} (hmore : d.rope.prevLanes.length ≤ (lanesOf ok).length)
    (hfloor : ∀ p ∈ ok, d.rn O.ropeFomFloor ≤ p.2) : d.stepWorse ok = false := by
  have hgood : (ok.any fun p => decide (p.2 < (d.noteFoms ok).rn O.ropeFomFloor)) = false := by
    simpa [Dev.rn_noteFoms] using hfloor
  simp [Dev.stepWorse, hgood, hmore]

/-- A step with no fewer lanes than before, all at the floor, goes on to the next speed, or makes the rope UP. -/
theorem Dev.ropeStep_ok {d : Dev} {locked : List (Nat × Nat)} (pmax : Nat) (hlanes : lanesOf (d.rope.okLanes locked) ≠ [])
    (hfirst : d.rope.lastStep = false) (hbetter : d.stepWorse (d.rope.okLanes locked) = false) : d.ropeStep locked pmax =
      if min (d.rn O.ropeMaxSpeed) pmax ≤ d.rope.step then
        (d.noteFoms (d.rope.okLanes locked)).ropeUp (lanesOf (d.rope.okLanes locked))
      else (d.noteFoms (d.rope.okLanes locked)).nextStep (lanesOf (d.rope.okLanes locked)) := by
  have hsome : (lanesOf (d.rope.okLanes locked)).isEmpty = false := by simpa using hlanes
  rw [Dev.ropeStep_eq]
  simp only [hsome, hbetter, hfirst, Dev.rn_noteFoms, Bool.false_and, Bool.false_or, Bool.false_eq_true, if_false,
    decide_eq_true_eq]

/-! ### Messages over the rope (R359, R367, R408) -/

/-- From `d` to `e` messages moved: the rope's transmitter, the mailboxes and the reporting, with at most `n` records appended
while there was room. -/
def Dev.talks (n : Nat) (d e : Dev) : Prop :=
  d.rope.keeps e.rope ∧ e.bare = { d.bare with rope := e.rope, mbx := e.mbx } ∧ (d.evFree n = true → Dev.records n d e)

theorem Dev.talks.trans {m n : Nat} {a b c : Dev} (h : Dev.talks m a b) (g : Dev.talks n b c) : Dev.talks (m + n) a c := by
  obtain ⟨hrope, hbare, hrec⟩ := h
  obtain ⟨grope, gbare, grec⟩ := g
  refine ⟨hrope.trans grope, by rw [gbare, hbare], fun hfree => ?_⟩
  have hfirst := hrec (Dev.evFree_mono (Nat.le_add_right m n) hfree)
  exact hfirst.trans (grec (hfirst.evFree hfree))

theorem Dev.talks.mono {m n : Nat} {d e : Dev} (h : Dev.talks m d e) (hmn : m ≤ n) : Dev.talks n d e := by
  obtain ⟨hrope, hbare, hrec⟩ := h
  exact ⟨hrope, hbare, fun hfree => (hrec (Dev.evFree_mono hmn hfree)).mono hmn⟩

theorem Dev.talks_of_transmits {d e : Dev} (h : d.transmits e) : Dev.talks 0 d e := by
  refine ⟨h.1, ?_, fun _ => h.records⟩
  have hmbx : e.mbx = d.mbx := (congrArg Dev.mbx h.2 :)
  rw [hmbx, h.bare]
  rfl

theorem Dev.talks.refl (d : Dev) : Dev.talks 0 d d := Dev.talks_of_transmits (Dev.transmits.refl d)

theorem Dev.talks_of_tells {n : Nat} {d e : Dev} (h : Dev.tells n d e) : Dev.talks n d e := by
  obtain ⟨hbare, -, hrec⟩ := h
  have hrope : e.rope = d.rope := Dev.of_bare Dev.rope (fun _ => rfl) hbare
  refine ⟨by rw [hrope]; exact Rope.keeps.refl _, ?_, hrec⟩
  rw [hrope, Dev.of_bare Dev.mbx (fun _ => rfl) hbare, hbare]
  rfl

theorem Dev.talks_modMb (d : Dev) (m : Nat) (f : Mbx → Mbx) : Dev.talks 0 d (d.modMb m f) :=
  ⟨Rope.keeps.refl _, rfl, fun _ => Dev.records_of_events_eq rfl rfl⟩

theorem Dev.talks_modDir (d : Dev) (m k : Nat) (f : MbxDir → MbxDir) : Dev.talks 0 d (d.modDir m k f) := d.talks_modMb m _

theorem Dev.talks_raise (d : Dev) (c p0 p1 p2 p3 : Nat) : Dev.talks 1 d (d.raise c p0 p1 p2 p3) :=
  Dev.talks_of_tells (d.tells_raise c p0 p1 p2 p3)

theorem Dev.talks_bump (d : Dev) (o : Obj) (i : Nat) : Dev.talks 0 d (d.bump o i) := by
  have hbare := d.bare_bump o i
  have hrope : (d.bump o i).rope = d.rope := Dev.of_bare Dev.rope (fun _ => rfl) hbare
  refine ⟨by rw [hrope]; exact Rope.keeps.refl _, ?_, fun _ => Dev.records_of_bare hbare (d.bump_events o i)⟩
  rw [hrope, Dev.of_bare Dev.mbx (fun _ => rfl) hbare, hbare]
  rfl

theorem Dev.transmits_ropeSend (d : Dev) (chan : Nat) (msg : Bytes) : d.transmits (d.ropeSend chan msg) := by
  unfold Dev.ropeSend
  split
  · exact d.transmits_foldl _ _ fun e _ => e.transmits_queueFlit _
  · exact Dev.transmits.refl d

theorem Dev.talks_mbxRefused (d : Dev) (m k why : Nat) : Dev.talks 1 d (d.mbxRefused m k why) := by
  have hnoted := d.talks_modDir m k fun x => { x with lastPost := why }
  unfold Dev.mbxRefused
  split
  · have hcollision (e : Dev) : Dev.talks 1 e (e.raiseOnce sec m Code.mbxCollision m) :=
      Dev.talks_of_tells ⟨Dev.bare_raiseOnce _ _ _ _ _ _ _ _, Dev.quiet_raiseOnce _ _ _ _ _ _ _ _,
        Dev.records_raiseOnce _ _ _ _ _ _ _⟩
    exact (hnoted.trans (Dev.talks_bump _ _ _)).trans (hcollision _)
  · exact hnoted.mono (Nat.zero_le 1)

theorem Dev.talks_mbxPost (d : Dev) (m k : Nat) (data : Bytes) (len flags : Nat) :
    Dev.talks 1 d (d.mbxPost m k data len flags) := by
  unfold Dev.mbxPost
  extract_lets c x seq hdr pay d1
  have hposted : Dev.talks 0 d d1 := (d.talks_modDir m k _).trans (Dev.talks_bump _ _ _)
  repeat' split
  · exact d.talks_mbxRefused m k 1
  · exact d.talks_mbxRefused m k 2
  · exact d.talks_mbxRefused m k 3
  · exact (hposted.trans (Dev.talks_of_transmits (d1.transmits_ropeSend _ _))).mono (Nat.zero_le 1)
  · exact hposted.mono (Nat.zero_le 1)

/-- The partner's identity is not known until it arrives. -/
def Dev.forgetIdentity (d : Dev) : Dev := d.modTwin fun x => { x with identity := false }

/-- The exchange of identities keeps the lanes of the rope. -/
theorem Dev.exchangeIdentity_keeps (d : Dev) : d.rope.keeps d.exchangeIdentity.rope ∧
    d.exchangeIdentity.bare = { d.bare with
      rope := d.exchangeIdentity.rope, mbx := d.exchangeIdentity.mbx, twin := d.exchangeIdentity.twin } ∧
    (d.evFree 1 = true → Dev.records 1 d d.exchangeIdentity) := by
  unfold Dev.exchangeIdentity
  split
  · have hforgot : Dev.records 0 d d.forgetIdentity := Dev.records_of_events_eq rfl rfl
    obtain ⟨hrope, hposted, hrec⟩ := d.forgetIdentity.talks_mbxPost 16 0 d.identityBody 48 0
    have htwin : (d.forgetIdentity.mbxPost 16 0 d.identityBody 48 0).twin = d.forgetIdentity.twin :=
      (congrArg Dev.twin hposted :)
    rw [← Dev.forgetIdentity, htwin]
    exact ⟨hrope, hposted, fun hfree => hforgot.trans (hrec (hforgot.evFree hfree))⟩
  · exact ⟨Rope.keeps.refl _, rfl, fun _ => (Dev.records_of_events_eq rfl rfl).mono (Nat.zero_le 1)⟩

/-! ### ROPE_STEP_COMPLETE (R239, R408) -/

theorem exec_ropeStepComplete (t : Nat) (locked : List (Nat × Nat)) (pmax : Nat) (s : State) :
    exec (.ropeStepComplete t locked pmax) s = s.run t fun d => d.when (d.alive && d.rope.state == 1) fun d =>
      if (d.ropeStep locked pmax).ropeIsUp then (d.ropeStep locked pmax).exchangeIdentity else d.ropeStep locked pmax := rfl

/-- The rope is UP on some lanes from an instant on. -/
def Rope.goUp (lanes : List Nat) (now : Nat) (r : Rope) : Rope := { r with
  state := 2, txLanes := lanes, rxLanes := lanes, rxOld := lanes, retryStep := 0, idleSince := now, advanceAt := now }

theorem Dev.ropeUp_eq (d : Dev) (lanes : List Nat) : d.ropeUp lanes =
    ((d.modRope (Rope.goUp lanes d.now)).ropeMarkers.raise Code.ropeUp).raise Code.ropeSpeed d.rope.step (mask lanes) := rfl

/-- A rope that goes UP sends markers on its lanes, and tells of it by two codes. -/
theorem Dev.ropeUp_keeps (d : Dev) (lanes : List Nat) : (d.rope.goUp lanes d.now).keeps (d.ropeUp lanes).rope ∧
    (d.ropeUp lanes).bare = { d.bare with rope := (d.ropeUp lanes).rope } ∧
    (d.evFree 2 = true → Dev.records 2 d (d.ropeUp lanes) ∧ d.logs (d.ropeUp lanes) Code.ropeUp 0 0 ∧
      d.logs (d.ropeUp lanes) Code.ropeSpeed d.rope.step (mask lanes)) := by
  have hmarked := (d.modRope (Rope.goUp lanes d.now)).transmits_ropeMarkers
  rw [Dev.ropeUp_eq, Dev.raise_rope, Dev.raise_rope, Dev.bare_raise, Dev.bare_raise]
  refine ⟨hmarked.1, hmarked.bare, fun hfree => ?_⟩
  have hready := (d.records_modRope (Rope.goUp lanes d.now)).trans hmarked.records
  have hroom := hready.evFree (m := 2) hfree
  have hfirst := Dev.records_raise Code.ropeUp 0 0 0 0 (Dev.evFree_mono (Nat.le_succ 1) hroom)
  have hfirstLogs := Dev.logs_raise Code.ropeUp 0 0 0 0 (Dev.evFree_mono (Nat.le_succ 1) hroom)
  have hroom := hfirst.evFree (m := 1) hroom
  have hsecond := Dev.records_raise Code.ropeSpeed d.rope.step (mask lanes) 0 0 hroom
  exact ⟨(hready.trans hfirst).trans hsecond, hready.then_logs (hfirstLogs.then_records hsecond),
    (hready.trans hfirst).then_logs (Dev.logs_raise _ _ _ _ _ hroom)⟩

/-- The next step trains its lanes; the rope stays in training. -/
theorem Dev.nextStep_keeps (d : Dev) (lanes : List Nat) :
    Rope.keeps { d.rope with step := d.rope.step + 1, prevLanes := lanes } (d.nextStep lanes).rope ∧
      (d.nextStep lanes).bare = { d.bare with rope := (d.nextStep lanes).rope } := by
  have hblocks := d.transmits_ropeBlocks lanes idleEntryBlock
  have htrained := ((d.ropeBlocks lanes idleEntryBlock).modRope fun x =>
    { x with step := x.step + 1, prevLanes := lanes }).transmits_ropeTrain lanes
  have hrope : (d.ropeBlocks lanes idleEntryBlock).rope = d.rope := (congrArg Dev.rope (d.ropeBlocks_eq lanes _) :)
  refine ⟨?_, ?_⟩
  · rw [← hrope]
    exact htrained.1
  · rw [Dev.nextStep, htrained.bare, ← (hblocks.bare.trans (by rw [hrope]; rfl) : _ = d.bare)]
    rfl

/-- The last step makes the rope UP on its lanes, and the identities are exchanged. -/
theorem Dev.ropeUp_exchange {d : Dev} (lanes : List Nat) (hfree : d.evFree 3 = true) :
    let e := (d.ropeUp lanes).exchangeIdentity
    e.rope.state = 2 ∧ e.rope.step = d.rope.step ∧ e.rope.txLanes = lanes ∧ e.rope.rxLanes = lanes ∧
      d.logs e Code.ropeUp 0 0 ∧ d.logs e Code.ropeSpeed d.rope.step (mask lanes) ∧
      e.bare = { d.bare with mbx := e.mbx, rope := e.rope, twin := e.twin } := by
  obtain ⟨hrope, hbare, hup⟩ := d.ropeUp_keeps lanes
  obtain ⟨hrec, hlogsUp, hlogsSpeed⟩ := hup (Dev.evFree_mono (by decide) hfree)
  obtain ⟨krope, kbare, krec⟩ := (d.ropeUp lanes).exchangeIdentity_keeps
  have htold := krec (hrec.evFree (m := 1) hfree)
  have hkept := hrope.trans krope
  obtain ⟨htx, hrx⟩ := hkept.lanes
  exact ⟨hkept.state, hkept.step, htx, hrx, hlogsUp.then_records htold, hlogsSpeed.then_records htold, by rw [kbare, hbare]⟩

theorem ropeStepEnds : Claims.RopeStepEnds := by
  intro s t locked pmax d ok lanes halive htraining hlanes hfirst hmore hfloor hfree
  have hstep : d.ropeStep locked pmax = if min (d.rn O.ropeMaxSpeed) pmax ≤ d.rope.step then (d.noteFoms ok).ropeUp lanes
      else (d.noteFoms ok).nextStep lanes :=
    Dev.ropeStep_ok pmax hlanes hfirst (Dev.stepWorse_of_floor hmore hfloor)
  refine State.gives_when (d := d) rfl (exec_ropeStepComplete t locked pmax s) (by simp [halive, htraining]) ?_
  have hfoms := d.noteFoms_eq ok
  rw [hstep]
  generalize d.noteFoms ok = f at *
  have hrope : f.rope = d.rope := (congrArg Dev.rope hfoms :)
  have hbare : f.bare = { d.bare with lanes := f.lanes } := (congrArg Dev.bare hfoms :)
  have hnoted : Dev.records 0 d f :=
    Dev.records_of_events_eq (congrArg Dev.clock hfoms :) (congrArg (fun x : Dev => x.dict.events) hfoms :)
  by_cases hlast : min (d.rn O.ropeMaxSpeed) pmax ≤ d.rope.step
  · have hup : (f.ropeUp lanes).ropeIsUp = true := by
      rw [Dev.ropeIsUp, (f.ropeUp_keeps lanes).1.state]
      rfl
    obtain ⟨hstate, hkept, htx, hrx, hlogsUp, hlogsSpeed, kbare⟩ :=
      Dev.ropeUp_exchange lanes (hnoted.evFree (m := 3) (Dev.evFree_mono (by decide) hfree))
    rw [if_pos hlast, if_pos hup]
    generalize (f.ropeUp lanes).exchangeIdentity = e at *
    have klanes : e.lanes = f.lanes := (congrArg Dev.lanes kbare :)
    rw [hrope] at hkept hlogsSpeed
    exact ⟨fun hnext => absurd hlast (Nat.not_le.mpr hnext), fun _ => ⟨hstate, hkept, htx, hrx, hnoted.then_logs hlogsUp,
      hnoted.then_logs hlogsSpeed⟩, by rw [klanes, kbare, hbare]⟩
  · obtain ⟨hkept, kbare⟩ := f.nextStep_keeps lanes
    rw [hrope] at hkept
    have hdown : (f.nextStep lanes).ropeIsUp = false := by
      rw [Dev.ropeIsUp, hkept.state]
      simp [htraining]
    rw [if_neg hlast, if_neg (Bool.eq_false_iff.mp hdown)]
    generalize f.nextStep lanes = e at *
    have klanes : e.lanes = f.lanes := (congrArg Dev.lanes kbare :)
    have kmbx : e.mbx = d.mbx := (congrArg Dev.mbx kbare :).trans (congrArg Dev.mbx hfoms :)
    have ktwin : e.twin = d.twin := (congrArg Dev.twin kbare :).trans (congrArg Dev.twin hfoms :)
    refine ⟨fun _ => ⟨hkept.state.trans htraining, hkept.step, hkept.prevLanes⟩, fun h => absurd h hlast, ?_⟩
    rw [klanes, kmbx, ktwin, kbare, hbare]
    rfl

/-! ### A receiving lane is lost (R241) -/

/-- The rope without a receiving lane, which is retried. -/
def Rope.loseLane (lane now : Nat) (r : Rope) : Rope := { r with
  rxOld := r.rxLanes, rxLanes := r.rxLanes.filter (· != lane), retrying := tset r.retrying lane now
  rejoin := r.rejoin.filter (· != lane) }

theorem Dev.ropeLaneLoss_left {d : Dev} {lane : Nat} (hleft : ∃ l ∈ d.rope.rxLanes, l ≠ lane) :
    d.ropeLaneLoss lane = (d.modRope (Rope.loseLane lane d.now)).sendLaneCmd 1 lane := by
  obtain ⟨l, hl, hne⟩ := hleft
  have hsome : (d.rope.rxLanes.filter (· != lane)).isEmpty = false := by
    simpa using ⟨l, hl, hne⟩
  simp only [Dev.ropeLaneLoss, hsome, Bool.false_eq_true, if_false]
  rfl

theorem Dev.ropeLaneLoss_last {d : Dev} {lane : Nat} (hlast : ∀ l ∈ d.rope.rxLanes, l = lane) :
    d.ropeLaneLoss lane = d.ropeDown := by
  have hnone : (d.rope.rxLanes.filter (· != lane)).isEmpty = true := by simpa using hlast
  simp only [Dev.ropeLaneLoss, hnone, if_true]

/-- With lanes left, a lost lane is retried and LANE_DROP goes to the partner. -/
theorem Dev.ropeLaneLoss_keeps {d : Dev} {lane : Nat} (hleft : ∃ l ∈ d.rope.rxLanes, l ≠ lane) :
    (d.rope.loseLane lane d.now).keeps (d.ropeLaneLoss lane).rope ∧
      d.ropeLaneLoss lane = { d with rope := (d.ropeLaneLoss lane).rope, sent := (d.ropeLaneLoss lane).sent } ∧
      (d.ropeLaneLoss lane).rope.carries 3 [1, byteOf lane] := by
  rw [Dev.ropeLaneLoss_left hleft]
  exact (d.modRope (Rope.loseLane lane d.now)).sendLaneCmd_keeps 1 lane

/-! ### ROPE_LANE_MARKER_RECEIVED (R238) -/

theorem exec_ropeLaneMarkerReceived (t : Nat) (lane : Fin 4) (b : Bytes) (skew : Nat) (s : State) :
    exec (.ropeLaneMarkerReceived t lane b skew) s = s.run t fun d =>
      d.when (d.alive && d.ropeIsUp && b.length == 16 && leAt b 0 1 == 0xE1) fun d => d.ropeMarker lane b skew := rfl

section

variable {d : Dev} {lane : Nat} (hlane : lane < 4) (hrx : lane ∈ d.rope.rxLanes) (hrejoin : d.rope.rejoin = [])
include hlane hrx hrejoin

/-- While no lane rejoins, a marker on a lane in use is that of a skewed lane, or is held against the lanes in use. -/
theorem Dev.ropeMarker_inUse (b : Bytes) (skew : Nat) : d.ropeMarker lane b skew =
    if 64 < skew then (d.raise Code.ropeSkew lane).ropeLaneLoss lane
    else if markerFits b d.rope.step lane d.rope.rxLanes then d.modRope fun x => { x with rxOld := x.rxLanes }
    else if markerFits b d.rope.step lane d.rope.rxOld then d
    else if d.rope.rxLanes.contains lane then (d.raise Code.ropeLaneConfig lane).ropeLaneLoss lane
    else d := by
  have hwider : ((List.range 4).filter fun l => d.rope.rxLanes.contains l || d.rope.rejoin.contains l).contains lane = true := by
    simp [hlane, hrx]
  have hnone : d.rope.rejoin.isEmpty = true := by rw [hrejoin]; rfl
  simp only [Dev.ropeMarker, hwider, hnone, Bool.true_or, Bool.not_true, Bool.false_and, Bool.false_eq_true, if_false]

end

theorem markerReceived : Claims.MarkerReceived := by
  intro s t lane b skew d halive hup hlength hmark hrx hrejoin hfree
  have hgives {P : Dev → Prop} (p : P (d.ropeMarker lane b skew)) : s.gives (.ropeLaneMarkerReceived t lane b skew) P :=
    State.gives_when (d := d) rfl (exec_ropeLaneMarkerReceived t lane b skew s) (by simp [halive, hup, hlength, hmark]) p
  have hmarker := Dev.ropeMarker_inUse lane.isLt hrx hrejoin b skew
  refine ⟨fun hskew hfits => hgives ?_, fun hskew hleft => hgives ?_⟩
  · rw [hmarker, if_neg (Nat.not_lt.mpr hskew), if_pos hfits]
    exact ⟨rfl, rfl⟩
  · rw [hmarker, if_pos hskew]
    have hbare := d.bare_raise Code.ropeSkew lane 0 0 0
    have hquiet := d.quiet_raise Code.ropeSkew lane 0 0 0
    have hlogs := Dev.logs_raise Code.ropeSkew lane 0 0 0 (Dev.evFree_mono (Nat.le_succ 1) hfree)
    have hrope := d.raise_rope Code.ropeSkew lane 0 0 0
    generalize d.raise Code.ropeSkew lane = f at *
    rw [← hrope] at hleft ⊢
    obtain ⟨hkept, heq, -⟩ := Dev.ropeLaneLoss_keeps hleft
    generalize f.ropeLaneLoss lane = e at *
    have hdict : e.dict = f.dict := (congrArg Dev.dict heq :)
    refine ⟨hkept.lanes.2, hlogs.then_records (n := 0) ?_, ?_, ?_⟩
    · exact Dev.records_of_events_eq (congrArg Dev.clock heq :) (by rw [hdict])
    · rw [← hbare]
      exact (congrArg Dev.bare heq :)
    · rw [Dev.regsBut, hdict]
      exact hquiet.regsBut []

/-- Settles O26: a step that is not worse than the one before comes to the next step or to UP (`Dev.ropeStep_ok`), and what the
transmitter and the exchange of identities do after that keeps the lanes (`Rope.keeps`); a marker on a lane in use is held
against the lanes in use, or loses its lane (`Dev.ropeMarker_inUse`). -/
theorem ropeComesUp : Obligations.RopeComesUp := ⟨ropeStepEnds, ropeRetries, markerReceived⟩

end Sys2Proof.Machine

namespace Sys2Proof.Machine

/-! ### ROPE_LANE_LOSS (R241) -/

theorem exec_ropeLaneLoss (t : Nat) (lane : Fin 4) (s : State) : exec (.ropeLaneLoss t lane) s =
    s.run t fun d => d.when (d.alive && d.ropeIsUp && d.rope.rxLanes.contains lane.val) fun d => d.ropeLaneLoss lane := rfl

theorem ropeLaneLost : Claims.RopeLaneLost := by
  intro s t lane d halive hup hrx hfree
  have hstate : d.rope.state = 2 := beq_iff_eq.mp hup
  have hgives {P : Dev → Prop} (p : P (d.ropeLaneLoss lane)) : s.gives (.ropeLaneLoss t lane) P :=
    State.gives_when (d := d) rfl (exec_ropeLaneLoss t lane s) (by simp [halive, hup, hrx]) p
  refine ⟨fun hleft => hgives ?_, fun hlast => hgives ?_⟩
  · obtain ⟨hkept, heq, hcarries⟩ := Dev.ropeLaneLoss_keeps hleft
    refine ⟨hkept.state.trans hstate, hkept.lanes.2, ?_, hcarries, heq⟩
    rw [hkept.retrying]
    exact tfind_tset_self _ _ _
  · rw [Dev.ropeLaneLoss_last hlast]
    exact Dev.ropeDown_keeps hfree

/-! ### ROPE_LANE_RETRY_TIMEOUT (R241, R413) -/

/-- A fault of a unit without a spare is told by at most three codes. -/
theorem Dev.records_noteLasting_none {d : Dev} (kind inst : Nat) (own : Own) (reason left action : Nat)
    (hfree : d.evFree 3 = true) : Dev.records 3 d (d.noteLasting kind inst own reason none left action) := by
  have hcounted : Dev.records 0 d (d.countLasting own.code) := Dev.records_of_events_eq rfl rfl
  have hlogged := Dev.records_logFault 1 kind inst own reason action 0xFFFF
    (Dev.evFree_mono (by decide) (hcounted.evFree (m := 3) hfree))
  have hroom := (hcounted.trans hlogged).evFree (m := 2) hfree
  have hlasting := Dev.records_raise Code.healthLasting kind inst own.code 0xFFFFFFFF (Dev.evFree_mono (Nat.le_succ 1) hroom)
  have hnoSpare := Dev.records_raise Code.healthNoSpare kind inst 1 0 (hlasting.evFree (m := 1) hroom)
  exact ((hcounted.trans hlogged).trans hlasting).trans hnoSpare

/-- The rope without a lane that is lost for good. -/
def Rope.excludeLane (lane : Nat) (r : Rope) : Rope :=
  { r with retrying := r.retrying.filter fun p => p.1 != lane, lostLanes := r.lostLanes ++ [lane] }

/-- The event of a lane that is lost for good. -/
def laneExclusion (lane : Nat) : Own := { code := Code.ropeLaneLost, p0 := lane }

/-- A lane is excluded, a lasting fault of kind 12. -/
def Dev.excludeLane (d : Dev) (lane : Nat) : Dev :=
  ((d.modRope (Rope.excludeLane lane)).raiseOwn (laneExclusion lane)).noteLasting 12 lane (laneExclusion lane) 1 none 0 0

theorem exec_ropeLaneRetryTimeout (t : Nat) (lane : Fin 4) (s : State) : exec (.ropeLaneRetryTimeout t lane) s =
    s.run t fun d => d.when (d.alive && (tfind d.rope.retrying lane).any fun a => a + 10000000 ≤ d.now) fun d =>
      d.excludeLane lane := rfl

/-- What ROPE_LANE_RETRY_TIMEOUT does 10 ms after the loss of a lane. -/
theorem gives_ropeLaneRetryTimeout {s : State} {t a : Nat} {lane : Fin 4} {P : Dev → Prop} {d : Dev}
    (hd : s.dev.tick t = d) (halive : d.alive = true) (hretrying : tfind d.rope.retrying lane = some a)
    (hover : a + 10000000 ≤ d.now) (p : P (d.excludeLane lane)) : s.gives (.ropeLaneRetryTimeout t lane) P := by
  refine State.gives_when hd (exec_ropeLaneRetryTimeout t lane s) ?_ p
  rw [halive, hretrying, Option.any_some, Bool.true_and]
  exact decide_eq_true hover

/-- An exclusion moves the rope, the record of faults and the reporting. -/
theorem Dev.excludeLane_keeps (d : Dev) (lane : Nat) : (d.excludeLane lane).rope = d.rope.excludeLane lane ∧
    (d.excludeLane lane).health.lasting = d.health.lasting + 1 ∧
    (d.excludeLane lane).bare = { d.bare with rope := (d.excludeLane lane).rope, health := (d.excludeLane lane).health } ∧
    d.regsBut [O.healthFaultLast.key 0] (d.excludeLane lane) ∧
    (d.evFree 4 = true → d.logs (d.excludeLane lane) Code.ropeLaneLost lane 0) := by
  unfold Dev.excludeLane
  have hmoved := d.records_modRope (Rope.excludeLane lane)
  have htold := (d.modRope (Rope.excludeLane lane)).bare_raiseOwn (laneExclusion lane)
  have hquiet := (d.quiet_modRope (Rope.excludeLane lane)).trans
    ((d.modRope (Rope.excludeLane lane)).quiet_raiseOwn (laneExclusion lane))
  have hlogs (hfree : d.evFree 4 = true) : Dev.records 1 d ((d.modRope (Rope.excludeLane lane)).raiseOwn (laneExclusion lane)) ∧
      d.logs ((d.modRope (Rope.excludeLane lane)).raiseOwn (laneExclusion lane)) Code.ropeLaneLost lane 0 := by
    have hroom := Dev.evFree_mono (by decide : 1 ≤ 4) (hmoved.evFree (m := 4) hfree)
    exact ⟨hmoved.trans (Dev.records_raise _ _ _ _ _ hroom), hmoved.then_logs (Dev.logs_raise _ _ _ _ _ hroom)⟩
  generalize (d.modRope (Rope.excludeLane lane)).raiseOwn (laneExclusion lane) = f at *
  have hrope : f.rope = d.rope.excludeLane lane := Dev.of_bare Dev.rope (fun _ => rfl) htold
  have hhealth : f.health = d.health := (Dev.of_bare Dev.health (fun _ => rfl) htold :)
  have hbare := f.bare_noteLasting 12 lane (laneExclusion lane) 1 none 0 0
  have hlasting := (f.movesLog_noteLasting 12 lane (laneExclusion lane) 1 none 0 0).lasting
  have hregs := f.regsBut_noteLasting 12 lane (laneExclusion lane) 1 none 0 0
  have hrec (hfree : f.evFree 3 = true) := Dev.records_noteLasting_none 12 lane (laneExclusion lane) 1 0 0 hfree
  generalize f.noteLasting 12 lane (laneExclusion lane) 1 none 0 0 = e at *
  have krope : e.rope = f.rope := (congrArg Dev.rope hbare :)
  refine ⟨krope.trans hrope, ?_, ?_, (hquiet.regsBut _).trans hregs, fun hfree => ?_⟩
  · rw [hlasting, Dev.lasting_countLasting, hhealth]
  · rw [krope, hbare, htold, hrope]
    rfl
  · obtain ⟨hfirst, hlost⟩ := hlogs hfree
    exact hlost.then_records (hrec (hfirst.evFree hfree))

/-! ### ROPE_LANE_RELOCK (R241) -/

/-- The rope with a lane that is to rejoin. -/
def Rope.rejoinLane (lane : Nat) (r : Rope) : Rope :=
  { r with retrying := r.retrying.filter fun p => p.1 != lane, rejoin := r.rejoin ++ [lane] }

/-- The figure of a receiving lane of the rope. -/
def Dev.noteFom (d : Dev) (lane fom : Nat) : Dev := d.modLn (68 + lane) fun x => { x with fom := min 255 fom }

theorem exec_ropeLaneRelock (t : Nat) (lane : Fin 4) (fom : Nat) (s : State) : exec (.ropeLaneRelock t lane fom) s =
    s.run t fun d => d.when (d.alive && d.ropeIsUp && (tfind d.rope.retrying lane).any fun a => d.now < a + 10000000) fun d =>
      if fom < d.rn O.ropeFomFloor then d.noteFom lane fom
      else ((d.noteFom lane fom).modRope (Rope.rejoinLane lane)).sendLaneCmd 2 lane := rfl

/-- What ROPE_LANE_RELOCK does within 10 ms of the loss of a lane. -/
theorem gives_ropeLaneRelock {s : State} {t a fom : Nat} {lane : Fin 4} {P : Dev → Prop} {d : Dev}
    (hd : s.dev.tick t = d) (halive : d.alive = true) (hup : d.ropeIsUp = true)
    (hretrying : tfind d.rope.retrying lane = some a) (hwithin : d.now < a + 10000000)
    (p : P (if fom < d.rn O.ropeFomFloor then d.noteFom lane fom
      else ((d.noteFom lane fom).modRope (Rope.rejoinLane lane)).sendLaneCmd 2 lane)) :
    s.gives (.ropeLaneRelock t lane fom) P := by
  refine State.gives_when hd (exec_ropeLaneRelock t lane fom s) ?_ p
  rw [halive, hup, hretrying, Option.any_some, Bool.true_and, Bool.true_and]
  exact decide_eq_true hwithin

theorem ropeLaneRetried : Claims.RopeLaneRetried := by
  intro s t lane a fom d halive hretrying hfree
  refine ⟨fun hover => ?_, fun hwithin hup => ?_⟩
  · refine gives_ropeLaneRetryTimeout (d := d) rfl halive hretrying hover ?_
    obtain ⟨hrope, hlasting, hbare, hregs, hlogs⟩ := d.excludeLane_keeps lane
    exact ⟨congrArg Rope.lostLanes hrope, congrArg Rope.retrying hrope, hlogs hfree, hlasting, hbare, hregs⟩
  · refine gives_ropeLaneRelock (d := d) rfl halive hup hretrying hwithin ?_
    have hfom : ((d.noteFom lane fom).ln72 (68 + lane)).fom = min 255 fom := by rw [Dev.noteFom, Dev.ln72_modLn]
    by_cases hlow : fom < d.rn O.ropeFomFloor
    · rw [if_pos hlow]
      exact ⟨hfom, fun _ => rfl, fun hfloor => absurd hlow (Nat.not_lt.mpr hfloor), rfl⟩
    · rw [if_neg hlow]
      obtain ⟨hkept, heq, hcarries⟩ := ((d.noteFom lane fom).modRope (Rope.rejoinLane lane)).sendLaneCmd_keeps 2 lane
      refine ⟨?_, fun h => absurd h hlow, fun _ => ⟨hkept.rejoin, hcarries⟩, ?_⟩
      · rw [← hfom]
        exact (congrArg (fun x : Dev => (x.ln72 (68 + lane)).fom) heq :)
      · generalize ((d.noteFom lane fom).modRope (Rope.rejoinLane lane)).sendLaneCmd 2 lane = e at *
        have hlanes : e.lanes = (d.noteFom lane fom).lanes := (congrArg Dev.lanes heq :)
        rw [hlanes]
        exact heq

/-- Settles O27: the command to the partner stays in the queues of the transmitter, which keep every flit
(`Rope.carries_flushRope`), and moves nothing else of the rope (`Dev.sendLaneCmd_keeps`); an exclusion is a lasting fault told
by at most four codes (`Dev.excludeLane_keeps`). -/
theorem ropeLanesRetry : Obligations.RopeLanesRetry := ⟨ropeLaneLost, ropeLaneRetried⟩

end Sys2Proof.Machine

namespace Sys2Proof.Machine

/-! ### The transmitter leaves idle and acknowledges (R244, R245) -/

theorem Dev.rope_ropeTrain (d : Dev) (lanes : List Nat) : (d.ropeTrain lanes).rope = d.rope :=
  List.foldlRecOn (motive := fun e : Dev => e.rope = d.rope) lanes _ rfl fun _ he _ _ => he

theorem Dev.rope_ropeMarkers (d : Dev) :
    d.ropeMarkers.rope = { d.rope with markerSeq := (d.rope.markerSeq + 1) % 2 ^ 32 } := by
  have hsent (l : List (Nat × Nat)) (f : Nat × Nat → Out) : (l.foldl (fun (e : Dev) p => e.emit (f p)) d).rope = d.rope :=
    List.foldlRecOn (motive := fun e : Dev => e.rope = d.rope) l _ rfl fun _ he _ _ => he
  rw [Dev.ropeMarkers, Dev.modRope]
  dsimp only
  rw [hsent]

/-- The lanes are told that idle ends: by bursts, or after more than 10 ms by a training set. -/
def Dev.ropeBurst (d : Dev) : Dev :=
  if d.rope.idleSince + 10000000 < d.now then d.ropeTrain d.rope.txLanes
  else (List.range 32).foldl (fun (d : Dev) _ => d.ropeBlocks d.rope.txLanes burstBlock) d

theorem Dev.ropeBurst_keeps (d : Dev) : d.transmits d.ropeBurst ∧ d.ropeBurst.rope = d.rope := by
  unfold Dev.ropeBurst
  split
  · exact ⟨d.transmits_ropeTrain _, d.rope_ropeTrain _⟩
  · refine ⟨d.transmits_foldl _ _ fun e _ => e.transmits_ropeBlocks _ _, ?_⟩
    exact List.foldlRecOn (motive := fun e : Dev => e.rope = d.rope) _ _ rfl fun e he _ _ =>
      (congrArg Dev.rope (e.ropeBlocks_eq _ _)).trans he

/-- The transmitter out of idle, before it sends what waits. -/
def Dev.rouse (d : Dev) : Dev :=
  (d.modRope fun x => { x with idleTx := false, idleSince := d.now }).ropeMarkers

theorem Dev.rope_rouse (d : Dev) : d.rouse.rope =
    { d.rope with idleTx := false, idleSince := d.now, markerSeq := (d.rope.markerSeq + 1) % 2 ^ 32 } :=
  Dev.rope_ropeMarkers _

theorem Dev.transmits_rouse (d : Dev) : d.transmits d.rouse := by
  have hawake : d.transmits (d.modRope fun x => { x with idleTx := false, idleSince := d.now }) := ⟨rfl, rfl⟩
  exact hawake.trans (Dev.transmits_ropeMarkers _)

theorem Dev.sendQ_rouse (d : Dev) : d.rouse.rope.sendQ = d.rope.sendQ := by
  rw [d.rope_rouse]

theorem Dev.replayQ_rouse (d : Dev) : d.rouse.rope.replayQ = d.rope.replayQ := by
  rw [d.rope_rouse]

theorem Dev.idleTx_rouse (d : Dev) : d.rouse.rope.idleTx = false := by
  rw [d.rope_rouse]

/-- A transmitter in idle bursts, is roused with its queues as they were, and sends what waits. -/
theorem Dev.ropeWake_idle {d : Dev} (hidle : d.rope.idleTx = true) :
    d.ropeWake = d.ropeBurst.rouse.flushRope d.ropeBurst.rouse.rope.sendQ.length := by
  unfold Dev.ropeWake
  rw [if_neg (by rw [hidle]; decide)]
  extract_lets long d1 d2
  have hroused : d2 = d.ropeBurst.rouse := rfl
  rw [hroused]

theorem Dev.transmits_ropeWake (d : Dev) : d.transmits d.ropeWake := by
  cases hidle : d.rope.idleTx with
  | true =>
    rw [Dev.ropeWake_idle hidle]
    exact (d.ropeBurst_keeps.1.trans (Dev.transmits_rouse _)).trans (Dev.transmits_flushRope _ _)
  | false =>
    have hawake : d.ropeWake = d := if_pos (by rw [hidle]; rfl)
    rw [hawake]
    exact Dev.transmits.refl d

theorem Dev.transmits_ropeAckNow (d : Dev) (nak : Bool) : d.transmits (d.ropeAckNow nak) :=
  (d.transmits_ropeWake.trans (Dev.transmits_emit _ _)).trans (Dev.transmits_modRope _ _ rfl)

/-! ### Flits that are not taken, and replays (R244) -/

/-- From `d` to `e` nothing moved but the rope, the mailboxes and the reporting. -/
def Dev.movesMessages (d e : Dev) : Prop := e.bare = { d.bare with rope := e.rope, mbx := e.mbx }

theorem Dev.movesMessages.trans {a b c : Dev} (h : a.movesMessages b) (g : b.movesMessages c) : a.movesMessages c := by
  unfold Dev.movesMessages at *
  rw [g, h]

theorem Dev.movesMessages.refl (d : Dev) : d.movesMessages d := rfl

theorem Dev.talks.movesMessages {n : Nat} {d e : Dev} (h : Dev.talks n d e) : d.movesMessages e := h.2.1

theorem Dev.transmits.movesMessages {d e : Dev} (h : d.transmits e) : d.movesMessages e := (Dev.talks_of_transmits h).movesMessages

theorem Dev.movesMessages_modRope (d : Dev) (f : Rope → Rope) : d.movesMessages (d.modRope f) := rfl

theorem Dev.movesMessages_of_rope {d e : Dev} (h : e.bare = { d.bare with rope := e.rope }) : d.movesMessages e := by
  have hmbx : e.mbx = d.mbx := (congrArg Dev.mbx h :)
  rw [Dev.movesMessages, hmbx, h]
  rfl

/-- A flit that is not taken leaves a NAK sent, and the sequence expected as it was. -/
theorem Dev.ropeBad_keeps (d : Dev) : d.ropeBad.rope.nakSent = true ∧ d.ropeBad.rope.expect = d.rope.expect ∧
    d.ropeBad.dict = d.dict ∧ d.movesMessages d.ropeBad := by
  unfold Dev.ropeBad
  split
  next hsent => exact ⟨hsent, rfl, rfl, Dev.movesMessages.refl d⟩
  next =>
    have hacked := d.transmits_ropeAckNow true
    exact ⟨rfl, hacked.1.expect, hacked.dict, hacked.movesMessages.trans (Dev.movesMessages_modRope _ _)⟩

/-- Outstanding flits are sent again, from a sequence on. -/
theorem Dev.ropeReplay_again {d : Dev} (from_ : Nat) (hfew : d.rope.replays < 4) :
    (d.ropeReplay from_).rope = { d.rope with replays := d.rope.replays + 1, advanceAt := d.now } ∧
      (d.ropeReplay from_).bare = { d.bare with rope := (d.ropeReplay from_).rope } ∧ d.regsBut [] (d.ropeReplay from_) := by
  unfold Dev.ropeReplay
  rw [if_neg (Nat.not_le.mpr hfew)]
  extract_lets e
  have htold : e.bare = (d.modRope fun x => { x with replays := x.replays + 1, advanceAt := d.now }).bare :=
    Dev.bare_raiseOnce _ _ _ _ _ _ _ _
  have hquiet : d.quiet e := (d.quiet_modRope _).trans (Dev.quiet_raiseOnce _ _ _ _ _ _ _ _)
  have hrope : e.rope = { d.rope with replays := d.rope.replays + 1, advanceAt := d.now } :=
    (Dev.of_bare Dev.rope (fun _ => rfl) htold :)
  clear_value e
  have hsent := e.transmits_foldl (e.rope.replayQ.filter fun f => 0 ≤ seqDiff f.seq from_) (fun e f => e.emitFlit f)
    fun e f => e.transmits_emit _
  have hkept : ((e.rope.replayQ.filter fun f => 0 ≤ seqDiff f.seq from_).foldl (fun e f => e.emitFlit f) e).rope = e.rope :=
    List.foldlRecOn (motive := fun x : Dev => x.rope = e.rope) _ _ rfl fun _ hx _ _ => hx
  refine ⟨hkept.trans hrope, ?_, (hquiet.trans hsent.quiet).regsBut []⟩
  rw [hsent.bare, htold]
  rfl

theorem Dev.ropeReplay_down {d : Dev} (from_ : Nat) (hmany : 4 ≤ d.rope.replays) : d.ropeReplay from_ = d.ropeDown := if_pos hmany

theorem Dev.movesMessages_ropeReplay (d : Dev) (from_ : Nat) : d.movesMessages (d.ropeReplay from_) := by
  by_cases hmany : 4 ≤ d.rope.replays
  · rw [Dev.ropeReplay_down from_ hmany]
    exact Dev.movesMessages_of_rope d.bare_ropeDown
  · exact Dev.movesMessages_of_rope (Dev.ropeReplay_again from_ (Nat.not_le.mp hmany)).2.1

/-- What ROPE_REPLAY_TIMEOUT does with flits outstanding. -/
theorem gives_ropeReplayTimeout {s : State} {t : Nat} {P : Dev → Prop} {d : Dev} (hd : s.dev.tick t = d)
    (halive : d.alive = true) (hup : d.ropeIsUp = true) (hlate : d.rope.advanceAt + 20000 ≤ d.now)
    (hsome : d.rope.replayQ ≠ []) (p : ∀ from_, P (d.ropeReplay from_)) : s.gives (.ropeReplayTimeout t) P := by
  obtain ⟨f, rest, hq⟩ := List.exists_cons_of_ne_nil hsome
  refine State.gives_when (b := fun d => d.alive && d.ropeIsUp && decide (d.rope.advanceAt + 20000 ≤ d.now)) hd rfl
    (by simp [halive, hup, hlate]) ?_
  simpa only [hq] using p f.seq

theorem ropeReplays : Claims.RopeReplays := by
  intro s t d halive hup hlate hsome hfree
  refine ⟨fun hfew => gives_ropeReplayTimeout (d := d) rfl halive hup hlate hsome fun from_ => Dev.ropeReplay_again from_ hfew,
    fun hmany => gives_ropeReplayTimeout (d := d) rfl halive hup hlate hsome fun from_ => ?_⟩
  rw [Dev.ropeReplay_down from_ hmany]
  exact Dev.ropeDown_keeps hfree

/-! ### A flit is taken (R244, R367) -/

/-- What an acknowledgement ends leaves the lanes and the numbers of the receiver. -/
theorem Dev.talks_ropeAcked (d : Dev) (ack : Nat) : Dev.talks 0 d (d.ropeAcked ack) := by
  unfold Dev.ropeAcked
  extract_lets q d1 d2
  have hcounted : Dev.talks 0 d d1 := by
    unfold d1
    split
    · exact Dev.talks.refl d
    · exact d.talks_bump _ _
  have hended : Dev.talks 0 d1 d2 := Dev.talks_of_transmits (d1.transmits_modRope _ rfl)
  split
  · exact Dev.talks.refl d
  · exact (hcounted.trans hended).trans (Dev.talks_of_transmits (d2.transmits_flushRope _))

theorem Dev.talks_mbxResult (d : Dev) (m k code reply : Nat) : Dev.talks 1 d (d.mbxResult m k code reply) := by
  unfold Dev.mbxResult
  extract_lets x seq d1 d2
  have hended : Dev.talks 0 d d1 := d.talks_modDir m k _
  have hcounted : Dev.talks 0 d1 d2 := d1.talks_bump _ _
  split
  · exact (hended.trans (d1.talks_modDir m k _)).mono (Nat.zero_le 1)
  · split
    · exact (hended.trans hcounted).trans (d2.talks_raise _ _ _ _ _)
    · exact (hended.trans hcounted).mono (Nat.zero_le 1)

theorem Dev.talks_mbxAckStray (d : Dev) (m : Nat) : Dev.talks 1 d (d.mbxAckStray m) :=
  (d.talks_bump _ _).trans (Dev.talks_raise _ _ _ _ _ _)

theorem Dev.talks_mbxFromPartner (d : Dev) (m : Nat) (msg : Bytes) : Dev.talks 2 d (d.mbxFromPartner m msg) := by
  unfold Dev.mbxFromPartner
  extract_lets kind b hdr x d1
  have hreset : Dev.talks 0 d d1 := d.talks_modMb m _
  split
  · exact ((d.talks_modMb m _).trans (Dev.talks_modDir _ m 1 _)).mono (Nat.zero_le 2)
  · split
    · exact (d.talks_modDir m 0 _).mono (Nat.zero_le 2)
    · split
      · split
        · exact (d.talks_mbxResult m 0 0 _).mono (Nat.le_succ 1)
        · exact (d.talks_mbxAckStray m).mono (Nat.le_succ 1)
      · split
        · exact ((hreset.trans (d1.talks_mbxResult m 0 _ 0)).trans (Dev.talks_bump _ _ _)).trans (Dev.talks_raise _ _ _ _ _ _)
        · exact hreset.mono (Nat.zero_le 2)

theorem Dev.talks_ropeDeliver (d : Dev) (chan : Nat) (data : Bytes) (last : Bool) :
    Dev.talks 2 d (d.ropeDeliver chan data last) := by
  unfold Dev.ropeDeliver
  extract_lets msg d1
  have hjoined : Dev.talks 0 d d1 := Dev.talks_of_transmits (d.transmits_modRope _ rfl)
  split
  · exact hjoined.trans (d1.talks_mbxFromPartner chan msg)
  · exact hjoined.mono (Nat.zero_le 2)

theorem Dev.movesMessages_ropeManage (d : Dev) (cmd lane : Nat) : d.movesMessages (d.ropeManage cmd lane) := by
  have hdrop : d.movesMessages (d.ropeDropTx lane) := by
    unfold Dev.ropeDropTx
    extract_lets d1
    have hstopped : d.movesMessages d1 := d.movesMessages_modRope _
    repeat' split
    · exact hstopped.trans (Dev.movesMessages_of_rope d1.bare_ropeDown)
    · exact hstopped.trans (d1.transmits_ropeMarkers.trans (Dev.transmits_ropeTrain _ _)).movesMessages
    · exact Dev.movesMessages.refl d
  have hadd : d.movesMessages (d.ropeAddTx lane) := by
    unfold Dev.ropeAddTx
    split
    · exact (d.movesMessages_modRope _).trans (Dev.transmits_ropeMarkers _).movesMessages
    · exact Dev.movesMessages.refl d
  unfold Dev.ropeManage
  repeat' split
  · exact hdrop
  · exact hadd
  · exact Dev.movesMessages.refl d

/-- The flit in turn is counted, and every sixteenth acknowledged at once. -/
def Dev.countFlit (d : Dev) : Dev :=
  let e := d.modRope fun x => { x with expect := (x.expect + 1) % 65536, nakSent := false, unacked := x.unacked + 1 }
  if 16 ≤ e.rope.unacked then e.ropeAckNow false else e

theorem Dev.ropeAccept_eq (d : Dev) (b : Bytes) : d.ropeAccept b =
    if leAt b 0 1 = 3 then d.countFlit.ropeManage (leAt b 8 1) (leAt b 9 1)
    else d.countFlit.ropeDeliver (leAt b 1 1) (slice b 8 (leAt b 6 1)) (bit (leAt b 7 1) 2) := rfl

theorem Dev.countFlit_keeps (d : Dev) : d.countFlit.rope.expect = (d.rope.expect + 1) % 65536 ∧
    d.countFlit.rope.nakSent = false ∧ d.movesMessages d.countFlit := by
  unfold Dev.countFlit
  extract_lets e
  split
  · have hacked := e.transmits_ropeAckNow false
    exact ⟨hacked.1.expect, hacked.1.nakSent, (d.movesMessages_modRope _).trans hacked.movesMessages⟩
  · exact ⟨rfl, rfl, d.movesMessages_modRope _⟩

theorem Dev.movesMessages_ropeAccept (d : Dev) (b : Bytes) : d.movesMessages (d.ropeAccept b) := by
  rw [Dev.ropeAccept_eq]
  split
  · exact d.countFlit_keeps.2.2.trans (Dev.movesMessages_ropeManage _ _ _)
  · exact d.countFlit_keeps.2.2.trans (Dev.talks_ropeDeliver _ _ _ _).movesMessages

/-- A data flit in turn advances the sequence expected. -/
theorem Dev.ropeAccept_data {d : Dev} {b : Bytes} (hdata : leAt b 0 1 = 1) :
    (d.ropeAccept b).rope.expect = (d.rope.expect + 1) % 65536 ∧ (d.ropeAccept b).rope.nakSent = false := by
  obtain ⟨hexpect, hnak, -⟩ := d.countFlit_keeps
  rw [Dev.ropeAccept_eq, hdata, if_neg (by decide)]
  obtain ⟨hkept, -, -⟩ := d.countFlit.talks_ropeDeliver (leAt b 1 1) (slice b 8 (leAt b 6 1)) (bit (leAt b 7 1) 2)
  exact ⟨hkept.expect.trans hexpect, hkept.nakSent.trans hnak⟩

/-! ### ROPE_FLIT_RECEIVED (R244) -/

theorem exec_ropeFlitReceived (t : Nat) (b : Bytes) (s : State) : exec (.ropeFlitReceived t b) s =
    s.run t fun d => d.when (d.alive && d.ropeIsUp) fun d => d.ropeFlit b := rfl

/-- A flit is sound when it has its length and its check value. -/
def flitSound (b : Bytes) : Prop := b.length = 256 ∧ crc32c (b.take 252) = beAt b 252 4

/-- What the acknowledgement that a flit carries ends. -/
def Dev.flitAcked (d : Dev) (b : Bytes) : Dev := if bit (leAt b 7 1) 0 then d.ropeAcked (beAt b 4 2) else d

theorem Dev.talks_flitAcked (d : Dev) (b : Bytes) : Dev.talks 0 d (d.flitAcked b) := by
  unfold Dev.flitAcked
  split
  · exact d.talks_ropeAcked _
  · exact Dev.talks.refl d

theorem Dev.ropeFlit_unsound {d : Dev} {b : Bytes} (hbad : ¬ flitSound b) :
    d.ropeFlit b = (d.bump O.ropeCrcErrors).ropeBad := by
  have hcrc : (b.length == 256 && crc32c (b.take 252) == beAt b 252 4) = false := by
    simpa [flitSound] using hbad
  simp only [Dev.ropeFlit, hcrc, Bool.not_false, if_true]

/-- A sound data flit without a NAK is held against the sequence expected. -/
theorem Dev.ropeFlit_inTurn {d : Dev} {b : Bytes} (hup : d.ropeIsUp = true) (hsound : flitSound b) (hdata : leAt b 0 1 = 1)
    (hlength : leAt b 6 1 ≤ 244) (hnak : bit (leAt b 7 1) 1 = false) (hturn : seqDiff (beAt b 2 2) d.rope.expect = 0) :
    d.ropeFlit b = (d.flitAcked b).ropeAccept b := by
  have hcrc : (b.length == 256 && crc32c (b.take 252) == beAt b 252 4) = true := by simpa [flitSound] using hsound
  have hok : flitOk b = true := by simp [flitOk, hdata, hlength]
  have hkept := (d.talks_flitAcked b).1
  have hstill : (d.flitAcked b).ropeIsUp = true := by rw [Dev.ropeIsUp, hkept.state]; exact hup
  have hturn : seqDiff (beAt b 2 2) (d.flitAcked b).rope.expect = 0 := by rw [hkept.expect, hturn]
  unfold Dev.flitAcked at *
  simp only [Dev.ropeFlit, hcrc, hok, hnak, hstill, hdata, hturn, Bool.not_true, Bool.false_or, Bool.false_eq_true, if_false,
    if_true, Nat.reduceMod, decide_eq_true_eq, Nat.one_ne_zero]

theorem Dev.movesMessages_ropeFlit (d : Dev) (b : Bytes) : d.movesMessages (d.ropeFlit b) := by
  unfold Dev.ropeFlit
  extract_lets crcOk flags d1 d2 k
  have hacked : d.movesMessages d1 := (d.talks_flitAcked b).movesMessages
  have hreplayed : d1.movesMessages d2 := by
    unfold d2
    split
    · exact d1.movesMessages_ropeReplay _
    · exact Dev.movesMessages.refl d1
  have htaken := hacked.trans hreplayed
  clear_value d2
  repeat' split
  · exact (d.talks_bump _ _).movesMessages.trans (Dev.ropeBad_keeps _).2.2.2
  · exact d.ropeBad_keeps.2.2.2
  · exact htaken
  · exact htaken.trans (d2.movesMessages_ropeAccept b)
  · exact htaken.trans (d2.transmits_ropeAckNow false).movesMessages
  · exact htaken.trans d2.ropeBad_keeps.2.2.2

theorem flitReceived : Claims.FlitReceived := by
  intro s t b d good halive hup
  refine State.gives_when (d := d) rfl (exec_ropeFlitReceived t b s) (by simp [halive, hup]) ?_
  refine ⟨fun hbad => ?_, fun hsound hdata hlength hnak hturn => ?_, d.movesMessages_ropeFlit b⟩
  · obtain ⟨hnak, hexpect, hdict, -⟩ := (d.bump O.ropeCrcErrors).ropeBad_keeps
    rw [Dev.ropeFlit_unsound hbad, hexpect, Dev.of_bare Dev.rope (fun _ => rfl) (d.bare_bump O.ropeCrcErrors 0)]
    refine ⟨?_, hnak, rfl⟩
    exact (Dev.rn_congr (by rw [hdict])).trans (Dev.rn_bump d _ _ (by decide))
  · have hkept := (d.talks_flitAcked b).1
    rw [Dev.ropeFlit_inTurn hup hsound hdata hlength hnak hturn, ← hkept.expect]
    exact Dev.ropeAccept_data hdata

/-! ### ROPE_ACK_TIMER, ROPE_IDLE_TIMEOUT and ROPE_IDLE_EXIT (R244, R245) -/

theorem exec_ropeAckTimer (t : Nat) (s : State) : exec (.ropeAckTimer t) s =
    s.run t fun d => d.when (d.alive && d.ropeIsUp && d.rope.unacked != 0) fun d => d.ropeAckNow false := rfl

theorem exec_ropeIdleExit (t : Nat) (s : State) : exec (.ropeIdleExit t) s =
    s.run t fun d => d.when (d.alive && d.ropeIsUp && d.rope.idleTx && !d.rope.sendQ.isEmpty) fun d => d.ropeWake := rfl

/-- The transmitter goes to electrical idle on its lanes. -/
def Dev.goIdle (d : Dev) : Dev :=
  (d.ropeBlocks d.rope.txLanes idleEntryBlock).modRope fun x => { x with idleTx := true, idleSince := d.now }

theorem Dev.goIdle_keeps (d : Dev) : d.goIdle.rope = { d.rope with idleTx := true, idleSince := d.now } ∧
    d.goIdle = { d with rope := d.goIdle.rope, sent := d.goIdle.sent } := by
  have hsent := d.ropeBlocks_eq d.rope.txLanes idleEntryBlock
  unfold Dev.goIdle
  rw [hsent]
  exact ⟨rfl, rfl⟩

/-- What ROPE_IDLE_TIMEOUT does of a transmitter with nothing to send for the delay. -/
theorem gives_ropeIdleTimeout {s : State} {t : Nat} {P : Dev → Prop} {d : Dev} (hd : s.dev.tick t = d)
    (halive : d.alive = true) (hup : d.ropeIsUp = true) (hawake : d.rope.idleTx = false) (hnone : d.rope.sendQ = [])
    (hdelay : d.rn O.ropeIdleDelay ≠ 0) (hquiet : d.rope.idleSince + 1000 * d.rn O.ropeIdleDelay ≤ d.now)
    (p : P d.goIdle) : s.gives (.ropeIdleTimeout t) P :=
  State.gives_when (b := fun d => d.alive && d.ropeIsUp && !d.rope.idleTx && d.rope.sendQ.isEmpty &&
    d.rn O.ropeIdleDelay != 0 && decide (d.rope.idleSince + 1000 * d.rn O.ropeIdleDelay ≤ d.now)) hd rfl
    (by simp [halive, hup, hawake, hnone, hdelay, hquiet]) p

/-- An acknowledgement is the last that is sent. -/
theorem Dev.sent_ropeAckNow (d : Dev) : (d.ropeAckNow false).sent.getLast? =
    some (.flit (flitBytes 2 0 0 d.rope.expect 0 1 [])) := by
  rw [← d.transmits_ropeWake.1.expect]
  exact List.getLast?_concat

/-- A flush of a rope that is up sends at least the first waiting flit while the replay queue has room. -/
theorem Dev.flushRope_sends {d : Dev} (hup : d.ropeIsUp = true) (hawake : d.rope.idleTx = false) (hroom : d.rope.replayQ.length < 128)
    (hsome : d.rope.sendQ ≠ []) :
    (d.flushRope d.rope.sendQ.length).rope.sendQ.length < d.rope.sendQ.length ∧
      (d.flushRope d.rope.sendQ.length).rope.idleTx = false := by
  obtain ⟨f, rest, hq⟩ := List.exists_cons_of_ne_nil hsome
  have hfirst : d.flushRope d.rope.sendQ.length = (d.sendFirst f rest).flushRope rest.length := by
    simp only [hq, List.length_cons, Dev.flushRope, hawake, hup, Nat.not_le.mpr hroom, decide_false, Bool.not_true,
      Bool.or_false, Bool.false_eq_true, if_false]
    rfl
  have hrest : (d.sendFirst f rest).rope.sendQ.length ≤ rest.length ∧ (d.sendFirst f rest).rope.idleTx = false :=
    ⟨Nat.le_refl _, hawake⟩
  obtain ⟨hless, hstill⟩ := Dev.flushRope_rec (P := fun e => e.rope.sendQ.length ≤ rest.length ∧ e.rope.idleTx = false)
    (fun e g more hq he => ⟨Nat.le_trans (by rw [hq]; exact Nat.le_succ _) he.1, he.2⟩) rest.length hrest
  rw [hfirst, hq, List.length_cons]
  exact ⟨Nat.lt_succ_of_le hless, hstill⟩

theorem ropeTimers : Claims.RopeTimers := by
  intro s t d halive hup
  refine ⟨fun hunacked => ?_, fun hawake hnone hdelay hquiet => ?_, fun hidle hsome hroom => ?_⟩
  · refine State.gives_when (d := d) rfl (exec_ropeAckTimer t s) (by simp [halive, hup, hunacked]) ?_
    exact ⟨rfl, d.sent_ropeAckNow, (d.transmits_ropeAckNow false).2⟩
  · exact gives_ropeIdleTimeout (d := d) rfl halive hup hawake hnone hdelay hquiet d.goIdle_keeps
  · refine State.gives_when (d := d) rfl (exec_ropeIdleExit t s) (by simp [halive, hup, hidle, hsome]) ?_
    obtain ⟨hburst, hrope⟩ := d.ropeBurst_keeps
    have hroused := hburst.trans d.ropeBurst.transmits_rouse
    have hsend : d.ropeBurst.rouse.rope.sendQ = d.rope.sendQ := d.ropeBurst.sendQ_rouse.trans (congrArg Rope.sendQ hrope)
    have hreplay : d.ropeBurst.rouse.rope.replayQ = d.rope.replayQ :=
      d.ropeBurst.replayQ_rouse.trans (congrArg Rope.replayQ hrope)
    have hstill : d.ropeBurst.rouse.ropeIsUp = true := by rw [Dev.ropeIsUp, hroused.1.state]; exact hup
    obtain ⟨hless, hstays⟩ := Dev.flushRope_sends hstill d.ropeBurst.idleTx_rouse (by rwa [hreplay]) (by rwa [hsend])
    rw [← Dev.ropeWake_idle hidle] at hless hstays
    exact ⟨hstays, by rwa [hsend] at hless, d.transmits_ropeWake.2⟩

/-- Settles O28: what the transmitter sends leaves the numbers of the receiver (`Rope.keeps`), so that a flit in turn advances the
one that was there (`Dev.ropeFlit_inTurn`, `Dev.ropeAccept_data`); a replay counts and sends again, or takes the rope down; the
transmitter that wakes sends at least the first waiting flit (`Dev.flushRope_sends`). -/
theorem ropeCarries : Obligations.RopeCarries := ⟨flitReceived, ropeReplays, ropeTimers⟩

end Sys2Proof.Machine

/-! PROOFS of the family '09_encode.md': the input a context takes while an engine codes that input (R247, R249); an encode engine
fails its self-check, reruns its frame or is retired for the spare (R264); refreshes asked for (R257, R258); sender reports
(R260, R262). -/

namespace Sys2Proof.Machine

/-! ### A cut-off that finds the input in coding again (R249) -/

/-- An input cut-off of a context, its source judged. -/
def Dev.cutOffOn (d : Dev) (c : Nat) : Dev :=
  if (d.ec c).state == .running then (d.encTakeInput c (d.encCutNow c)).kickEncode else d

theorem exec_encodeInputCutOff (t : Nat) (c : Fin 32) (s : State) : exec (.encodeInputCutOff t c) s =
    s.run t fun d => d.when d.alive fun d => (d.encSourceState c).cutOffOn c := rfl

/-- On a device that is alive, ENCODE_INPUT_CUT_OFF judges the source and takes the cut-off. -/
theorem cutOffOn_of_gives {s : State} {t : Nat} {c : Fin 32} {P : Dev → Prop} {d : Dev} (hd : s.dev.tick t = d)
    (halive : d.alive = true) (g : s.gives (.encodeInputCutOff t c) P) : P ((d.encSourceState c).cutOffOn c) := by
  have hP := State.of_gives_run (exec_encodeInputCutOff t c s) g
  rwa [hd, Dev.when_pos _ halive] at hP

/-- The written frame of head 0 as encode context 0 takes it. -/
def writtenInput : EncInput := .frame 0 0 5 0 0

/-- The input of the first frame of context 0, taken at the cut-off a thirtieth of a second before. -/
def firstFrame : EncPend := ⟨writtenInput, 99966666666, false⟩

/-- A running device 100 s after the epoch, whose head 0 completed its newest write-back frame at 99 s; context 0 took that frame
at the cut-off before this one, and engine 0 still codes it. -/
def stillCoding : Dev :=
  { clock := 100 * 10 ^ 9 * 2 ^ 48, power := { phase := .running }
    dict := { eff := [(O.encodeSourceMode.key 0, .num 1), (O.headWriteback.key 0, .num 1)] }
    heads := [(0, { wb := [⟨0, 5, 6, some (99 * 10 ^ 9), zeros 64, ⟨0, 0, 8, [], [], []⟩⟩] })]
    enc := [(0, { state := .running, engine := 0 })]
    encEngines := [(0, { busy := some (0, firstFrame, 0) })] }

theorem stillCoding_tick : stillCoding.tick 0 = stillCoding := by
  rw [Dev.tick, Nat.zero_mul, Nat.max_zero]

theorem stillCoding_selects : stillCoding.encSourceOk 0 = true ∧
    stillCoding.encSelect 0 (stillCoding.encCutNow 0) = some writtenInput := by
  decide +kernel

/-- The repeat of the input waits. -/
theorem stillCoding_pend : (((stillCoding.encSourceState 0).cutOffOn 0).ec 0).pend =
    some ⟨writtenInput, 100 * 10 ^ 9, true⟩ := by
  decide +kernel

/-- No engine starts a frame. -/
theorem stillCoding_engines (n : Nat) : ((stillCoding.encSourceState 0).cutOffOn 0).ee n = stillCoding.ee n := by
  have hengines : ((stillCoding.encSourceState 0).cutOffOn 0).encEngines = stillCoding.encEngines := by decide +kernel
  rw [Dev.ee, hengines, ← Dev.ee]

/-- An engine of `stillCoding` that codes has the first frame. -/
theorem stillCoding_busy {n c tries : Nat} {p : EncPend} (h : (stillCoding.ee n).busy = some (c, p, tries)) : p = firstFrame := by
  by_cases hn : n = 0
  · subst hn
    cases h
    rfl
  · have hidle : (stillCoding.ee n).busy = none := by simp [Dev.ee, tget, tfind, stillCoding, Ne.symm hn]
    rw [hidle] at h
    cases h

/-- Refutes O29: a cut-off judges what is newer by the input in coding, which is not yet the one last coded (R249), and the
premises exclude the latter alone. In `stillCoding` the newest input is the one that engine 0 codes since the cut-off before: what
waits then is its repeat, not the input as new. -/
theorem not_framesEncoded : ¬ Obligations.FramesEncoded := by
  rintro ⟨htaken, -⟩
  obtain ⟨hsource, hselect⟩ := stillCoding_selects
  have hgives := htaken ⟨stillCoding, [], []⟩ 0 0 writtenInput
  rw [stillCoding_tick] at hgives
  have hafter := cutOffOn_of_gives stillCoding_tick rfl <| hgives rfl rfl hsource hselect nofun nofun rfl
  obtain ⟨hwaits | ⟨n, hstarted⟩, -⟩ := hafter
  · cases stillCoding_pend.symm.trans hwaits
  · have hbusy := (congrArg EncEngine.busy (stillCoding_engines n)).symm.trans hstarted
    have hcut := congrArg EncPend.cutoff (stillCoding_busy hbusy)
    exact absurd hcut (by decide +kernel)

/-! ### What stays when the encode cluster moves -/

/-- Past the reporting, from `d` to `e` nothing but the encode engines, their contexts and the health record moved. -/
def Dev.movesEnc (d e : Dev) : Prop :=
  e.bare = { d.bare with encEngines := e.encEngines, enc := e.enc, health := e.health }

theorem Dev.movesEnc_of_eq {d e : Dev} {es : List (Nat × EncEngine)} {cs : List (Nat × EncCtx)} {h : Health}
    (heq : e.bare = { d.bare with encEngines := es, enc := cs, health := h }) : d.movesEnc e := by
  have hes : e.encEngines = es := congrArg Dev.encEngines heq
  have hcs : e.enc = cs := congrArg Dev.enc heq
  have hh : e.health = h := congrArg Dev.health heq
  rw [Dev.movesEnc, heq, hes, hcs, hh]

theorem Dev.movesEnc.trans {a b c : Dev} (h : a.movesEnc b) (g : b.movesEnc c) : a.movesEnc c := by
  unfold Dev.movesEnc at *
  rw [g, h]

theorem Dev.movesEnc_countLasting (d : Dev) (code : Nat) : d.movesEnc (d.countLasting code) := rfl

theorem Dev.movesLog.movesEnc {d e : Dev} (h : d.movesLog e) : d.movesEnc e :=
  Dev.movesEnc_of_eq (es := d.encEngines) (cs := d.enc) h

theorem Dev.movesLog.encEngines {d e : Dev} (h : d.movesLog e) : e.encEngines = d.encEngines := (congrArg Dev.encEngines h :)

/-- Some encode contexts are given an engine, one after another. -/
def Dev.moveEncContexts (d : Dev) (cs : List Nat) (e : Nat) : Dev := cs.foldl (fun (d : Dev) c => d.setEncEngine c e) d

theorem Dev.bare_moveEncContexts (d : Dev) (cs : List Nat) (e : Nat) :
    (d.moveEncContexts cs e).bare = { d.bare with enc := (d.moveEncContexts cs e).enc } := by
  induction cs generalizing d with
  | nil => rfl
  | cons c cs ih => exact (ih (d.setEncEngine c e)).trans rfl

/-! ### An encode engine is retired while engine 4 is a spare (R264, R416) -/

theorem Dev.ee_raise (d : Dev) (c p0 p1 p2 p3 e : Nat) : (d.raise c p0 p1 p2 p3).ee e = d.ee e :=
  Dev.of_bare (Dev.ee · e) (fun _ => rfl) (d.bare_raise c p0 p1 p2 p3)

/-- An engine drops its frame and is entered as retired. -/
def Dev.withdrawEnc (d : Dev) (e : Nat) : Dev :=
  ((d.modEe e fun x => { x with state := .retired, busy := none }).abandonTest 5 e).recordRetired 5 e

/-- Engine 4 takes the place of engine `e`, with its frame as if it had never failed. -/
def Dev.engageEncSpare (d : Dev) (e : Nat) (b : Option (Nat × EncPend × Nat)) : Dev :=
  ((d.modEe 4 fun x => { x with state := .active, busy := b.map fun y => (y.1, y.2.1, 0), since := d.now }).modEe e
    fun x => { x with replacedBy := some 4 }).abandonTest 5 4

/-- What a retirement makes of the engines and their health, without its reporting. -/
def Dev.swapEnc (d : Dev) (e : Nat) : Dev := (d.withdrawEnc e).engageEncSpare e (d.ee e).busy

/-- The event of a retirement. -/
def Dev.encRetirement (d : Dev) (e : Nat) : Own :=
  { code := Code.encEngineRetired, p0 := e, p1 := ((d.ee e).busy.map (·.1)).getD 0xFFFF }

/-- The swap of the engines as it is reported. -/
def Dev.tellEncSwap (d : Dev) (e : Nat) : Dev :=
  ((((d.withdrawEnc e).raiseOwn (d.encRetirement e)).engageEncSpare e (d.ee e).busy).setN O.encodeSpareState 0 0).raise
    Code.encSpareEngaged 4 e

theorem Dev.bare_tellEncSwap (d : Dev) (e : Nat) : (d.tellEncSwap e).bare = (d.swapEnc e).bare := by
  have hcomm (x : Dev) : (x.engageEncSpare e (d.ee e).busy).bare = x.bare.engageEncSpare e (d.ee e).busy := rfl
  rw [Dev.tellEncSwap, Dev.bare_raise, Dev.bare_setN, hcomm, Dev.bare_raiseOwn, ← hcomm, ← Dev.swapEnc]

theorem Dev.ee_abandonTest (d : Dev) (kind inst e : Nat) : (d.abandonTest kind inst).ee e = d.ee e := rfl

theorem Dev.ee_withdrawEnc (d : Dev) (e : Nat) : (d.withdrawEnc e).ee e = { d.ee e with state := .retired, busy := none } :=
  d.ee_modEe e fun x => { x with state := .retired, busy := none }

theorem Dev.ee_withdrawEnc_ne (d : Dev) {e j : Nat} (hj : j ≠ e) : (d.withdrawEnc e).ee j = d.ee j :=
  d.ee_modEe_ne (fun x => { x with state := .retired, busy := none }) hj

theorem Dev.movesEnc_withdrawEnc (d : Dev) (e : Nat) : d.movesEnc (d.withdrawEnc e) := rfl

theorem Dev.movesEnc_engageEncSpare (d : Dev) (e : Nat) (b : Option (Nat × EncPend × Nat)) :
    d.movesEnc (d.engageEncSpare e b) := rfl

theorem Dev.movesEnc_swapEnc (d : Dev) (e : Nat) : d.movesEnc (d.swapEnc e) :=
  (d.movesEnc_withdrawEnc e).trans (Dev.movesEnc_engageEncSpare _ e _)

/-- The contexts of an engine. -/
def Dev.encCtxs (d : Dev) (e : Nat) : List Nat := (List.range 32).filter fun c => (d.ec c).engine == e

/-- With the spare there, a retirement swaps the engines, moves the contexts and notes a lasting fault. -/
theorem Dev.retireEnc_spare {d : Dev} {e : Nat} (reason : Nat) (he : e < 4) (hspare : (d.ee 4).state = .spare) :
    d.retireEnc e reason = ((d.tellEncSwap e).moveEncContexts (d.encCtxs e) 4).noteLasting 5 e (d.encRetirement e) reason
      (some 4) 0 (if (d.ee e).busy.isSome then 7 else 3) := by
  have hstill : ((d.withdrawEnc e).raiseOwn (d.encRetirement e)).ee 4 = d.ee 4 :=
    (Dev.ee_raise _ _ _ _ _ _ 4).trans (d.ee_withdrawEnc_ne (Nat.ne_of_gt he))
  refine if_pos ?_
  rw [decide_eq_true he, Bool.true_and, beq_iff_eq]
  exact (congrArg EncEngine.state hstill).trans hspare

/-- What a retirement leaves of the swap of the engines, past the reporting: one more lasting fault, and contexts moved. -/
theorem Dev.retireEnc_spare_keeps {d : Dev} {e : Nat} (reason : Nat) (he : e < 4) (hspare : (d.ee 4).state = .spare) :
    d.movesEnc (d.retireEnc e reason) ∧ (d.retireEnc e reason).encEngines = (d.swapEnc e).encEngines ∧
      (d.retireEnc e reason).health.retired = (d.swapEnc e).health.retired ∧
      (d.retireEnc e reason).health.lasting = (d.swapEnc e).health.lasting + 1 := by
  rw [Dev.retireEnc_spare reason he hspare]
  have hswap := d.movesEnc_swapEnc e
  have hswapped := d.bare_tellEncSwap e
  have hmoved := (d.tellEncSwap e).bare_moveEncContexts (d.encCtxs e) 4
  rw [hswapped] at hmoved
  generalize (d.tellEncSwap e).moveEncContexts (d.encCtxs e) 4 = m at *
  have hengines : m.encEngines = (d.swapEnc e).encEngines := (congrArg Dev.encEngines hmoved :)
  have hhealth : m.health = (d.swapEnc e).health := (congrArg Dev.health hmoved :)
  have hnoted := m.movesLog_noteLasting 5 e (d.encRetirement e) reason (some 4) 0
    (if (d.ee e).busy.isSome then 7 else 3)
  have hcounted := (hswap.trans (Dev.movesEnc_of_eq hmoved)).trans (m.movesEnc_countLasting (d.encRetirement e).code)
  refine ⟨hcounted.trans hnoted.movesEnc, ?_, ?_, ?_⟩
  · exact hnoted.encEngines.trans hengines
  · rw [hnoted.retired, Dev.retired_countLasting, hhealth]
  · rw [hnoted.lasting, Dev.lasting_countLasting, hhealth]

theorem Dev.ee_swapEnc_retired (d : Dev) {e : Nat} (he : e < 4) :
    (d.swapEnc e).ee e = { d.ee e with state := .retired, busy := none, replacedBy := some 4 } := by
  rw [Dev.swapEnc, Dev.engageEncSpare, Dev.ee_abandonTest, Dev.ee_modEe, Dev.ee_modEe_ne _ _ (Nat.ne_of_lt he),
    Dev.ee_withdrawEnc]

theorem Dev.ee_swapEnc_spare (d : Dev) {e : Nat} (he : e < 4) :
    (d.swapEnc e).ee 4 = { d.ee 4 with
      state := .active, busy := (d.ee e).busy.map fun y => (y.1, y.2.1, 0), since := d.now } := by
  have h4 : 4 ≠ e := Nat.ne_of_gt he
  rw [Dev.swapEnc, Dev.engageEncSpare, Dev.ee_abandonTest, Dev.ee_modEe_ne _ _ h4, Dev.ee_modEe, Dev.ee_withdrawEnc_ne _ h4]
  rfl

theorem Dev.health_engageEncSpare_retired (d : Dev) (e : Nat) (b : Option (Nat × EncPend × Nat)) :
    (d.engageEncSpare e b).health.retired = d.health.retired := rfl

/-! ### ENC_ENGINE_SELF_CHECK_FAIL (R264) -/

/-- The fault of an encode engine is reported; its frame is run once more, or the engine is retired. -/
def Dev.encEngineFails (d : Dev) (e c tries : Nat) (p : EncPend) : Dev :=
  if tries = 0 then (d.raise Code.encEngineFault e c).modEe e fun x => { x with busy := some (c, p, 1) }
  else (d.raise Code.encEngineFault e c).retireEnc e 1

/-- What ENC_ENGINE_SELF_CHECK_FAIL does of an active engine with a frame. -/
theorem gives_encEngineSelfCheckFail {s : State} {t : Nat} {n : Fin 5} {c tries : Nat} {p : EncPend} {P : Dev → Prop}
    {d : Dev} (hd : s.dev.tick t = d) (halive : d.alive = true) (hactive : (d.ee n).state = .active)
    (hbusy : (d.ee n).busy = some (c, p, tries)) (h : P (d.encEngineFails n c tries p)) :
    s.gives (.encEngineSelfCheckFail t n) P := by
  refine State.gives_when (b := fun d => d.alive && (d.ee n).state == .active) hd rfl (by simp [halive, hactive]) ?_
  simpa only [hbusy, Dev.encEngineFails] using h

/-- The first failure: the frame is run again on the same engine. -/
theorem Dev.encEngineFails_first {d : Dev} (e c : Nat) (p : EncPend) (hfree : d.evFree 1 = true) :
    (d.encEngineFails e c 0 p).ee e = { d.ee e with busy := some (c, p, 1) } ∧
      (∀ o, o ≠ e → (d.encEngineFails e c 0 p).ee o = d.ee o) ∧
      d.logs (d.encEngineFails e c 0 p) Code.encEngineFault e c ∧
      (d.encEngineFails e c 0 p).bare = { d.bare with encEngines := (d.encEngineFails e c 0 p).encEngines } ∧
      d.regsBut [] (d.encEngineFails e c 0 p) := by
  rw [Dev.encEngineFails, if_pos rfl]
  refine ⟨?_, fun o ho => ?_, Dev.logs_raise _ _ _ _ _ hfree, ?_, (Dev.quiet_raise _ _ _ _ _ _).regsBut []⟩
  · rw [Dev.ee_modEe, Dev.ee_raise]
  · rw [Dev.ee_modEe_ne _ _ ho, Dev.ee_raise]
  · rw [← Dev.bare_raise d Code.encEngineFault e c 0 0]
    rfl

/-- A second failure while engine 4 is a spare: the engine is retired, and the spare takes its frame. -/
theorem Dev.encEngineFails_again {d : Dev} {e c tries : Nat} {p : EncPend} (hbusy : (d.ee e).busy = some (c, p, tries))
    (htries : tries ≠ 0) (he : e < 4) (hspare : (d.ee 4).state = .spare) :
    (d.encEngineFails e c tries p).ee e = { d.ee e with state := .retired, busy := none, replacedBy := some 4 } ∧
      (d.encEngineFails e c tries p).ee 4 = { d.ee 4 with state := .active, busy := some (c, p, 0), since := d.now } ∧
      (5, e) ∈ (d.encEngineFails e c tries p).health.retired ∧
      (d.encEngineFails e c tries p).health.lasting = d.health.lasting + 1 ∧ d.movesEnc (d.encEngineFails e c tries p) := by
  have htold := d.bare_raise Code.encEngineFault e c 0 0
  have hee := d.ee_raise Code.encEngineFault e c 0 0
  rw [Dev.encEngineFails, if_neg htries]
  generalize d.raise Code.encEngineFault e c = f at *
  obtain ⟨hmoves, hengines, hretired, hlasting⟩ := Dev.retireEnc_spare_keeps 1 he (hee 4 ▸ hspare)
  refine ⟨?_, ?_, ?_, ?_, ?_⟩
  · rw [Dev.ee, hengines, ← Dev.ee, Dev.ee_swapEnc_retired f he, hee]
  · rw [Dev.ee, hengines, ← Dev.ee, Dev.ee_swapEnc_spare f he, hee, hee, hbusy, Dev.of_bare Dev.now (fun _ => rfl) htold]
    rfl
  · rw [hretired, Dev.swapEnc, Dev.health_engageEncSpare_retired]
    exact Dev.retired_recordRetired _ 5 e
  · rw [hlasting, ← Dev.of_bare Dev.health (fun _ => rfl) htold]
    rfl
  · exact (Dev.movesEnc_of_eq htold).trans hmoves

theorem encEngineFails : Claims.EncEngineFails := by
  intro s t n c tries p d halive hactive hbusy hfree
  refine ⟨fun htries => gives_encEngineSelfCheckFail rfl halive hactive hbusy ?_,
    fun htries hn hspare => gives_encEngineSelfCheckFail rfl halive hactive hbusy ?_⟩
  · subst htries
    exact Dev.encEngineFails_first n c p hfree
  · obtain ⟨hold, hnew, hretired, hlasting, hmoves⟩ := Dev.encEngineFails_again hbusy htries hn hspare
    rw [hold, hnew]
    exact ⟨rfl, rfl, rfl, rfl, rfl, hretired, hlasting, hmoves⟩

/-! ### A refresh is asked for (R257, R258) -/

theorem exec_rtcpFirReceived (t : Nat) (c : Fin 32) (s : State) : exec (.rtcpFirReceived t c) s =
    s.run t fun d => d.when (d.alive && d.encOn c && d.relays) fun d =>
      (d.returnRx (16 * d.rn O.encodePort c + 2)).wantRefresh c := rfl

theorem exec_refreshIntervalTimer (t : Nat) (c : Fin 32) (s : State) : exec (.refreshIntervalTimer t c) s =
    s.run t fun d => d.when (d.alive && d.encOn c && d.rn O.encodeRefreshInterval c != 0) fun d => d.wantRefresh c := rfl

/-- Whether a picture loss comes within a second of the one before (R258). -/
def Dev.pliSoon (d : Dev) (c : Nat) : Bool :=
  match (d.ec c).lastPli with
  | some x => d.now < x + sec
  | none => false

/-- What a picture loss asks for: a refresh, or a frame that refers to the long-term reference alone. -/
def Dev.answerPli (d : Dev) (c : Nat) : Dev :=
  if d.pliSoon c then d.wantRefresh c
  else if d.rf O.encodeLtrEnable c && (d.ec c).ltr.isSome then d.modEc c fun x => { x with ltrOnly := true }
  else d

/-- A picture loss is answered, and its instant is noted. -/
def Dev.hearPli (d : Dev) (c : Nat) : Dev :=
  (d.answerPli c).modEc c fun x => { x with lastPli := some (d.answerPli c).now }

theorem exec_rtcpPliReceived (t : Nat) (c : Fin 32) (s : State) : exec (.rtcpPliReceived t c) s =
    s.run t fun d => d.when (d.alive && d.encOn c && d.relays) fun d =>
      (d.returnRx (16 * d.rn O.encodePort c + 2)).hearPli c := rfl

/-- From `d` to `e` a refresh of context `c` came to be wanted, unless a gradual one is in progress. -/
def Dev.refreshWanted (d : Dev) (c : Nat) (e : Dev) : Prop :=
  ((d.ec c).gdr = none → (e.ec c).wantRefresh = true) ∧
    ((d.ec c).gdr.isSome = true → (e.ec c).wantRefresh = (d.ec c).wantRefresh)

/-- From `d` to `e` nothing moved but encode context `c`. -/
def Dev.movesEc (d : Dev) (c : Nat) (e : Dev) : Prop := (∀ o, o ≠ c → e.ec o = d.ec o) ∧ e = { d with enc := e.enc }

theorem Dev.movesEc.refl (d : Dev) (c : Nat) : d.movesEc c d := ⟨fun _ _ => rfl, rfl⟩

theorem Dev.movesEc_modEc (d : Dev) (c : Nat) (f : EncCtx → EncCtx) : d.movesEc c (d.modEc c f) :=
  ⟨fun _ ho => d.ec_modEc_ne f ho, rfl⟩

theorem Dev.movesEc.trans {c : Nat} {d e f : Dev} (h : d.movesEc c e) (g : e.movesEc c f) : d.movesEc c f := by
  obtain ⟨ho, he⟩ := h
  obtain ⟨go, ge⟩ := g
  exact ⟨fun o hne => (go o hne).trans (ho o hne), by rw [ge, he]⟩

/-- A frame of a receive ring is returned, then an encode context moves. -/
theorem Dev.movesEc.of_returnRx {c n : Nat} {d e : Dev} (h : (d.returnRx n).movesEc c e) :
    (∀ o, o ≠ c → e.ec o = d.ec o) ∧ e = { d with enc := e.enc, rings := e.rings } := by
  obtain ⟨ho, he⟩ := h
  have hrings : e.rings = (d.returnRx n).rings := (congrArg Dev.rings he :)
  exact ⟨ho, by rw [hrings]; exact he⟩

theorem Dev.movesEc_wantRefresh (d : Dev) (c : Nat) : d.movesEc c (d.wantRefresh c) := by
  unfold Dev.wantRefresh
  split
  · exact Dev.movesEc.refl d c
  · exact d.movesEc_modEc c _

theorem Dev.refreshWanted_wantRefresh (d : Dev) (c : Nat) : d.refreshWanted c (d.wantRefresh c) := by
  unfold Dev.refreshWanted Dev.wantRefresh
  split
  next hcycle => exact ⟨fun hnone => by simp [hnone] at hcycle, fun _ => rfl⟩
  next hnone => exact ⟨fun _ => by rw [Dev.ec_modEc], fun hcycle => absurd hcycle hnone⟩

theorem Dev.movesEc_answerPli (d : Dev) (c : Nat) : d.movesEc c (d.answerPli c) := by
  unfold Dev.answerPli
  split
  · exact d.movesEc_wantRefresh c
  · split
    · exact d.movesEc_modEc c _
    · exact Dev.movesEc.refl d c

theorem Dev.ec_hearPli (d : Dev) (c : Nat) :
    (d.hearPli c).ec c = { (d.answerPli c).ec c with lastPli := some (d.answerPli c).now } :=
  Dev.ec_modEc _ c fun x => { x with lastPli := some (d.answerPli c).now }

theorem Dev.movesEc_hearPli (d : Dev) (c : Nat) : d.movesEc c (d.hearPli c) :=
  (d.movesEc_answerPli c).trans (Dev.movesEc_modEc _ c _)

theorem Dev.lastPli_hearPli (d : Dev) (c : Nat) : ((d.hearPli c).ec c).lastPli = some d.now := by
  have hnow : (d.answerPli c).now = d.now := (congrArg Dev.now (d.movesEc_answerPli c).2 :)
  rw [Dev.ec_hearPli, hnow]

/-- A picture loss within a second of the one before asks for a refresh. -/
theorem Dev.refreshWanted_hearPli {d : Dev} {c x : Nat} (hlast : (d.ec c).lastPli = some x) (hx : d.now < x + sec) :
    d.refreshWanted c (d.hearPli c) := by
  have hsoon : d.pliSoon c = true := by simp [Dev.pliSoon, hlast, hx]
  rw [Dev.refreshWanted, Dev.ec_hearPli, Dev.answerPli, if_pos hsoon]
  exact d.refreshWanted_wantRefresh c

theorem Dev.pliSoon_eq_false {d : Dev} {c : Nat} (h : ∀ x ∈ (d.ec c).lastPli, x + sec ≤ d.now) : d.pliSoon c = false := by
  unfold Dev.pliSoon
  split
  next x hlast => exact decide_eq_false (Nat.not_lt.mpr (h x hlast))
  · rfl

/-- The first picture loss in a second asks for no refresh, and where there is one for the long-term reference alone. -/
theorem Dev.hearPli_first {d : Dev} {c : Nat} (hfirst : ∀ x ∈ (d.ec c).lastPli, x + sec ≤ d.now) :
    ((d.hearPli c).ec c).wantRefresh = (d.ec c).wantRefresh ∧
      (d.rf O.encodeLtrEnable c = true → (d.ec c).ltr.isSome = true → ((d.hearPli c).ec c).ltrOnly = true) := by
  rw [Dev.ec_hearPli, Dev.answerPli, if_neg (by simp [Dev.pliSoon_eq_false hfirst])]
  split
  · rw [Dev.ec_modEc]
    exact ⟨rfl, fun _ _ => rfl⟩
  next hnot => exact ⟨rfl, fun henable hltr => absurd (by simp [henable, hltr]) hnot⟩

theorem refreshAsked : Claims.RefreshAsked := by
  intro s t c d want halive hon
  refine ⟨fun hrelays => ?_, fun hrelays => ?_, fun hinterval => ?_⟩
  · refine State.gives_when (d := d) rfl (exec_rtcpFirReceived t c s) (by simp [halive, hon, hrelays]) ?_
    exact ⟨Dev.refreshWanted_wantRefresh (d.returnRx _) c, (Dev.movesEc_wantRefresh _ c).of_returnRx⟩
  · refine State.gives_when (d := d) rfl (exec_rtcpPliReceived t c s) (by simp [halive, hon, hrelays]) ?_
    exact ⟨Dev.lastPli_hearPli _ c, fun x hlast hx => Dev.refreshWanted_hearPli (d := d.returnRx _) hlast hx,
      Dev.hearPli_first (d := d.returnRx _), (Dev.movesEc_hearPli _ c).of_returnRx⟩
  · refine State.gives_when (d := d) rfl (exec_refreshIntervalTimer t c s) (by simp [halive, hon, hinterval]) ?_
    exact ⟨d.refreshWanted_wantRefresh c, d.movesEc_wantRefresh c⟩

/-! ### RELAY_SR_TIMER (R260, R262) -/

theorem exec_relaySrTimer (t : Nat) (c : Fin 32) (s : State) : exec (.relaySrTimer t c) s =
    s.run t fun d => d.when (d.alive && d.encOn c) fun d => d.relayRtcp c (d.senderReport c) := rfl

theorem length_be (n v : Nat) : (be n v).length = n := by
  have hle (v : Nat) : (le n v).length = n := by
    induction n generalizing v with
    | zero => rfl
    | succ n ih => rw [le, List.length_cons, ih]
  rw [be, List.length_reverse, hle]

theorem Dev.length_senderReport (d : Dev) (c : Nat) : (d.senderReport c).length = 28 := by
  simp [Dev.senderReport, length_be]

/-- A well-formed descriptor without a launch time goes to its ring while the link is up and the gate lets it pass (R111). -/
theorem Dev.post_taken {d : Dev} {ring : Nat} {x : TxDesc} (hlaunch : x.launchEn = false)
    (hup : (d.port (ring / 16)).linkUp = true) (hform : x.malformed = false) (hgate : x.gateable ring = false) :
    d.post ring x = d.modRing ring fun r => { r with tx := r.tx ++ [x] } := by
  simp [Dev.post, hlaunch, hup, hform, hgate]

/-- The descriptor of a UDP datagram. -/
def Dev.udpDesc (d : Dev) (dst : Bytes) (dport : Nat) (b : Bytes) : TxDesc :=
  { id := d.fresh.1, dst := dst, dport := dport, payload := b, frameLen := udpFrameLen dst b.length }

theorem Dev.udpDesc_formed (d : Dev) (dst : Bytes) (dport : Nat) {b : Bytes} (hsize : b.length ≤ 9000) :
    (d.udpDesc dst dport b).malformed = false := by
  have hlen : 14 ≤ udpFrameLen dst b.length ∧ udpFrameLen dst b.length ≤ 9212 := by
    unfold udpFrameLen
    split <;> omega
  simp [TxDesc.malformed, Dev.udpDesc, Nat.not_lt.mpr hlen.1, Nat.not_lt.mpr hlen.2]

/-- Of a port, the gate of R395 closes rings 9 and 12 to 15 alone. -/
theorem TxDesc.gateable_ring10 (x : TxDesc) (p : Nat) : x.gateable (16 * p + 10) = false := by
  have hring : (16 * p + 10) % 16 = 10 := by omega
  simp [TxDesc.gateable, hring]

/-- A datagram on ring 10 of a port whose link is up is the newest of the ring, whatever the gate does. -/
theorem Dev.sends_sendUdp_ring10 {d : Dev} {p : Nat} (dst : Bytes) (dport : Nat) {b : Bytes} (hup : (d.port p).linkUp = true)
    (hsize : b.length ≤ 9000) : (d.sendUdp (16 * p + 10) dst dport b).sends (16 * p + 10) dst b ∧
      d.sendUdp (16 * p + 10) dst dport b = { d with
        rings := (d.sendUdp (16 * p + 10) dst dport b).rings
        freeCtr := (d.sendUdp (16 * p + 10) dst dport b).freeCtr } := by
  have hport : (16 * p + 10) / 16 = p := by omega
  have hposted : d.sendUdp (16 * p + 10) dst dport b =
      d.fresh.2.modRing (16 * p + 10) fun r => { r with tx := r.tx ++ [d.udpDesc dst dport b] } :=
    Dev.post_taken rfl (by rw [hport]; exact hup) (d.udpDesc_formed dst dport hsize) (TxDesc.gateable_ring10 _ p)
  rw [hposted]
  refine ⟨⟨d.udpDesc dst dport b, ?_, rfl, rfl⟩, rfl⟩
  rw [Dev.ring_modRing]
  exact List.getLast?_concat

theorem senderReportSent : Claims.SenderReportSent := by
  intro s t c d halive hon hrelays hup
  refine State.gives_when (d := d) rfl (exec_relaySrTimer t c s) (by simp [halive, hon]) ?_
  rw [Dev.relayRtcp, if_pos hrelays]
  exact Dev.sends_sendUdp_ring10 _ _ hup (by rw [Dev.length_senderReport]; decide)

/-- Settles O30: while engine 4 is a spare a retirement comes to a swap of the two engines and a lasting fault
(`Dev.retireEnc_spare_keeps`), of which the reporting touches nothing else; what asks for a refresh moves its own context alone
(`Dev.movesEc`); ring 10 takes a sender report whatever the twin's gate does (`Dev.sends_sendUdp_ring10`). -/
theorem encodeRecovers : Obligations.EncodeRecovers := ⟨encEngineFails, refreshAsked, senderReportSent⟩

end Sys2Proof.Machine

/-! PROOFS of the family '10_touch.md': a completed hold fires and an old contact is lifted (R277, R285); panels come and go and
their electrodes are tested (R287, R289); scans start and are processed, a baseline is forced (R268, R274, R286, R290), and what
decides the count of scans at its largest value. -/

namespace Sys2Proof.Machine

/-! ### What reporting and touch records leave alone -/

theorem Dev.told_raise (d : Dev) (c p0 p1 p2 p3 : Nat) : (d.raise c p0 p1 p2 p3).told c p0 :=
  ⟨_, d.mem_events_raise c p0 p1 p2 p3, rfl, rfl, (d.raise_clock c p0 p1 p2 p3).symm⟩

theorem Dev.pn_raise (d : Dev) (c p0 p1 p2 p3 n : Nat) : (d.raise c p0 p1 p2 p3).pn n = d.pn n :=
  Dev.of_bare (Dev.pn · n) (fun _ => rfl) (d.bare_raise c p0 p1 p2 p3)

theorem Dev.regsBut.mono {ks ls : List Nat} {d e : Dev} (h : d.regsBut ks e) (hsub : ks ⊆ ls) : d.regsBut ls e :=
  fun k hk hr => h k (mt (@hsub k) hk) hr

theorem Dev.regsBut_bump (d : Dev) (o : Obj) (i : Nat) : d.regsBut [o.key i] (d.bump o i) :=
  fun _ hk _ => d.bump_regs o i (mt List.mem_singleton.mpr hk)

/-- From `d` to `e` touch records were posted and codes raised, and nothing else moved. -/
def Dev.postsTouch (d e : Dev) : Prop :=
  e.bare = { d.bare with touch := e.touch } ∧ d.regsBut [O.touchEventsLost.key 0] e

theorem Dev.postsTouch.refl (d : Dev) : d.postsTouch d := ⟨rfl, fun _ _ _ => rfl⟩

theorem Dev.postsTouch.trans {a b c : Dev} (h : a.postsTouch b) (g : b.postsTouch c) : a.postsTouch c := by
  obtain ⟨hbare, hregs⟩ := h
  obtain ⟨gbare, gregs⟩ := g
  exact ⟨by rw [gbare, hbare], hregs.trans gregs⟩

theorem Dev.postsTouch.pn {d e : Dev} (h : d.postsTouch e) (n : Nat) : e.pn n = d.pn n := (congrArg (Dev.pn · n) h.1 :)

theorem Dev.postsTouch_of_quiet {d e : Dev} (hbare : e.bare = d.bare) (h : d.quiet e) : d.postsTouch e :=
  ⟨by rw [hbare, Dev.of_bare Dev.touch (fun _ => rfl) hbare]; rfl, h.regsBut _⟩

theorem Dev.postsTouch_raise (d : Dev) (c p0 p1 p2 p3 : Nat) : d.postsTouch (d.raise c p0 p1 p2 p3) :=
  Dev.postsTouch_of_quiet (d.bare_raise c p0 p1 p2 p3) (d.quiet_raise c p0 p1 p2 p3)

theorem Dev.postsTouch_bumpAction (d : Dev) (region what : Nat) : d.postsTouch (d.bumpAction region what) :=
  ⟨rfl, fun _ _ _ => rfl⟩

theorem Dev.postsTouch_postTouch (d : Dev) (r : Bytes) (event reason : Nat) : d.postsTouch (d.postTouch r event reason) := by
  refine ⟨(d.postTouch_keeps r event reason).1, ?_⟩
  unfold Dev.postTouch
  extract_lets r t full lost d1
  split
  · exact (d1.regsBut_bump O.touchEventsLost 0).trans ((Dev.quiet_raiseOnce _ _ _ _ _ _ _ _).regsBut _)
  · exact fun _ _ _ => rfl

theorem Dev.postsTouch_foldl {α : Type} {f : Dev → α → Dev} (hf : ∀ (d : Dev) x, d.postsTouch (f d x)) (l : List α)
    (d : Dev) : d.postsTouch (l.foldl f d) :=
  List.foldlRecOn _ _ (Dev.postsTouch.refl d) fun e he x _ => he.trans (hf e x)

theorem Dev.postsTouch_cancelHold (d : Dev) (n : Nat) (k : Hold) : d.postsTouch (d.cancelHold n k) :=
  ((d.postsTouch_bumpAction _ _).trans (Dev.postsTouch_postTouch _ _ _ _)).trans (Dev.postsTouch_raise _ _ _ _ _ _)

/-! ### What stays when one panel moves -/

/-- Past the reporting, from `d` to `e` nothing but panel `n`, the touch ring and the registers of `ks` moved. -/
def Dev.movesPanel (n : Nat) (ks : List Nat) (d e : Dev) : Prop :=
  (∀ o, o ≠ n → e.pn o = d.pn o) ∧ e.bare = { d.bare with panels := e.panels, touch := e.touch } ∧ d.regsBut ks e

section

variable {n : Nat} {ks : List Nat}

theorem Dev.movesPanel.trans {a b c : Dev} (h : Dev.movesPanel n ks a b) (g : Dev.movesPanel n ks b c) :
    Dev.movesPanel n ks a c := by
  obtain ⟨hpn, hbare, hregs⟩ := h
  obtain ⟨gpn, gbare, gregs⟩ := g
  exact ⟨fun o ho => (gpn o ho).trans (hpn o ho), by rw [gbare, hbare], hregs.trans gregs⟩

theorem Dev.movesPanel.regsBut {d e : Dev} (h : Dev.movesPanel n ks d e) : d.regsBut ks e := h.2.2

theorem Dev.movesPanel.mono {ls : List Nat} {d e : Dev} (h : Dev.movesPanel n ks d e) (hsub : ks ⊆ ls) :
    Dev.movesPanel n ls d e := by
  obtain ⟨hpn, hbare, hregs⟩ := h
  exact ⟨hpn, hbare, hregs.mono hsub⟩

theorem Dev.movesPanel_modPn (n : Nat) (ks : List Nat) (d : Dev) (f : Panel → Panel) : Dev.movesPanel n ks d (d.modPn n f) :=
  ⟨fun _ ho => d.pn_modPn_ne f ho, rfl, fun _ _ _ => rfl⟩

theorem Dev.postsTouch.movesPanel {d e : Dev} (h : d.postsTouch e) (n : Nat) (hks : O.touchEventsLost.key 0 ∈ ks) :
    Dev.movesPanel n ks d e := by
  obtain ⟨hbare, hregs⟩ := h
  have hpanels : e.panels = d.panels := (congrArg Dev.panels hbare :)
  refine ⟨fun o _ => by rw [Dev.pn, hpanels, Dev.pn], ?_, hregs.mono (List.cons_subset.mpr ⟨hks, List.nil_subset _⟩)⟩
  rw [hbare, hpanels]
  rfl

theorem Dev.movesPanel_of_bare {d e : Dev} (hbare : e.bare = d.bare) (hregs : d.regsBut ks e) : Dev.movesPanel n ks d e := by
  refine ⟨fun o _ => Dev.of_bare (Dev.pn · o) (fun _ => rfl) hbare, ?_, hregs⟩
  rw [hbare, Dev.of_bare Dev.panels (fun _ => rfl) hbare, Dev.of_bare Dev.touch (fun _ => rfl) hbare]
  rfl

end

/-- Past the reporting, from `d` to `e` panel `n` moved alone; at most `k` codes tell of it. -/
def Dev.tellsPanel (n k : Nat) (d e : Dev) : Prop :=
  (∀ o, o ≠ n → e.pn o = d.pn o) ∧ e.bare = { d.bare with panels := e.panels } ∧ d.quiet e ∧
    (d.evFree k = true → Dev.records k d e)

theorem Dev.tellsPanel.trans {n k m : Nat} {a b c : Dev} (h : Dev.tellsPanel n k a b) (g : Dev.tellsPanel n m b c) :
    Dev.tellsPanel n (k + m) a c := by
  obtain ⟨hpn, hbare, hquiet, hrec⟩ := h
  obtain ⟨gpn, gbare, gquiet, grec⟩ := g
  refine ⟨fun o ho => (gpn o ho).trans (hpn o ho), by rw [gbare, hbare], hquiet.trans gquiet, fun hfree => ?_⟩
  have hfirst := hrec (Dev.evFree_mono (Nat.le_add_right k m) hfree)
  exact hfirst.trans (grec (hfirst.evFree hfree))

theorem Dev.tellsPanel.records {n k : Nat} {d e : Dev} (h : Dev.tellsPanel n k d e) (hfree : d.evFree k = true) :
    Dev.records k d e := h.2.2.2 hfree

theorem Dev.tellsPanel_modPn (d : Dev) (n : Nat) (f : Panel → Panel) : Dev.tellsPanel n 0 d (d.modPn n f) :=
  ⟨fun _ ho => d.pn_modPn_ne f ho, rfl, fun _ _ => rfl, fun _ => Dev.records_of_events_eq rfl rfl⟩

theorem Dev.tellsPanel_raise (d : Dev) (n c p0 : Nat) : Dev.tellsPanel n 1 d (d.raise c p0) := by
  have hbare := d.bare_raise c p0 0 0 0
  refine ⟨fun o _ => d.pn_raise _ _ _ _ _ o, ?_, d.quiet_raise _ _ _ _ _, Dev.records_raise _ _ _ _ _⟩
  rw [hbare, Dev.of_bare Dev.panels (fun _ => rfl) hbare]
  rfl

/-! ### Holds are cancelled, contacts lifted (R285, R287 to R289) -/

/-- Panel without the running holds that meet a condition. -/
def Panel.dropHolds (bad : Hold → Bool) (p : Panel) : Panel :=
  { p with holds := p.holds.filter fun k => !(k.doneAt.isNone && bad k) }

theorem Dev.postsTouch_cancelHolds (d : Dev) (n : Nat) (bad : Hold → Bool) :
    (d.modPn n (Panel.dropHolds bad)).postsTouch (d.cancelHolds n bad) :=
  Dev.postsTouch_foldl (fun e k => e.postsTouch_cancelHold n k) _ _

theorem Dev.pn_cancelHolds (d : Dev) (n : Nat) (bad : Hold → Bool) :
    (d.cancelHolds n bad).pn n = (d.pn n).dropHolds bad :=
  ((d.postsTouch_cancelHolds n bad).pn n).trans (d.pn_modPn n _)

/-- Every contact that is not silent is reported lifted. -/
def Dev.tellLifted (d : Dev) (n reason : Nat) : Dev :=
  ((d.pn n).contacts.filter fun c => !c.silent).foldl (fun (d : Dev) c => d.postTouch c.record 2 reason) d

theorem Dev.postsTouch_tellLifted (d : Dev) (n reason : Nat) : d.postsTouch (d.tellLifted n reason) := by
  unfold Dev.tellLifted
  exact Dev.postsTouch_foldl (fun e (c : Contact) => e.postsTouch_postTouch c.record 2 reason) _ d

/-- A panel as it takes another state, its running holds gone. -/
def Panel.enter (st : PanelState) (p : Panel) : Panel :=
  { p with
    state := st, contacts := [], holds := p.holds.filter fun k => k.doneAt.isSome
    large := [], fired := [], scan := none, failed := false, failPins := [], lost := false }

theorem Dev.panelTo_eq (d : Dev) (n : Nat) (st : PanelState) (reason : Nat) :
    d.panelTo n st reason = ((d.tellLifted n reason).cancelHolds n fun _ => true).modPn n (Panel.enter st) := rfl

theorem Dev.pn_panelTo (d : Dev) (n : Nat) (st : PanelState) (reason : Nat) :
    (d.panelTo n st reason).pn n = ((d.pn n).dropHolds fun _ => true).enter st := by
  rw [Dev.panelTo_eq, Dev.pn_modPn, Dev.pn_cancelHolds, (d.postsTouch_tellLifted n reason).pn]

section

variable {n : Nat} {ks : List Nat} (hks : O.touchEventsLost.key 0 ∈ ks)
include hks

theorem Dev.movesPanel_cancelHolds (d : Dev) (bad : Hold → Bool) : Dev.movesPanel n ks d (d.cancelHolds n bad) :=
  (Dev.movesPanel_modPn n ks d _).trans ((d.postsTouch_cancelHolds n bad).movesPanel n hks)

theorem Dev.movesPanel_panelTo (d : Dev) (st : PanelState) (reason : Nat) : Dev.movesPanel n ks d (d.panelTo n st reason) :=
  (((d.postsTouch_tellLifted n reason).movesPanel n hks).trans (Dev.movesPanel_cancelHolds hks _ _)).trans
    (Dev.movesPanel_modPn n ks _ _)

end

/-- A panel without contacts and running holds takes a state without a touch record. -/
theorem Dev.panelTo_untouched {d : Dev} {n : Nat} (hcontacts : (d.pn n).contacts = [])
    (hholds : ∀ k ∈ (d.pn n).holds, k.doneAt.isSome = true) (st : PanelState) (reason : Nat) :
    d.panelTo n st reason = (d.modPn n (Panel.dropHolds fun _ => true)).modPn n (Panel.enter st) := by
  have hlifted : d.tellLifted n reason = d := by rw [Dev.tellLifted, hcontacts]; rfl
  have hrunning : (d.pn n).holds.filter (fun k => k.doneAt.isNone && true) = [] := by
    refine List.filter_eq_nil_iff.mpr fun k hk => ?_
    simp [Option.isSome_iff_ne_none.mp (hholds k hk)]
  rw [Dev.panelTo_eq, hlifted, Dev.cancelHolds, hrunning]
  rfl

/-! ### PDET_PRESENT and PDET_ABSENT (R287) -/

/-- A panel plugged in or unplugged. -/
def Panel.plug (present : Bool) (p : Panel) : Panel := { p with present := present }

/-- An absent panel is plugged in: told and tested. -/
def Dev.panelArrives (d : Dev) (n : Nat) : Dev :=
  ((d.modPn n (Panel.plug true)).raise Code.touchPanelPresent n).panelTo n .testing 4

/-- A panel in use is unplugged: it is absent, and told. -/
def Dev.panelLeaves (d : Dev) (n : Nat) : Dev :=
  ((d.modPn n (Panel.plug false)).panelTo n .absent 4).raise Code.touchPanelAbsent n

theorem Dev.panelArrives_keeps {d : Dev} {n : Nat} (hcontacts : (d.pn n).contacts = [])
    (hholds : ∀ k ∈ (d.pn n).holds, k.doneAt.isSome = true) (hfree : d.evFree 1 = true) :
    ((d.panelArrives n).pn n).present = true ∧ ((d.panelArrives n).pn n).state = .testing ∧
      d.logs (d.panelArrives n) Code.touchPanelPresent n 0 ∧ (∀ o, o ≠ n → (d.panelArrives n).pn o = d.pn o) ∧
      (d.panelArrives n).bare = { d.bare with panels := (d.panelArrives n).panels } ∧ d.regsBut [] (d.panelArrives n) := by
  have hpn : ((d.modPn n (Panel.plug true)).raise Code.touchPanelPresent n).pn n = (d.pn n).plug true :=
    (Dev.pn_raise _ _ _ _ _ _ n).trans (d.pn_modPn n _)
  have hlogs := (d.modPn n (Panel.plug true)).logs_raise Code.touchPanelPresent n 0 0 0 hfree
  have htold := (d.tellsPanel_modPn n (Panel.plug true)).trans (Dev.tellsPanel_raise _ n Code.touchPanelPresent n)
  rw [Dev.panelArrives]
  generalize (d.modPn n (Panel.plug true)).raise Code.touchPanelPresent n = e at *
  rw [Dev.panelTo_untouched (by rw [hpn]; exact hcontacts) (by rw [hpn]; exact hholds)]
  obtain ⟨hothers, hbare, hquiet, -⟩ := (htold.trans (Dev.tellsPanel_modPn _ n _)).trans (Dev.tellsPanel_modPn _ n _)
  refine ⟨?_, ?_, hlogs, hothers, hbare, hquiet.regsBut []⟩
  · rw [Dev.pn_modPn, Dev.pn_modPn, hpn]
    rfl
  · rw [Dev.pn_modPn]
    rfl

theorem Dev.panelLeaves_keeps (d : Dev) (n : Nat) :
    ((d.panelLeaves n).pn n).present = false ∧ ((d.panelLeaves n).pn n).state = .absent ∧
      ((d.panelLeaves n).pn n).contacts = [] ∧ (d.panelLeaves n).told Code.touchPanelAbsent n ∧
      Dev.movesPanel n [O.touchEventsLost.key 0] d (d.panelLeaves n) := by
  have hks := List.mem_singleton_self (O.touchEventsLost.key 0)
  have hpn : (d.panelLeaves n).pn n = (((d.pn n).plug false).dropHolds fun _ => true).enter .absent := by
    rw [Dev.panelLeaves, Dev.pn_raise, Dev.pn_panelTo, Dev.pn_modPn]
  rw [hpn]
  exact ⟨rfl, rfl, rfl, Dev.told_raise _ _ _ _ _ _,
    ((Dev.movesPanel_modPn n _ d _).trans (Dev.movesPanel_panelTo hks _ _ _)).trans
      ((Dev.postsTouch_raise _ _ _ _ _ _).movesPanel n hks)⟩

theorem exec_pdetPresent (t : Nat) (n : Fin 4) (s : State) : exec (.pdetPresent t n) s =
    s.run t fun d => d.when (d.alive && !(d.pn n).present) fun d =>
      if ((d.modPn n (Panel.plug true)).pn n).state == .absent then d.panelArrives n else d.modPn n (Panel.plug true) := rfl

theorem exec_pdetAbsent (t : Nat) (n : Fin 4) (s : State) : exec (.pdetAbsent t n) s =
    s.run t fun d => d.when (d.alive && (d.pn n).present) fun d =>
      let st := ((d.modPn n (Panel.plug false)).pn n).state
      if st == .off || st == .standby || st == .absent then d.modPn n (Panel.plug false) else d.panelLeaves n := rfl

theorem panelPresence : Claims.PanelPresence := by
  intro s t n d halive
  refine ⟨fun hout hstate hcontacts hholds hfree => ?_, fun hin hstate => ?_⟩
  · refine State.gives_when (d := d) rfl (exec_pdetPresent t n s) (by simp [halive, hout]) ?_
    rw [if_pos (by rw [Dev.pn_modPn, beq_iff_eq]; exact hstate)]
    exact d.panelArrives_keeps hcontacts hholds hfree
  · refine State.gives_when (d := d) rfl (exec_pdetAbsent t n s) (by simp [halive, hin]) ?_
    have hused : ((d.modPn n (Panel.plug false)).pn n).state = (d.pn n).state := by rw [Dev.pn_modPn]; rfl
    dsimp only
    rw [hused, if_neg (by rcases hstate with h | h | h <;> rw [h] <;> decide)]
    exact d.panelLeaves_keeps n

/-! ### ELECTRODE_TEST_COMPLETE (R289) -/

/-- The electrodes of panel `n` that measure below 5 pF. -/
def Dev.openElectrodes (d : Dev) (n : Nat) (cap : List (Nat × Nat)) : List Nat :=
  ((d.drives n ++ d.senses n).map (·.2)).filter fun pin => cap.any fun c => c.1 == pin && c.2 < 5000

/-- Each of some open electrodes is told. -/
def Dev.tellOpen (d : Dev) (n : Nat) (pins : List Nat) : Dev :=
  pins.foldl (fun (d : Dev) pin => d.raise Code.touchElectrodeOpen n pin) d

/-- The open electrodes are told and kept, and the retired channels with them. -/
def Dev.keepOpen (d : Dev) (n : Nat) (pins : List Nat) : Dev :=
  (d.tellOpen n pins).modPn n fun p => { p with openPins := (pins ++ p.retiredPins).eraseDups }

/-- The panel captures baselines when it can mend what is open, else it is in FAULT. -/
def Dev.judgeOpen (d : Dev) (n : Nat) : Dev :=
  if d.openOk n (d.pn n).openPins then d.panelBaseline n else d.panelFault n

theorem exec_electrodeTestComplete (t : Nat) (n : Fin 4) (cap : List (Nat × Nat)) (s : State) :
    exec (.electrodeTestComplete t n cap) s = s.run t fun d => d.when (d.alive && (d.pn n).state == .testing) fun d =>
      (d.keepOpen n (d.openElectrodes n cap)).judgeOpen n := rfl

theorem Dev.bare_tellOpen (d : Dev) (n : Nat) (pins : List Nat) : (d.tellOpen n pins).bare = d.bare :=
  Dev.bare_foldl _ (fun e _ => e.bare_raise _ _ _ _ _) pins d

theorem Dev.quiet_tellOpen (d : Dev) (n : Nat) (pins : List Nat) : d.quiet (d.tellOpen n pins) :=
  Dev.quiet_foldl _ (fun e _ => e.quiet_raise _ _ _ _ _) pins d

/-- What a panel can mend depends on its pin map alone. -/
theorem Dev.openOk_congr {d e : Dev} (h : e.rb O.touchPinMap = d.rb O.touchPinMap) (n : Nat) (pins : List Nat) :
    e.openOk n pins = d.openOk n pins := by
  simp only [Dev.openOk, Dev.drives, Dev.senses, h]

theorem Dev.openOk_keepOpen (d : Dev) (n : Nat) (pins ps : List Nat) : (d.keepOpen n pins).openOk n ps = d.openOk n ps :=
  Dev.openOk_congr (Dev.rb_congr (d.quiet_tellOpen n pins _ (by decide))) n ps

theorem Dev.openPins_keepOpen (d : Dev) (n : Nat) (pins : List Nat) :
    ((d.keepOpen n pins).pn n).openPins = (pins ++ (d.pn n).retiredPins).eraseDups := by
  rw [Dev.keepOpen, Dev.pn_modPn, Dev.of_bare (Dev.pn · n) (fun _ => rfl) (d.bare_tellOpen n pins)]

theorem Dev.openPins_panelTo (d : Dev) (n : Nat) (st : PanelState) (reason : Nat) :
    ((d.panelTo n st reason).pn n).openPins = (d.pn n).openPins := by
  rw [Dev.pn_panelTo]
  rfl

theorem Dev.panelBaseline_keeps (d : Dev) (n : Nat) : ((d.panelBaseline n).pn n).openPins = (d.pn n).openPins ∧
    ((d.panelBaseline n).pn n).state = .baselining ∧ Dev.movesPanel n [O.touchEventsLost.key 0] d (d.panelBaseline n) := by
  refine ⟨?_, ?_, (Dev.movesPanel_panelTo (List.mem_singleton_self _) _ _ _).trans (Dev.movesPanel_modPn n _ _ _)⟩
  · rw [Dev.panelBaseline, Dev.pn_modPn]
    exact d.openPins_panelTo n _ _
  · rw [Dev.panelBaseline, Dev.pn_modPn, Dev.pn_panelTo]
    rfl

theorem Dev.panelFault_keeps (d : Dev) (n : Nat) : ((d.panelFault n).pn n).openPins = (d.pn n).openPins ∧
    ((d.panelFault n).pn n).state = .fault ∧ (d.panelFault n).told Code.touchPanelFault n ∧
      Dev.movesPanel n [O.touchEventsLost.key 0] d (d.panelFault n) := by
  have hks := List.mem_singleton_self (O.touchEventsLost.key 0)
  refine ⟨?_, ?_, Dev.told_raise _ _ _ _ _ _,
    (Dev.movesPanel_panelTo hks _ _ _).trans ((Dev.postsTouch_raise _ _ _ _ _ _).movesPanel n hks)⟩
  · rw [Dev.panelFault, Dev.pn_raise]
    exact d.openPins_panelTo n _ _
  · rw [Dev.panelFault, Dev.pn_raise, Dev.pn_panelTo]
    rfl

theorem electrodesTested : Claims.ElectrodesTested := by
  intro s t n cap d open_ pins halive htesting
  refine State.gives_when (d := d) rfl (exec_electrodeTestComplete t n cap s) (by simp [halive, htesting]) ?_
  have hpins : ((d.keepOpen n (d.openElectrodes n cap)).pn n).openPins = pins := d.openPins_keepOpen n _
  have hok := d.openOk_keepOpen n (d.openElectrodes n cap) pins
  have hkept : Dev.movesPanel n [O.touchEventsLost.key 0] d (d.keepOpen n (d.openElectrodes n cap)) :=
    (Dev.movesPanel_of_bare (d.bare_tellOpen n _) ((d.quiet_tellOpen n _).regsBut _)).trans (Dev.movesPanel_modPn n _ _ _)
  generalize d.keepOpen n (d.openElectrodes n cap) = e at *
  rw [Dev.judgeOpen, hpins, hok]
  split
  next hmends =>
    obtain ⟨hopen, hstate, hmoves⟩ := e.panelBaseline_keeps n
    exact ⟨hopen.trans hpins, fun _ => hstate, fun hno => absurd (hmends.symm.trans hno) (by decide), hkept.trans hmoves⟩
  next hno =>
    obtain ⟨hopen, hstate, htold, hmoves⟩ := e.panelFault_keeps n
    exact ⟨hopen.trans hpins, fun hmends => absurd hmends hno, fun _ => ⟨hstate, htold⟩, hkept.trans hmoves⟩

/-- Settles O33: what a panel that changes its state reports reaches the touch ring and the events alone (`Dev.postsTouch`), so
that the rest of its device stays (`Dev.movesPanel_panelTo`) and without contacts and running holds not even the touch ring moves
(`Dev.panelTo_untouched`); what it can mend is judged by its pin map, which no report changes (`Dev.openOk_congr`). -/
theorem panelsWatched : Obligations.PanelsWatched := ⟨panelPresence, electrodesTested⟩

/-! ### A region fires (R74, R285) -/

theorem Dev.movesRecords.panels {d e : Dev} (h : d.movesRecords e) : e.panels = d.panels := (congrArg Dev.panels h :)

theorem Dev.movesRecords.pn {d e : Dev} (h : d.movesRecords e) (n : Nat) : e.pn n = d.pn n := by
  rw [Dev.pn, h.panels, Dev.pn]

/-- The registers in which a request of a live-required region, or a touch record, may be counted. -/
def requestKeys : List Nat := [O.touchEventsLost.key 0, O.witnessRefused.key 0, O.summitUnrecorded.key 0]

/-- From `d` to `e` touch records were posted, codes raised and requests put to the witness path, and nothing else moved. -/
def Dev.requests (d e : Dev) : Prop := d.movesRecords e ∧ d.regsBut requestKeys e

theorem Dev.requests.trans {a b c : Dev} (h : a.requests b) (g : b.requests c) : a.requests c := by
  obtain ⟨hmoves, hregs⟩ := h
  obtain ⟨gmoves, gregs⟩ := g
  exact ⟨hmoves.trans gmoves, hregs.trans gregs⟩

theorem Dev.postsTouch.requests {d e : Dev} (h : d.postsTouch e) : d.requests e := by
  obtain ⟨hbare, hregs⟩ := h
  exact ⟨Dev.movesRecords_of_eq (w := d.witness) hbare, hregs.mono (by simp [requestKeys])⟩

theorem Dev.requests_bump (d : Dev) {o : Obj} (ho : o.key 0 ∈ requestKeys) : d.requests (d.bump o) :=
  ⟨Dev.movesRecords_of_eq (w := d.witness) (t := d.touch) (d.bare_bump o 0),
    (d.regsBut_bump o 0).mono (List.cons_subset.mpr ⟨ho, List.nil_subset _⟩)⟩

theorem Dev.requests_refuseRequest (d : Dev) (r : Request) (code p2 : Nat) : d.requests (d.refuseRequest r code p2) := by
  have hcounted := (d.postsTouch_bumpAction r.region 2).requests.trans (Dev.requests_bump _ (o := O.witnessRefused) (by decide))
  unfold Dev.refuseRequest
  exact hcounted.trans ((Dev.postsTouch_raise _ _ _ _ _ _).trans (Dev.postsTouch_postTouch _ _ _ _)).requests

theorem Dev.requests_refuseLive (d : Dev) (r : Request) (reason : Nat) : d.requests (d.refuseLive r reason) := by
  refine (d.requests_refuseRequest r Code.liveRequiredRefused reason).trans ?_
  unfold Dev.refuseLive
  extract_lets e
  split
  · exact ⟨rfl, fun _ _ _ => rfl⟩
  · exact e.requests_bump (by decide)

theorem Dev.requests_acceptRequest (d : Dev) (r : Request) : d.requests (d.acceptRequest r) := by
  unfold Dev.acceptRequest
  split
  · exact d.requests_refuseRequest _ _ _
  · split
    · exact d.requests_refuseRequest _ _ _
    · split
      · exact d.requests_refuseRequest _ _ _
      · exact ⟨rfl, fun _ _ _ => rfl⟩

/-- Whatever the interlock says, the witness path and the touch ring move alone. -/
theorem Dev.requests_requestLive (d : Dev) (n region : Nat) (r : Region) (down tc : Nat) (hold : Bool) (record : Bytes) :
    d.requests (d.requestLive n region r down tc hold record) := by
  unfold Dev.requestLive
  extract_lets h e vis y0 start ev q
  split
  · exact d.requests_refuseLive q 6
  · split
    · exact d.requests_refuseLive q 4
    · split
      next reason _ => exact d.requests_refuseLive q reason
      · exact d.requests_acceptRequest q

/-- The region disarms until the contacts inside it lift. -/
def Dev.disarm (d : Dev) (n r : Nat) : Dev := d.modPn n fun p =>
  { p with fired := tset p.fired r <|
      ((d.pn n).contacts.filter fun c => !c.off && (d.actionRegion r).holdsPx c.x c.y).map (·.id) }

/-- A region fires that is not live-required: counted, posted to the touch ring, told. -/
def Dev.tellFired (d : Dev) (n r : Nat) (record : Bytes) : Dev :=
  ((d.bumpAction r 0).postTouch (withRegion record r) 4 0).raise Code.touchActionFired n r

theorem Dev.fireRegion_eq (d : Dev) (n r : Nat) (record : Bytes) (down tc : Nat) (hold : Bool) :
    d.fireRegion n r record down tc hold =
      if (d.actionRegion r).kind = 1 then
        (d.disarm n r).requestLive n r (d.actionRegion r) down tc hold (withRegion record r)
      else (d.disarm n r).tellFired n r record := rfl

theorem Dev.postsTouch_tellFired (d : Dev) (n r : Nat) (record : Bytes) : d.postsTouch (d.tellFired n r record) :=
  ((d.postsTouch_bumpAction r 0).trans (Dev.postsTouch_postTouch _ _ _ _)).trans (Dev.postsTouch_raise _ _ _ _ _ _)

theorem Dev.requests_fireRegion (d : Dev) (n r : Nat) (record : Bytes) (down tc : Nat) (hold : Bool) :
    (d.disarm n r).requests (d.fireRegion n r record down tc hold) := by
  rw [Dev.fireRegion_eq]
  split
  · exact Dev.requests_requestLive _ _ _ _ _ _ _ _
  · exact (Dev.postsTouch_tellFired _ _ _ _).requests

/-! ### HOLD_COMPLETE (R285) -/

/-- The holds of a region are over. -/
def Dev.endHold (d : Dev) (n r : Nat) : Dev := d.modPn n fun p => { p with holds := p.holds.filter fun k => k.region != r }

/-- What HOLD_COMPLETE does of a hold whose completing scan has been processed. -/
theorem gives_holdComplete {s : State} {t : Nat} {n : Fin 4} {region : Fin 256} {k : Hold} {P : Dev → Prop} {d : Dev}
    (hd : s.dev.tick t = d) (halive : d.alive = true)
    (hdone : (d.pn n).holds.find? (fun x => x.region == region.val && x.doneAt.isSome) = some k)
    (h : P ((d.endHold n region).fireRegion n region k.record k.down (k.doneAt.getD 0) true)) :
    s.gives (.holdComplete t n region) P := by
  refine State.gives_when (b := fun d => d.alive) hd rfl halive ?_
  simp only [hdone]
  exact h

theorem holdFires : Claims.HoldFires := by
  intro s t n region k d halive hdone
  refine gives_holdComplete (d := d) rfl halive hdone ?_
  have hmoves := ((d.endHold n region).requests_fireRegion n region k.record k.down (k.doneAt.getD 0) true).1
  have hpn := hmoves.pn
  refine ⟨fun x hx => ?_, ?_, fun (hkind : ((d.endHold n region).actionRegion region).kind ≠ 1) => ?_, fun o ho => ?_, ?_⟩
  · rw [hpn, Dev.disarm, Dev.pn_modPn, Dev.endHold, Dev.pn_modPn] at hx
    exact bne_iff_ne.mp (List.mem_filter.mp hx).2
  · rw [hpn, Dev.disarm, Dev.pn_modPn, tfind_tset_self]
    rfl
  · rw [Dev.fireRegion_eq, if_neg hkind]
    exact ⟨Dev.told_raise _ _ _ _ _ _, (congrArg Dev.witness (Dev.postsTouch_tellFired _ _ _ _).1 :)⟩
  · rw [hpn, Dev.disarm, Dev.pn_modPn_ne _ _ ho, Dev.endHold, Dev.pn_modPn_ne _ _ ho]
  · rw [hmoves.panels, hmoves]
    rfl

/-! ### CONTACT_EXPIRY (R277) -/

/-- The contact is reported lifted. -/
def Dev.tellExpired (d : Dev) (c : Contact) : Dev := if c.silent then d else d.postTouch c.record 2 2

theorem Dev.postsTouch_tellExpired (d : Dev) (c : Contact) : d.postsTouch (d.tellExpired c) := by
  unfold Dev.tellExpired
  split
  · exact Dev.postsTouch.refl d
  · exact d.postsTouch_postTouch c.record 2 2

/-- An expired contact is gone, and its holds are cancelled. -/
def Dev.dropContact (d : Dev) (n : Nat) (c : Contact) : Dev :=
  ((d.tellExpired c).modPn n fun p => { p with contacts := p.contacts.filter fun q => q.id != c.id }).cancelHolds n
    fun k => k.contact == c.id

/-- The last scan of panel `n`, as its baselines are taken from it. -/
def Dev.lastScanIn (d : Dev) (n f at_ : Nat) : ScanIn :=
  ⟨n, f, at_, ((d.pn n).fr f).prev.getD [], (d.drives n).length, (d.senses n).length, d.rn O.panelThreshold n⟩

/-- A contact expires: the nodes under it and next to it are re-baselined to the last scan. -/
def Dev.expireContact (d : Dev) (n : Nat) (c : Contact) (f at_ : Nat) : Dev :=
  (((d.dropContact n c).rebase (d.lastScanIn n f at_) <|
    (nodesOf (d.drives n).length (d.senses n).length).filter fun q => c.blob.any (near 1 q)).raise Code.touchExpired n).rearm n

/-- What CONTACT_EXPIRY does of a contact that has been down for the expiry time at the last scan. -/
theorem gives_contactExpiry {s : State} {t : Nat} {n : Fin 4} {id : Fin 10} {c : Contact} {f at_ : Nat} {P : Dev → Prop} {d : Dev}
    (hd : s.dev.tick t = d) (hscanning : d.scanning n = true)
    (hdown : (d.pn n).contacts.find? (fun x => x.id == id.val) = some c) (hlast : (d.pn n).lastScan = some (f, at_))
    (hold : c.down + d.rn O.panelExpiry n * sec ≤ at_) (h : P (d.expireContact n c f at_)) :
    s.gives (.contactExpiry t n id) P := by
  refine State.gives_when (b := fun d => d.scanning n) hd rfl hscanning ?_
  have hexpiring : d.expiring n at_ c = true := decide_eq_true hold
  simp only [hdown, hlast, hexpiring, if_true]
  exact h

theorem Dev.pn_dropContact (d : Dev) (n : Nat) (c : Contact) : (d.dropContact n c).pn n =
    ({ d.pn n with contacts := (d.pn n).contacts.filter fun q => q.id != c.id } : Panel).dropHolds fun k => k.contact == c.id := by
  rw [Dev.dropContact, Dev.pn_cancelHolds, Dev.pn_modPn, (d.postsTouch_tellExpired c).pn]

theorem Dev.movesPanel_dropContact {n : Nat} {ks : List Nat} (hks : O.touchEventsLost.key 0 ∈ ks) (d : Dev) (c : Contact) :
    Dev.movesPanel n ks d (d.dropContact n c) :=
  (((d.postsTouch_tellExpired c).movesPanel n hks).trans (Dev.movesPanel_modPn n ks _ _)).trans
    (Dev.movesPanel_cancelHolds hks _ _)

/-- A re-baseline changes the panel's baselines, and is counted. -/
theorem Dev.rebase_keeps (d : Dev) {x : ScanIn} {n : Nat} (hn : x.n = n) (nodes : List (Nat × Nat)) :
    ((d.rebase x nodes).pn n).contacts = (d.pn n).contacts ∧ ((d.rebase x nodes).pn n).state = (d.pn n).state ∧
      (d.rebase x nodes).rn O.panelRebaselines n = upTo O.panelRebaselines (d.rn O.panelRebaselines n) ∧
      Dev.movesPanel n [O.panelRebaselines.key n] d (d.rebase x nodes) := by
  subst hn
  unfold Dev.rebase
  extract_lets b b'
  have hbare (f : Panel → Panel) := (d.modPn x.n f).bare_bump O.panelRebaselines x.n
  refine ⟨?_, ?_, Dev.rn_bump _ _ _ (by decide),
    (Dev.movesPanel_modPn _ _ _ _).trans (Dev.movesPanel_of_bare (hbare _) (Dev.regsBut_bump _ _ _))⟩
  · rw [Dev.of_bare (Dev.pn · x.n) (fun _ => rfl) (hbare _), Dev.pn_modPn]
    rfl
  · rw [Dev.of_bare (Dev.pn · x.n) (fun _ => rfl) (hbare _), Dev.pn_modPn]
    rfl

theorem Dev.rearm_keeps (d : Dev) (n : Nat) :
    ((d.rearm n).pn n).contacts = (d.pn n).contacts ∧ ((d.rearm n).pn n).state = (d.pn n).state := by
  rw [Dev.rearm, Dev.pn_modPn]
  exact ⟨rfl, rfl⟩

theorem Dev.movesPanel_rearm (d : Dev) (n : Nat) (ks : List Nat) : Dev.movesPanel n ks d (d.rearm n) :=
  Dev.movesPanel_modPn n ks d _

/-- Reporting has no register at a panel's count of re-baselines. -/
theorem panelRebaselines_apart : ∀ n < 4,
    O.panelRebaselines.key n ∉ [O.touchEventsLost.key 0] ∧ reportKey (O.panelRebaselines.key n) = false := by decide

theorem Dev.expireContact_keeps (d : Dev) {n : Nat} (hn : n < 4) (c : Contact) (f at_ : Nat) :
    ((d.expireContact n c f at_).pn n).contacts = (d.pn n).contacts.filter (fun q => q.id != c.id) ∧
      (d.expireContact n c f at_).told Code.touchExpired n ∧
      (d.expireContact n c f at_).rn O.panelRebaselines n = upTo O.panelRebaselines (d.rn O.panelRebaselines n) ∧
      ((d.expireContact n c f at_).pn n).state = (d.pn n).state ∧
      Dev.movesPanel n [O.panelRebaselines.key n, O.touchEventsLost.key 0] d (d.expireContact n c f at_) := by
  obtain ⟨hlostApart, hreport⟩ := panelRebaselines_apart n hn
  have hpn := d.pn_dropContact n c
  have hdropped := Dev.movesPanel_dropContact (n := n) (List.mem_singleton_self _) d c
  have hcount : (d.dropContact n c).rn O.panelRebaselines n = d.rn O.panelRebaselines n :=
    Dev.rn_congr (hdropped.regsBut _ hlostApart hreport)
  unfold Dev.expireContact
  generalize d.dropContact n c = e at *
  obtain ⟨rcontacts, rstate, rcount, rmoves⟩ := e.rebase_keeps (x := d.lastScanIn n f at_) (n := n) rfl <|
    (nodesOf (d.drives n).length (d.senses n).length).filter fun q => c.blob.any (near 1 q)
  generalize e.rebase (d.lastScanIn n f at_) _ = r at *
  have htold := r.postsTouch_raise Code.touchExpired n 0 0 0
  have hcounted := (r.quiet_raise Code.touchExpired n 0 0 0).rn hreport
  refine ⟨?_, r.told_raise Code.touchExpired n 0 0 0, ?_, ?_, ?_⟩
  · rw [(Dev.rearm_keeps _ n).1, htold.pn, rcontacts, hpn]
    rfl
  · rw [← hcount, ← rcount]
    exact hcounted
  · rw [(Dev.rearm_keeps _ n).2, htold.pn, rstate, hpn]
    rfl
  · exact ((hdropped.mono (by simp)).trans (rmoves.mono (by simp))).trans
      ((htold.movesPanel n (by simp)).trans (Dev.movesPanel_rearm _ n _))

theorem contactExpires : Claims.ContactExpires := by
  intro s t n id c f at_ d hscanning hdown hlast hold
  refine gives_contactExpiry (d := d) rfl hscanning hdown hlast hold ?_
  have hid : c.id = id := beq_iff_eq.mp (List.find?_some hdown :)
  rw [← hid]
  obtain ⟨hcontacts, htold, hcount, hstate, hothers, hrest⟩ := d.expireContact_keeps n.isLt c f at_
  exact ⟨hcontacts, htold, hcount, hstate, hothers, hrest⟩

/-- Settles O31: a region that fires moves the witness path and the touch ring alone, whatever the interlock says
(`Dev.requests_fireRegion`), so that the panel stays as the firing disarmed it; what an expired contact reports before it is
re-baselined leaves the count of re-baselines (`panelRebaselines_apart`), which then counts one (`Dev.rebase_keeps`). -/
theorem touchActs : Obligations.TouchActs := ⟨holdFires, contactExpires⟩

/-! ### What stays while a scan is processed (R286) -/

/-- Past the reporting, from `d` to `e` nothing but panel `n`, the touch ring and the witness path moved; the panel's scan, its last
scan and its count of scans are as they were. -/
def Dev.scansOn (n : Nat) (d e : Dev) : Prop :=
  (∀ o, o ≠ n → e.pn o = d.pn o) ∧ (e.pn n).scan = (d.pn n).scan ∧ (e.pn n).lastScan = (d.pn n).lastScan ∧
    e.bare = { d.bare with panels := e.panels, touch := e.touch, witness := e.witness } ∧
    e.rn O.panelScans n = d.rn O.panelScans n

theorem Dev.scansOn.refl (n : Nat) (d : Dev) : Dev.scansOn n d d := ⟨fun _ _ => rfl, rfl, rfl, rfl, rfl⟩

theorem Dev.scansOn.trans {n : Nat} {a b c : Dev} (h : Dev.scansOn n a b) (g : Dev.scansOn n b c) : Dev.scansOn n a c := by
  obtain ⟨hpn, hscan, hlast, hbare, hcount⟩ := h
  obtain ⟨gpn, gscan, glast, gbare, gcount⟩ := g
  exact ⟨fun o ho => (gpn o ho).trans (hpn o ho), gscan.trans hscan, glast.trans hlast, by rw [gbare, hbare],
    gcount.trans hcount⟩

/-- Steps taken one after another. -/
theorem Dev.scansOn_foldl {α : Type} {n : Nat} {f : Dev → α → Dev} (hf : ∀ d x, Dev.scansOn n d (f d x)) (l : List α)
    (d : Dev) : Dev.scansOn n d (l.foldl f d) :=
  List.foldlRecOn _ _ (Dev.scansOn.refl n d) fun e he x _ => he.trans (hf e x)

theorem Dev.scansOn_modPn {n : Nat} (d : Dev) (f : Panel → Panel)
    (hf : ∀ p, (f p).scan = p.scan ∧ (f p).lastScan = p.lastScan := by exact fun _ => ⟨rfl, rfl⟩) :
    Dev.scansOn n d (d.modPn n f) := by
  refine ⟨fun _ ho => d.pn_modPn_ne f ho, ?_, ?_, rfl, rfl⟩
  · rw [Dev.pn_modPn, (hf _).1]
  · rw [Dev.pn_modPn, (hf _).2]

theorem Dev.movesRecords.scansOn {n : Nat} {d e : Dev} (h : d.movesRecords e)
    (hcount : e.rn O.panelScans n = d.rn O.panelScans n) : Dev.scansOn n d e := by
  refine ⟨fun o _ => h.pn o, by rw [h.pn], by rw [h.pn], ?_, hcount⟩
  rw [h.panels, h]
  rfl

theorem Dev.scansOn_bump {n : Nat} (d : Dev) {o : Obj} {i : Nat} (ho : O.panelScans.key n ≠ o.key i) :
    Dev.scansOn n d (d.bump o i) :=
  Dev.movesRecords.scansOn (Dev.movesRecords_of_eq (w := d.witness) (t := d.touch) (d.bare_bump o i))
    (Dev.rn_congr (d.bump_regs o i ho))

/-- Reporting, requests and the other counters of panels have no register at a count of scans. -/
theorem panelScans_apart : ∀ n < 4, O.panelScans.key n ∉ requestKeys ∧ reportKey (O.panelScans.key n) = false ∧
    O.panelScans.key n ≠ O.panelRebaselines.key n ∧ O.panelScans.key n ≠ O.panelHops.key n := by decide

section

variable {n : Nat} (hn : n < 4)
include hn

theorem Dev.requests.scansOn {d e : Dev} (h : d.requests e) : Dev.scansOn n d e := by
  obtain ⟨hmoves, hregs⟩ := h
  obtain ⟨hrequests, hreport, -⟩ := panelScans_apart n hn
  exact Dev.movesRecords.scansOn hmoves (Dev.rn_congr (hregs _ hrequests hreport))

theorem Dev.scansOn_raise (d : Dev) (c p0 p1 p2 p3 : Nat) : Dev.scansOn n d (d.raise c p0 p1 p2 p3) :=
  (d.postsTouch_raise c p0 p1 p2 p3).requests.scansOn hn

theorem Dev.scansOn_raiseOnce (d : Dev) (ns u c p0 p1 p2 p3 : Nat) : Dev.scansOn n d (d.raiseOnce ns u c p0 p1 p2 p3) :=
  (Dev.postsTouch_of_quiet (d.bare_raiseOnce ns u c p0 p1 p2 p3) (d.quiet_raiseOnce ns u c p0 p1 p2 p3)).requests.scansOn hn

theorem Dev.scansOn_postTouch (d : Dev) (r : Bytes) (event reason : Nat) : Dev.scansOn n d (d.postTouch r event reason) :=
  (d.postsTouch_postTouch r event reason).requests.scansOn hn

theorem Dev.scansOn_cancelHolds (d : Dev) (bad : Hold → Bool) : Dev.scansOn n d (d.cancelHolds n bad) :=
  (d.scansOn_modPn _).trans ((d.postsTouch_cancelHolds n bad).requests.scansOn hn)

theorem Dev.scansOn_fireRegion (d : Dev) (r : Nat) (record : Bytes) (down tc : Nat) (hold : Bool) :
    Dev.scansOn n d (d.fireRegion n r record down tc hold) :=
  (d.scansOn_modPn _).trans ((d.requests_fireRegion n r record down tc hold).scansOn hn)

/-! #### A scan in BASELINING (R274) -/

theorem Dev.scansOn_nextCapture (d : Dev) : Dev.scansOn n d (d.nextCapture n) := by
  unfold Dev.nextCapture
  extract_lets fits
  split
  · exact d.scansOn_modPn _
  · exact (d.scansOn_modPn _).trans (Dev.scansOn_raise hn _ _ _ _ _ _)

theorem Dev.scansOn_captureScan (d : Dev) {x : ScanIn} (hx : x.n = n) (noise : Nat) : Dev.scansOn n d (d.captureScan x noise) := by
  subst hx
  unfold Dev.captureScan
  extract_lets p r still quiet e
  have hquiet : Dev.scansOn x.n d e := d.scansOn_modPn _
  split
  · exact (hquiet.trans (Dev.scansOn_modPn _ _)).trans (Dev.scansOn_nextCapture hn _)
  · exact hquiet

end

/-! #### A scan of an active panel (R275, R276, R279 to R288) -/

theorem Dev.scansOn_stampRecords (d : Dev) (x : ScanIn) : Dev.scansOn x.n d (d.stampRecords x.n x.at_) := by
  unfold Dev.stampRecords
  extract_lets stamp
  exact d.scansOn_modPn _

theorem Dev.scansOn_drift (d : Dev) (x : ScanIn) : Dev.scansOn x.n d (d.drift x) := by
  unfold Dev.drift
  extract_lets dl b covered far b' sum
  exact d.scansOn_modPn _

section

variable {x : ScanIn} (hn : x.n < 4)
include hn

theorem Dev.scansOn_checkHead (d : Dev) (lost : Bool) : Dev.scansOn x.n d (d.checkHead x.n lost) := by
  unfold Dev.checkHead
  extract_lets e
  have hlifted : Dev.scansOn x.n d e := by
    unfold e
    split
    · exact (((d.postsTouch_tellLifted x.n 5).requests.scansOn hn).trans (Dev.scansOn_cancelHolds hn _ _)).trans
        (Dev.scansOn_modPn _ _)
    · exact Dev.scansOn.refl _ d
  exact hlifted.trans (e.scansOn_modPn _)

theorem Dev.scansOn_rebase (d : Dev) (nodes : List (Nat × Nat)) : Dev.scansOn x.n d (d.rebase x nodes) := by
  obtain ⟨-, -, hrebaselines, -⟩ := panelScans_apart x.n hn
  exact (d.scansOn_modPn _).trans (Dev.scansOn_bump _ hrebaselines)

theorem Dev.scansOn_rebaseline (d : Dev) : Dev.scansOn x.n d (d.rebaseline x) :=
  Dev.scansOn_foldl (fun e _ => (Dev.scansOn_rebase hn e _).trans (Dev.scansOn_raise hn _ _ _ _ _ _)) _ d

theorem Dev.scansOn_tellEach (d : Dev) (cs : List Contact) (event reason : Nat) :
    Dev.scansOn x.n d (cs.foldl (fun (d : Dev) c => if c.silent then d else d.postTouch c.record event reason) d) := by
  refine Dev.scansOn_foldl (fun e c => ?_) cs d
  split
  · exact Dev.scansOn.refl _ e
  · exact Dev.scansOn_postTouch hn e _ _ _

theorem Dev.scansOn_rejectLarge (d : Dev) (lost : Bool) : Dev.scansOn x.n d (d.rejectLarge x lost).2 := by
  unfold Dev.rejectLarge
  extract_lets r
  have hr : Dev.scansOn x.n d r.2.2 := by
    refine List.foldlRecOn (motive := fun (st : List Blob × List (List (Nat × Nat)) × Dev) => Dev.scansOn x.n d st.2.2) _ _
      (Dev.scansOn.refl _ d) fun st hst b _ => ?_
    extract_lets e meets old owners e1 e2 px rec_ e3
    split
    · exact hst
    · split
      · have hlifted : Dev.scansOn x.n d e2 :=
          (hst.trans (Dev.scansOn_tellEach hn e owners 2 3)).trans (e1.scansOn_modPn _)
        have htold : Dev.scansOn x.n e2 e3 := by
          unfold e3
          split
          · exact Dev.scansOn.refl _ e2
          · split
            · exact Dev.scansOn_raiseOnce hn e2 _ _ _ _ _ _ _
            · exact (Dev.scansOn_postTouch hn e2 _ _ _).trans (Dev.scansOn_raiseOnce hn _ _ _ _ _ _ _ _)
        exact hlifted.trans htold
      · exact hst
  exact hr.trans (Dev.scansOn_modPn _ _)

theorem Dev.scansOn_moveContact (d : Dev) (c : Contact) (b : Blob) : Dev.scansOn x.n d (d.moveContact x c b) := by
  unfold Dev.moveContact
  extract_lets c1 moved c2 e
  have hplaced : Dev.scansOn x.n d e := d.scansOn_modPn _
  split
  · exact hplaced.trans (Dev.scansOn_postTouch hn e _ _ _)
  · exact hplaced

theorem Dev.scansOn_newContact (d : Dev) (lost : Bool) (b : Blob) : Dev.scansOn x.n d (d.newContact x lost b) := by
  unfold Dev.newContact
  split
  · exact Dev.scansOn_raiseOnce hn d _ _ _ _ _ _ _
  · extract_lets c1 c2 c3 e
    have hadded : Dev.scansOn x.n d e := d.scansOn_modPn _
    split
    · exact hadded
    · exact hadded.trans (Dev.scansOn_postTouch hn e _ _ _)

theorem Dev.scansOn_runHolds (d : Dev) : Dev.scansOn x.n d (d.runHolds x) :=
  (Dev.scansOn_cancelHolds hn d _).trans (Dev.scansOn_modPn _ _)

theorem Dev.scansOn_touchDown (d : Dev) (r : Nat) (c : Contact) : Dev.scansOn x.n d (d.touchDown x.n r c) := by
  unfold Dev.touchDown
  extract_lets rg p
  split
  · exact Dev.scansOn.refl _ d
  · split
    · exact Dev.scansOn_fireRegion hn d _ _ _ _ _
    · exact d.scansOn_modPn _

theorem Dev.scansOn_track (d : Dev) (bs : List Blob) (lost : Bool) : Dev.scansOn x.n d (d.track x bs lost) := by
  unfold Dev.track
  extract_lets pairs stays gone d1 d2 d3 d4 fresh d5 d6
  have hgone : Dev.scansOn x.n d d2 := (Dev.scansOn_tellEach hn d gone 2 1).trans (d1.scansOn_modPn _)
  have hmoved : Dev.scansOn x.n d2 d3 := by
    refine Dev.scansOn_foldl (fun e c => ?_) _ d2
    split
    · split
      · exact e.scansOn_modPn _
      · exact Dev.scansOn_moveContact hn e _ _
    · exact Dev.scansOn.refl _ e
  have hadded : Dev.scansOn x.n d4 d5 := Dev.scansOn_foldl (fun e b => Dev.scansOn_newContact hn e lost b) fresh d4
  refine ((((hgone.trans hmoved).trans (d3.scansOn_modPn _)).trans hadded).trans (Dev.scansOn_runHolds hn d5)).trans
    (Dev.scansOn_foldl (fun e c => ?_) _ d6)
  split
  · exact Dev.scansOn_touchDown hn e _ _
  · exact Dev.scansOn.refl _ e

theorem Dev.scansOn_hop (d : Dev) : Dev.scansOn x.n d (d.hop x) := by
  obtain ⟨-, -, -, hhops⟩ := panelScans_apart x.n hn
  unfold Dev.hop
  extract_lets p c fits rested
  split
  · exact Dev.scansOn.refl _ d
  · extract_lets nq e
    have hhopped : Dev.scansOn x.n d e := by
      unfold e
      split
      · exact ((d.scansOn_modPn _).trans (Dev.scansOn_bump _ hhops)).trans (Dev.scansOn_raise hn _ _ _ _ _ _)
      · exact Dev.scansOn.refl _ d
    split
    · exact hhopped.trans (Dev.scansOn_raiseOnce hn e _ _ _ _ _ _ _)
    · exact hhopped

theorem Dev.scansOn_activeScan (d : Dev) : Dev.scansOn x.n d (d.activeScan x) := by
  unfold Dev.activeScan
  extract_lets lost e r
  have hstamped : Dev.scansOn x.n d e :=
    ((d.scansOn_stampRecords x).trans (Dev.scansOn_checkHead hn _ lost)).trans (Dev.scansOn_rebaseline hn _)
  have htracked := (Dev.scansOn_rejectLarge hn e lost).trans (Dev.scansOn_track hn r.2 r.1 lost)
  exact (hstamped.trans htracked).trans ((Dev.scansOn_drift _ x).trans (Dev.scansOn_hop hn _))

end

/-! ### VERTICAL_SCAN_START and HORIZONTAL_SCAN_START (R268, R269) -/

theorem exec_verticalScanStart (t : Nat) (n : Fin 4) (s : State) : exec (.verticalScanStart t n) s =
    s.run t fun d => d.when (d.scanning n && d.takesVertical n) fun d => d.startScan n := rfl

theorem exec_horizontalScanStart (t : Nat) (n : Fin 4) (s : State) : exec (.horizontalScanStart t n) s =
    s.run t fun d => d.when (d.scanning n && d.takesHorizontal n) fun d => d.startScan n := rfl

theorem Dev.pn_startScan (d : Dev) (n : Nat) : (d.startScan n).pn n = { d.pn n with
    scan := some (d.nextFreq n, d.now + 40000000 / d.hopFreq n (d.nextFreq n)), scanCount := (d.pn n).scanCount + 1
    rot := if d.nextFreq n = (d.pn n).cur then (d.pn n).rot else d.nextFreq n } := by
  rw [Dev.startScan, Dev.pn_modPn]

theorem scanStarts : Claims.ScanStarts := by
  intro s t n d began hscanning
  have hbegan : began (d.startScan n) := by
    unfold began
    rw [Dev.pn_startScan]
    exact ⟨rfl, rfl, rfl, rfl, fun o ho => d.pn_modPn_ne _ ho, rfl⟩
  exact ⟨fun h => State.gives_when (d := d) rfl (exec_verticalScanStart t n s) (by simp [hscanning, h]) hbegan,
    fun h => State.gives_when (d := d) rfl (exec_horizontalScanStart t n s) (by simp [hscanning, h]) hbegan⟩

/-! ### BASELINE_TIMEOUT (R274) -/

@[simp] theorem Panel.fr_modFr (p : Panel) (f : Nat) (g : Freq → Freq) : (p.modFr f g).fr f = g (p.fr f) := by
  simp [Panel.modFr, Panel.fr]

/-- The capture moves to another frequency or ends; what was measured stays. -/
theorem Dev.nextCapture_keeps (d : Dev) (n : Nat) : ((d.nextCapture n).pn n).freqs = (d.pn n).freqs ∧
    Dev.tellsPanel n 1 d (d.nextCapture n) := by
  unfold Dev.nextCapture
  extract_lets fits
  split
  next f _ =>
    obtain ⟨hpn, hbare, hquiet, hrec⟩ := d.tellsPanel_modPn n fun p => { p with cur := f, freqStart := d.now }
    refine ⟨by rw [Dev.pn_modPn], hpn, hbare, hquiet, fun hfree => ?_⟩
    exact (hrec (Dev.evFree_mono (Nat.zero_le 1) hfree)).mono (Nat.zero_le 1)
  · exact ⟨by rw [Dev.pn_raise, Dev.pn_modPn], (d.tellsPanel_modPn n _).trans (Dev.tellsPanel_raise _ n _ _)⟩

/-- The baseline of the frequency in capture is forced to the mean of its last scans. -/
def Dev.forceBase (d : Dev) (n : Nat) : Dev :=
  let b := meanScan (d.drives n).length (d.senses n).length ((d.pn n).fr (d.pn n).cur).recent
  d.modPn n fun p => p.modFr p.cur fun r => { r with base := some b, quiet := [] }

/-- What BASELINE_TIMEOUT does 2 s into a capture with a scan. -/
theorem gives_baselineTimeout {s : State} {t : Nat} {n : Fin 4} {P : Dev → Prop} {d : Dev} (hd : s.dev.tick t = d)
    (hscanning : d.scanning n = true) (hstate : (d.pn n).state = .baselining) (hlate : (d.pn n).freqStart + 2 * sec ≤ d.now)
    (hrecent : ((d.pn n).fr (d.pn n).cur).recent ≠ [])
    (h : P (((d.forceBase n).raise Code.touchBaselineForced n).nextCapture n)) : s.gives (.baselineTimeout t n) P := by
  refine State.gives_when (b := fun d => d.scanning n) hd rfl hscanning ?_
  have hdue : ((d.pn n).state == .baselining && (d.pn n).freqStart + 2 * sec ≤ d.now &&
      !((d.pn n).fr (d.pn n).cur).recent.isEmpty) = true := by simp [hstate, hlate, hrecent]
  dsimp only
  rw [if_pos hdue]
  exact h

theorem baselineForced : Claims.BaselineForced := by
  intro s t n d hscanning hstate hlate hrecent hfree
  refine gives_baselineTimeout (d := d) rfl hscanning hstate hlate hrecent ?_
  have hforced : Dev.tellsPanel n 0 d (d.forceBase n) := d.tellsPanel_modPn n _
  have hraise := (d.forceBase n).tellsPanel_raise n Code.touchBaselineForced n
  have hlogs : d.logs ((d.forceBase n).raise Code.touchBaselineForced n) Code.touchBaselineForced n 0 :=
    (d.forceBase n).logs_raise _ _ _ _ _ (Dev.evFree_mono (d := d) (Nat.le_succ 1) hfree)
  have hfreqs : (((d.forceBase n).raise Code.touchBaselineForced n).pn n).freqs = ((d.forceBase n).pn n).freqs := by
    rw [Dev.pn_raise]
  have htold := hforced.trans hraise
  generalize (d.forceBase n).raise Code.touchBaselineForced n = e at *
  obtain ⟨kfreqs, hnext⟩ := e.nextCapture_keeps n
  have hroom := (htold.records (Dev.evFree_mono (Nat.le_succ 1) hfree)).evFree (m := 1) hfree
  obtain ⟨hothers, hbare, hquiet, -⟩ := htold.trans hnext
  refine ⟨?_, hlogs.then_records (hnext.records hroom), hothers, hbare, hquiet.regsBut []⟩
  rw [Panel.fr, kfreqs, hfreqs, ← Panel.fr, Dev.forceBase, Dev.pn_modPn, Panel.fr_modFr]

/-! ### SCAN_COMPLETE (R272 to R286, R290) -/

/-- A good scan is the panel's last. -/
def Dev.keepScan (d : Dev) (n f at_ : Nat) : Dev := d.modPn n fun p => { p with scan := none, lastScan := some (f, at_) }

/-- What a good scan is processed with. -/
def Dev.scanIn (d : Dev) (n f at_ : Nat) (sc : ScanData) : ScanIn :=
  ⟨n, f, at_, d.mendOpen n sc.nodes, (d.drives n).length, (d.senses n).length, d.rn O.panelThreshold n⟩

/-- The noise of a scan. -/
def scanNoise (sc : ScanData) : Nat := sumL (sc.listen.map fun v => v.natAbs ^ 2)

/-- A good scan is counted, and its noise is kept. -/
def Dev.countScan (d : Dev) (n f : Nat) (sc : ScanData) : Dev :=
  (d.modPn n fun p => p.modFr f fun r => { r with noise := (scanNoise sc :: r.noise).take 16 }).bump O.panelScans n

/-- A good scan is processed by the panel's state. -/
def Dev.useScan (d : Dev) (x : ScanIn) (noise : Nat) : Dev :=
  (if (d.pn x.n).state == .baselining then d.captureScan x noise else d.activeScan x).modPn x.n fun p =>
    p.modFr x.f fun r => { r with prev := some x.m }

/-- A good scan that is no retry is kept, counted and processed. -/
def Dev.goodScan (d : Dev) (n f at_ : Nat) (sc : ScanData) : Dev :=
  ((d.keepScan n f at_).countScan n f sc).useScan ((d.keepScan n f at_).scanIn n f at_ sc) (scanNoise sc)

/-- A good scan, the retry of a failed one or not. -/
def Dev.takeGood (d : Dev) (n f at_ : Nat) (sc : ScanData) : Dev :=
  let e := (d.keepScan n f at_).scanRetryOk n
  if !e.scanning n then e else (e.countScan n f sc).useScan (e.scanIn n f at_ sc) (scanNoise sc)

theorem Dev.takeGood_first {d : Dev} {n f at_ : Nat} (sc : ScanData) (hscanning : d.scanning n = true)
    (hfirst : (d.pn n).failed = false) : d.takeGood n f at_ sc = d.goodScan n f at_ sc := by
  have hkept : ((d.keepScan n f at_).pn n).failed = false ∧ ((d.keepScan n f at_).pn n).state = (d.pn n).state := by
    rw [Dev.keepScan, Dev.pn_modPn]
    exact ⟨hfirst, rfl⟩
  have hno : (d.keepScan n f at_).scanRetryOk n = d.keepScan n f at_ := by
    simp [Dev.scanRetryOk, hkept.1]
  have hstill : (d.keepScan n f at_).scanning n = true := by
    rw [Dev.scanning, hkept.2]
    exact hscanning
  simp only [Dev.takeGood, hno, hstill, Bool.not_true, Bool.false_eq_true, if_false, Dev.goodScan]

/-- A failed scan that is no retry is reported, and retried. -/
def Dev.badScan (d : Dev) (n : Nat) (sc : ScanData) : Dev :=
  ((d.modPn n fun p => { p with scan := none }).raise Code.touchScanFault n).modPn n fun p =>
    { p with failed := true, failPins := sc.badPins }

theorem Dev.scanFailed_first {d : Dev} {n : Nat} (sc : ScanData) (hfirst : (d.pn n).failed = false) :
    d.scanFailed n sc.badPins = d.badScan n sc := by
  refine if_neg ?_
  rw [Dev.pn_raise, Dev.pn_modPn]
  simp [hfirst]

/-- What SCAN_COMPLETE does of a scan that is no retry. -/
theorem exec_scanComplete {s : State} {t : Nat} {n : Fin 4} (sc : ScanData) {f at_ : Nat} {d : Dev} (hd : s.dev.tick t = d)
    (hscanning : d.scanning n = true) (hscan : (d.pn n).scan = some (f, at_)) (hfirst : (d.pn n).failed = false) :
    exec (.scanComplete t n sc) s = s.run t fun _ => if sc.good then d.goodScan n f at_ sc else d.badScan n sc := by
  subst hd
  refine congrArg (fun e => Host.Outcome.next { s with dev := e }) ((Dev.when_pos _ hscanning).trans ?_)
  dsimp only
  rw [hscan, ← Dev.takeGood_first sc hscanning hfirst, ← Dev.scanFailed_first sc hfirst]
  cases sc.good <;> rfl

theorem Dev.badScan_keeps {d : Dev} {n : Nat} (sc : ScanData) (hfree : d.evFree 1 = true) :
    (d.badScan n sc).pn n = { d.pn n with scan := none, failed := true, failPins := sc.badPins } ∧
      d.logs (d.badScan n sc) Code.touchScanFault n 0 ∧ Dev.tellsPanel n 1 d (d.badScan n sc) := by
  refine ⟨?_, Dev.logs_raise (d := d.modPn n _) _ _ _ _ _ hfree,
    ((d.tellsPanel_modPn n _).trans (Dev.tellsPanel_raise _ n _ _)).trans (Dev.tellsPanel_modPn _ n _)⟩
  rw [Dev.badScan, Dev.pn_modPn, Dev.pn_raise, Dev.pn_modPn]

theorem Dev.scansOn_useScan (d : Dev) {x : ScanIn} (hn : x.n < 4) (noise : Nat) : Dev.scansOn x.n d (d.useScan x noise) := by
  refine Dev.scansOn.trans ?_ (Dev.scansOn_modPn _ _)
  split
  · exact Dev.scansOn_captureScan hn d rfl noise
  · exact Dev.scansOn_activeScan hn d

theorem Dev.countScan_keeps (d : Dev) (n f : Nat) (sc : ScanData) :
    ((d.countScan n f sc).pn n).scan = (d.pn n).scan ∧ ((d.countScan n f sc).pn n).lastScan = (d.pn n).lastScan ∧
      (∀ o, o ≠ n → (d.countScan n f sc).pn o = d.pn o) ∧
      (d.countScan n f sc).bare = { d.bare with panels := (d.countScan n f sc).panels } := by
  have hbare (g : Panel → Panel) := (d.modPn n g).bare_bump O.panelScans n
  have hpn (g : Panel → Panel) (o : Nat) := Dev.of_bare (Dev.pn · o) (fun _ => rfl) (hbare g)
  unfold Dev.countScan
  refine ⟨?_, ?_, fun o ho => (hpn _ o).trans (d.pn_modPn_ne _ ho), ?_⟩
  · rw [hpn, Dev.pn_modPn]
    rfl
  · rw [hpn, Dev.pn_modPn]
    rfl
  · rw [hbare, Dev.of_bare Dev.panels (fun _ => rfl) (hbare _)]
    rfl

/-- A counter of eight bytes shows a free value past its largest one (log 9). -/
theorem Dev.rn_bump_u64 (d : Dev) {o : Obj} (i : Nat) (ho : o.size = 8) : (d.bump o i).rn o i =
    if d.rn o i + 1 < 2 ^ 64 then d.rn o i + 1 else (Config.freeWord d.freeCtr).toNat := by
  unfold Dev.bump Dev.bumpBy
  simp only [ho, Nat.lt_irrefl, if_false]
  split
  · exact Dev.rn_setN _ _ _ _ _
  · exact Dev.rn_setN _ _ _ _ _

/-- A good scan is counted once, whatever its processing does. -/
theorem Dev.goodScan_keeps (d : Dev) {n : Nat} (hn : n < 4) (f at_ : Nat) (sc : ScanData) :
    ((d.goodScan n f at_ sc).pn n).scan = none ∧ ((d.goodScan n f at_ sc).pn n).lastScan = some (f, at_) ∧
      (d.goodScan n f at_ sc).rn O.panelScans n =
        (if d.rn O.panelScans n + 1 < 2 ^ 64 then d.rn O.panelScans n + 1 else (Config.freeWord d.freeCtr).toNat) ∧
      (∀ o, o ≠ n → (d.goodScan n f at_ sc).pn o = d.pn o) ∧
      (d.goodScan n f at_ sc).bare = { d.bare with
        panels := (d.goodScan n f at_ sc).panels, touch := (d.goodScan n f at_ sc).touch
        witness := (d.goodScan n f at_ sc).witness } := by
  obtain ⟨cscan, clast, cothers, cbare⟩ := (d.keepScan n f at_).countScan_keeps n f sc
  obtain ⟨hothers, hscan, hlast, hbare, hcount⟩ := Dev.scansOn_useScan ((d.keepScan n f at_).countScan n f sc)
    (x := (d.keepScan n f at_).scanIn n f at_ sc) hn (scanNoise sc)
  have hkept : (d.keepScan n f at_).pn n = { d.pn n with scan := none, lastScan := some (f, at_) } := d.pn_modPn n _
  refine ⟨hscan.trans (cscan.trans (by rw [hkept])), hlast.trans (clast.trans (by rw [hkept])),
    hcount.trans (Dev.rn_bump_u64 _ n rfl), fun o ho => (hothers o ho).trans ((cothers o ho).trans (d.pn_modPn_ne _ ho)), ?_⟩
  rw [Dev.goodScan, hbare, cbare]
  rfl

theorem scanProcessed_of_freeWord (hfull : ∀ k, (Config.freeWord k).toNat = 2 ^ 64 - 1) : Claims.ScanProcessed := by
  intro s t n sc f at_ d hscanning hscan hfirst hfree
  refine State.gives_run (exec_scanComplete sc (d := d) rfl hscanning hscan hfirst) ?_
  cases sc.good with
  | true =>
    obtain ⟨hnone, hlast, hcount, hothers, hbare⟩ := d.goodScan_keeps n.isLt f at_ sc
    have hupTo : (d.goodScan n f at_ sc).rn O.panelScans n = upTo O.panelScans (d.rn O.panelScans n) := by
      rw [hcount, hfull]
      rfl
    rw [if_pos rfl]
    generalize d.goodScan n f at_ sc = e at *
    refine ⟨hnone, fun _ => ⟨hlast, hupTo⟩, nofun, hothers, (congrArg Dev.heads hbare :), (congrArg Dev.layers hbare :), ?_⟩
    have hhealth : e.health = d.health := (congrArg Dev.health hbare :)
    rw [hbare, hhealth]
    rfl
  | false =>
    obtain ⟨hpn, hlogs, hothers, hbare, -⟩ := d.badScan_keeps (n := n) sc hfree
    rw [if_neg (by decide)]
    generalize d.badScan n sc = e at *
    refine ⟨by rw [hpn], nofun, fun _ => by rw [hpn]; exact ⟨rfl, rfl, rfl, hlogs⟩, hothers, (congrArg Dev.heads hbare :),
      (congrArg Dev.layers hbare :), ?_⟩
    have htouch : e.touch = d.touch := (congrArg Dev.touch hbare :)
    have hwitness : e.witness = d.witness := (congrArg Dev.witness hbare :)
    have hhealth : e.health = d.health := (congrArg Dev.health hbare :)
    rw [hbare, htouch, hwitness, hhealth]
    rfl

theorem Dev.tick_zero (d : Dev) : d.tick 0 = d := by
  rw [Dev.tick, Nat.zero_mul, Nat.max_zero]

/-- A running device whose panel 0 awaits a scan, its count of scans at the largest value, the next free value the `k`-th. -/
def countFull (k : Nat) : Dev :=
  { freeCtr := k, power := { phase := .running }, dict := { eff := [(O.panelScans.key 0, .num (2 ^ 64 - 1))] }
    panels := [(0, { state := .active, scan := some (0, 0) })] }

theorem countFull_ready (k : Nat) : (countFull k).scanning 0 = true ∧ ((countFull k).pn 0).scan = some (0, 0) ∧
    ((countFull k).pn 0).failed = false ∧ (countFull k).evFree 1 = true := ⟨rfl, rfl, rfl, rfl⟩

theorem freeWord_of_scanProcessed (h : Claims.ScanProcessed) (k : Nat) : (Config.freeWord k).toNat = 2 ^ 64 - 1 := by
  obtain ⟨hscanning, hscan, hfirst, hfree⟩ := countFull_ready k
  have hd := (countFull k).tick_zero
  have hgives := h ⟨countFull k, [], []⟩ 0 0 ⟨true, [], [], []⟩ 0 0
  rw [hd] at hgives
  have hexec := exec_scanComplete (s := ⟨countFull k, [], []⟩) (t := 0) (n := 0) ⟨true, [], [], []⟩ hd hscanning hscan hfirst
  have hafter := State.of_gives_run hexec (hgives hscanning hscan hfirst hfree)
  rw [if_pos rfl] at hafter
  have hcount : (countFull k).rn O.panelScans 0 = 2 ^ 64 - 1 := by
    simp [Dev.rn, Dev.effV, countFull, tfind, Val.int]
  obtain ⟨-, hgood, -⟩ := hafter
  obtain ⟨-, hclaimed⟩ := hgood rfl
  obtain ⟨-, -, hshown, -⟩ := (countFull k).goodScan_keeps (n := 0) (by decide) 0 0 ⟨true, [], [], []⟩
  change _ = upTo O.panelScans ((countFull k).rn O.panelScans 0) at hclaimed
  rw [hcount] at hclaimed hshown
  exact hshown.symm.trans hclaimed

/-- O32 is not settled, either way: it holds exactly if every free value of the run is the largest of 64 bits. A panel's count of
scans has eight bytes; past its largest value it shows a free value (log 9), where the claim has it saturate. -/
theorem panelsScanned_iff : Obligations.PanelsScanned ↔ ∀ k, (Config.freeWord k).toNat = 2 ^ 64 - 1 := by
  refine ⟨fun h => ?_, fun hfull => ⟨scanStarts, scanProcessed_of_freeWord hfull, baselineForced⟩⟩
  obtain ⟨-, hprocessed, -⟩ := h
  exact freeWord_of_scanProcessed hprocessed

end Sys2Proof.Machine
